-- ==== Sys2Proof/Word.lean ====
section
/-! DEFINITION. The word types of the part's links, and the keyed table its retained records are held in. -/

namespace Sys2Proof

/-- One byte of a host link or loader link frame, or of a bay window's base or mask. -/
abbrev Byte := BitVec 8

/-- Twenty-four bits, one for each event of chapter 10: the pending set, or the event mask. -/
abbrev Flags24 := BitVec 24

/-- The part's records by key (a tag, a bay, a table index, a job or move number), in ONE canonical
form: keys strictly rising. The operations that keep the form are in Machine/Table.lean. -/
structure Table (α : Type) where
  entries : List (Nat × α)
  deriving DecidableEq, Repr, Inhabited

end Sys2Proof
end

