-- ==== Sys2Proof/Config.lean ====
section
/-! DEFINITION. What is fixed for the part: its capacities, and the free values that the manual leaves open. -/

namespace Sys2Proof

/-- R19: the pack table holds 0 to 1,024 records. -/
def Config.maxPacks : Nat := 1024

/-- R56: the truck table holds 0 to 24 records. -/
def Config.maxTrucks : Nat := 24

/-- R106: the job list holds 0 to 256 records. -/
def Config.maxJobs : Nat := 256

/-- R73: a grant needs at least 16 free job records. -/
def Config.grantRecords : Nat := 16

/-- R1: stacks are up to six high. -/
def Config.maxHeight : Nat := 6

/-- R169: the yard clock counts from 0 to 4,294,967,295. -/
def Config.clockTop : Nat := 4294967295

/-- Kilograms to grams (R38, R45). -/
def Config.gramsPerKg : Nat := 1000

/-- R168: IDENTIFY carries a hardware revision number. The manual gives no number.
UNVERIFIED, safe: a free value (log entry 14). -/
opaque Config.hardwareRevision : Byte

/-- R168: IDENTIFY carries a firmware revision number. The manual gives no number.
UNVERIFIED, safe: a free value (log entry 14). -/
opaque Config.firmwareRevision : BitVec 16

/-- R174 gives a bay place a tier byte; a move names its source and destination bay without a tier
(R4, R119), so the manual does not say which tier a MOVE message or READ LOADER shows for a bay.
A free value of the move's number and of the bay, so that the source and the destination of one message
need not show the same tier. DESIGN CHOICE, safe (log entry 15). -/
opaque Config.moveTierByte : Nat → Nat → Byte

end Sys2Proof
end

