-- ==== Sys2Proof/Syntax.lean ====
section
/-! DEFINITION. The commands: one constructor of Instr for each row of spec/opcode_table.json, with their operands. -/

namespace Sys2Proof

/-- What a host request frame carries beside its kind and its body (R155): the host's own number,
and whether bit 0 of FLAGS is set, so that the frame and its reply carry a CHECK. -/
structure Header where
  seq : Byte
  check : Bool
  deriving DecidableEq, Repr, Inhabited

/-- The levels the part finds at the end of a restart sequence (R171): the BAUD straps' rate code
(0 to 3 for 19,200 to 230,400 baud), the RAIN level (high is true) and the HALT level (asserted is true). -/
structure Pins where
  baud : Nat
  rain : Bool
  halt : Bool
  deriving DecidableEq, Repr, Inhabited

/-- One character of the weighbridge line as it arrives (R143): eight data bits, the parity bit
(ignored while the parity setting is NONE) and the stop bit (true when it is right). -/
structure LineChar where
  data : Nat
  parity : Bool
  stop : Bool
  deriving DecidableEq, Repr, Inhabited

/-- One character of the loader link as it arrives (R178, R179): its byte, and the stop bit (true when it
is right). -/
structure LinkChar where
  data : Byte
  stop : Bool
  deriving DecidableEq, Repr, Inhabited

/-- How the frame of an answer comes to the part (R178, R179): clear, as the terminal of a number sent it,
or changed on the line, as the characters that arrive in its place. -/
inductive AnswerLine where
  | clear (terminal : Nat)
  | changed (chars : List LinkChar)
  deriving DecidableEq, Repr

/-- The body of SET WINDOW (R12, R176). -/
structure WindowArgs where
  window : Nat
  enable : Nat
  kind : Nat
  base : Nat
  mask : Nat
  limit : Nat
  deriving DecidableEq, Repr

/-- The body of SET ZONING (R16, R176): the mode's code and the zones of lanes 0 to 5. -/
structure ZoningArgs where
  mode : Nat
  lane0 : Nat
  lane1 : Nat
  lane2 : Nat
  lane3 : Nat
  lane4 : Nat
  lane5 : Nat
  deriving DecidableEq, Repr

/-- The body of SET WEATHER (R46, R176). -/
structure WeatherArgs where
  edge : Nat
  prescale : Nat
  depth : Nat
  retention : Nat
  capKg : Nat
  interval : Nat
  percent : Nat
  deriving DecidableEq, Repr

/-- The body of SET PLANNING (R75, R176). -/
structure PlanningArgs where
  digLimit : Nat
  stockWait : Nat
  ageing : Nat
  headroom : Nat
  posted : Nat
  deriving DecidableEq, Repr

/-- The body of SET WEIGHING (R145, R176). -/
structure WeighingArgs where
  parity : Nat
  endChar : Nat
  offset1 : Int
  offset2 : Int
  timeout : Nat
  deriving DecidableEq, Repr

/-- The body of REGISTER PACK (R24, R176). -/
structure PackArgs where
  tag : Nat
  bay : Nat
  grade : Nat
  sectionCode : Nat
  lengthClass : Nat
  species : Nat
  volume : Nat
  moisture : Nat
  footprint : Nat
  deriving DecidableEq, Repr

/-- One order line in the body of ANNOUNCE TRUCK (R58, R176); species 255 is ANY. -/
structure LineArgs where
  grade : Nat
  sectionCode : Nat
  lengthClass : Nat
  species : Nat
  wanted : Nat
  deriving DecidableEq, Repr

/-- The body of ANNOUNCE TRUCK (R60, R176); the counts n and k are the lengths of the two lists. -/
structure TruckArgs where
  number : Nat
  cls : Nat
  shortMode : Nat
  frontLimit : Nat
  rearLimit : Nat
  grossLimit : Nat
  wheelbase : Nat
  slots : List Nat
  lines : List LineArgs
  deriving DecidableEq, Repr

/-- A host request with the fields of its body as the frame carries them, before its value checks:
the 42 request kinds of R176. -/
inductive Request where
  | setWindow (a : WindowArgs)
  | setZoning (a : ZoningArgs)
  | setSpecies (species density trim : Nat)
  | setWeather (a : WeatherArgs)
  | setPlanning (a : PlanningArgs)
  | setLoaderLink (timeout retry probe : Nat)
  | setWeighing (a : WeighingArgs)
  | setEventMask (mask : Nat)
  | readSettings
  | storeSettings
  | recallSettings
  | setClock (clock : Nat)
  | readClock
  | identify
  | registerPack (a : PackArgs)
  | removePack (tag : Nat)
  | holdPack (tag : Nat)
  | releasePack (tag : Nat)
  | locatePack (tag finding bay : Nat)
  | readPack (tag : Nat)
  | readBay (bay : Nat)
  | announceTruck (a : TruckArgs)
  | cancelTruck (number : Nat)
  | pauseTruck (number : Nat)
  | resumeTruck (number : Nat)
  | departTruck (number : Nat)
  | readTruck (number part : Nat)
  | listTrucks
  | openLane (lane : Nat)
  | closeLane (lane : Nat)
  | readLanes
  | enrollLoader (terminal credit silence : Nat)
  | retireLoader (terminal : Nat)
  | readLoader (terminal : Nat)
  | readText
  | weighIn (number : Nat)
  | weighOut (number : Nat)
  | abortWeighing
  | readWeighbridge
  | readEvents
  | runAudit
  | restart
  deriving DecidableEq, Repr

/-- The commands of the part: one constructor for each row of spec/opcode_table.json. Host requests
carry their header and the fields of their body; the other commands are arrivals on the links and
inputs, or the part's own steps at the moment they are taken (log entry 1). The
answers of the loader link carry how their frame comes to the part (R179). -/
inductive Instr where
  | setWindow (h : Header) (a : WindowArgs)
  | setZoning (h : Header) (a : ZoningArgs)
  | setSpecies (h : Header) (species density trim : Nat)
  | setWeather (h : Header) (a : WeatherArgs)
  | setPlanning (h : Header) (a : PlanningArgs)
  | setLoaderLink (h : Header) (timeout retry probe : Nat)
  | setWeighing (h : Header) (a : WeighingArgs)
  | setEventMask (h : Header) (mask : Nat)
  | readSettings (h : Header)
  | storeSettings (h : Header)
  | recallSettings (h : Header)
  | setClock (h : Header) (clock : Nat)
  | readClock (h : Header)
  | identify (h : Header)
  | registerPack (h : Header) (a : PackArgs)
  | removePack (h : Header) (tag : Nat)
  | holdPack (h : Header) (tag : Nat)
  | releasePack (h : Header) (tag : Nat)
  | locatePack (h : Header) (tag finding bay : Nat)
  | readPack (h : Header) (tag : Nat)
  | readBay (h : Header) (bay : Nat)
  | announceTruck (h : Header) (a : TruckArgs)
  | cancelTruck (h : Header) (number : Nat)
  | pauseTruck (h : Header) (number : Nat)
  | resumeTruck (h : Header) (number : Nat)
  | departTruck (h : Header) (number : Nat)
  | readTruck (h : Header) (number part : Nat)
  | listTrucks (h : Header)
  | openLane (h : Header) (lane : Nat)
  | closeLane (h : Header) (lane : Nat)
  | readLanes (h : Header)
  | enrollLoader (h : Header) (terminal credit silence : Nat)
  | retireLoader (h : Header) (terminal : Nat)
  | readLoader (h : Header) (terminal : Nat)
  | readText (h : Header)
  | weighIn (h : Header) (number : Nat)
  | weighOut (h : Header) (number : Nat)
  | abortWeighing (h : Header)
  | readWeighbridge (h : Header)
  | readEvents (h : Header)
  | runAudit (h : Header)
  | restart (h : Header)
  | unknownKind (h : Header) (kind : Byte) (body : List Byte)
  | hostFrameComplete (rest : List Byte)
  | hostFrameCutShort (rest : List Byte) (stopError : Bool)
  | hostFrameGap (byte : Byte) (stopError : Bool)
  | replyStart (hrdy : Bool)
  | replySent
  | powerOn (pins : Pins)
  | powerFail
  | retentionLatchSet
  | resetAssert
  | resetRelease (pins : Pins)
  | restartSequence (pins : Pins)
  | storeEnd (agrees : Bool)
  | recallEnd
  | clockTick
  | dryingExpiry
  | stockWaitExpiry
  | weighDeadlineExpiry
  | rainPulse
  | rainStep
  | haltAssert
  | haltRelease
  | weighRecord (chars : List LineChar)
  | weighDiscard (chars : List LineChar)
  | loaderTurn
  | probe
  | clearAllExchange
  | answerTimeout
  | idle (line : AnswerLine)
  | accept (line : AnswerLine) (move : Nat)
  | lifted (line : AnswerLine) (move : Nat)
  | done (line : AnswerLine) (move : Nat) (tag moisture : Option Nat)
  | fault (line : AnswerLine) (move reason : Nat)
  | withdrawn (line : AnswerLine) (move : Nat)
  | tooLate (line : AnswerLine) (move : Nat)
  | text (line : AnswerLine) (chars : List Byte)
  | hostFrameBegin
  | weighRecordBegin (digit : LineChar)
  | rainOtherEdge
  deriving DecidableEq, Repr

end Sys2Proof
end

