-- ==== Sys2Proof/Machine/Records.lean ====
section
/-! DEFINITION. The records of the part, block by block: map, packs, trucks, lanes, jobs, loader link, weather, weighbridge, host link, settings. -/

namespace Sys2Proof.Machine

/-! ### Bay windows and zoning (chapter 1) -/

/-- R10: the attribute a window gives to the bays it matches. -/
inductive WindowKind where
  | covered | quarantine | staging | height
  deriving DecidableEq, Repr, Inhabited

/-- R10: one bay window. -/
structure Window where
  enable : Bool
  kind : WindowKind
  base : Byte
  mask : Byte
  limit : Nat
  deriving DecidableEq, Repr, Inhabited

/-- R14: how bay numbers are divided among the zones. -/
inductive ZoningMode where
  | block | pair | row
  deriving DecidableEq, Repr, Inhabited

/-! ### Packs (chapter 2) -/

/-- R21: the states of a pack. -/
inductive PackState where
  | free | reserved | held | moving | onTruck | doubt
  deriving DecidableEq, Repr, Inhabited

/-- The two bed tiers of a truck slot, bottom and top. -/
inductive BedTier where
  | one | two
  deriving DecidableEq, Repr, Inhabited

/-- A position on a truck bed: slot and bed tier. -/
structure BedRef where
  slot : Nat
  tier : BedTier
  deriving DecidableEq, Repr, Inhabited

/-- R20: a pack's place: none; bay and tier; or lane, slot and bed tier. -/
inductive Place where
  | nowhere
  | bay (bay tier : Nat)
  | bed (lane : Nat) (at_ : BedRef)
  deriving DecidableEq, Repr, Inhabited

/-- R20: the order line a pack belongs to: truck number and line 1 to 6. -/
structure Assignment where
  truck : Nat
  line : Nat
  deriving DecidableEq, Repr, Inhabited

/-- R20: a pack record; its tag is its key in the pack table. -/
structure Pack where
  grade : Nat
  sectionCode : Nat
  lengthClass : Nat
  species : Nat
  volume : Nat
  moisture : Nat
  measured : Bool
  footprint : Nat
  registeredAt : Nat
  water : Nat
  state : PackState
  place : Place
  prior : Option PackState
  assignment : Option Assignment
  job : Option Nat
  loadedMass : Option Nat
  deriving DecidableEq, Repr, Inhabited

/-! ### Trucks and lanes (chapter 4) -/

/-- R57: PARTIAL or COMPLETE. -/
inductive ShortMode where
  | partialLoad | completeLoad
  deriving DecidableEq, Repr, Inhabited

/-- R59: the states of a truck. -/
inductive TruckState where
  | announced | queued | shortWait | loading | paused | loaded | over | cleared | unloading
  deriving DecidableEq, Repr, Inhabited

/-- The plan of one bed position (R57): the planned tag with its planned mass and shares. -/
structure Plan where
  tag : Nat
  mass : Nat
  front : Nat
  rear : Nat
  deriving DecidableEq, Repr, Inhabited

/-- R57: a bed position; it is vacant when it has no plan. -/
structure BedPos where
  plan : Option Plan
  loaded : Bool
  deriving DecidableEq, Repr, Inhabited

/-- R57: a slot at x centimetres behind the front group, with its two bed positions. -/
structure Slot where
  x : Nat
  one : BedPos
  two : BedPos
  deriving DecidableEq, Repr, Inhabited

/-- R58: an order line; species none is ANY. -/
structure OrderLine where
  grade : Nat
  sectionCode : Nat
  lengthClass : Nat
  species : Option Nat
  wanted : Nat
  assigned : List Nat
  stockShort : Nat
  weightShort : Nat
  deriving DecidableEq, Repr, Inhabited

/-- A pair of axle-group figures in kilograms: tares, or measurements (R57). -/
structure Axles where
  front : Nat
  rear : Nat
  deriving DecidableEq, Repr, Inhabited

/-- R57: a truck record; its table index is its key in the truck table. -/
structure Truck where
  number : Nat
  announcedAt : Nat
  cls : Nat
  shortMode : ShortMode
  frontLimit : Nat
  rearLimit : Nat
  grossLimit : Nat
  wheelbase : Nat
  slots : List Slot
  tare : Option Axles
  lines : List OrderLine
  lane : Option Nat
  grantedAt : Option Nat
  deadline : Option Nat
  state : TruckState
  weighedOut : Bool
  measured : Option Axles
  deriving DecidableEq, Repr, Inhabited

/-- R70: the states of a lane. -/
inductive LaneState where
  | free | occupied | closing | closed
  deriving DecidableEq, Repr, Inhabited

/-- R70: a lane record. -/
structure Lane where
  state : LaneState
  holder : Option Nat
  deriving DecidableEq, Repr, Inhabited

/-! ### Jobs (chapter 7) -/

/-- R106: a job's kind, with the fields the kind has: the bed target of a LOAD, the origin bay of a
CLEAR, the source position of an OFFLOAD. -/
inductive JobWork where
  | load (truck : Nat) (target : BedRef)
  | clear (origin : Nat)
  | offload (truck : Nat) (source : BedRef)
  deriving DecidableEq, Repr, Inhabited

/-- R107: the states of a job. -/
inductive JobState where
  | waiting | ready | asideReady | sent | accepted | lifted | suspended
  deriving DecidableEq, Repr, Inhabited

/-- R106: a job record; its job number is its key in the job list. -/
structure Job where
  work : JobWork
  tag : Nat
  state : JobState
  bound : Option Nat
  move : Option Nat
  deriving DecidableEq, Repr, Inhabited

/-! ### Terminals, moves and exchanges (chapter 8) -/

/-- R132: the kinds of a move. -/
inductive MoveKind where
  | toTruck | toStaging | fromTruck
  deriving DecidableEq, Repr, Inhabited

/-- R132: the states of a move. -/
inductive MoveState where
  | sent | accepted | lifted
  deriving DecidableEq, Repr, Inhabited

/-- R119: a move's source or destination: a bay (named without a tier), or a bed position at a lane. -/
inductive Spot where
  | bay (bay : Nat)
  | bed (lane : Nat) (at_ : BedRef)
  deriving DecidableEq, Repr, Inhabited

/-- R132: a move record; its move number is its key. -/
structure Move where
  kind : MoveKind
  job : Nat
  tag : Nat
  terminal : Nat
  source : Spot
  dest : Spot
  state : MoveState
  delivered : Bool
  deriving DecidableEq, Repr, Inhabited

/-- R124: the states of a terminal. -/
inductive TerminalState where
  | off | active | silent
  deriving DecidableEq, Repr, Inhabited

/-- R124: what silence does to a terminal's moves. -/
inductive SilenceAction where
  | report | recall
  deriving DecidableEq, Repr, Inhabited

/-- R124: a notice that waits for a terminal's turn, naming a move. -/
inductive Notice where
  | withdraw (move : Nat)
  | reject (move : Nat)
  deriving DecidableEq, Repr, Inhabited

/-- R124: a terminal record. -/
structure Terminal where
  state : TerminalState
  enrolling : Bool
  credit : Nat
  silence : SilenceAction
  moves : List Nat
  notices : List Notice
  retries : Nat
  lastHeard : Option Nat
  nextProbe : Option Nat
  deriving DecidableEq, Repr, Inhabited

/-- R178: a message of the part to a terminal. A MOVE carries what the terminal is told of the move. -/
inductive LinkMessage where
  | poll
  | move (number : Nat) (kind : MoveKind) (tag : Nat) (source dest : Spot)
  | withdraw (move : Nat)
  | clearAll
  | reject (move : Nat)
  deriving DecidableEq, Repr, Inhabited

/-- Why an exchange is made: a turn of an ACTIVE terminal (R128), a probe of a SILENT one (R131), or
the CLEAR ALL of an ENROLL LOADER (R126). -/
inductive Purpose where
  | turn | probe | clearAll
  deriving DecidableEq, Repr, Inhabited

/-- R129: the exchange in flight, with the resends made and the settings it began with (R125). -/
structure Exchange where
  terminal : Nat
  message : LinkMessage
  purpose : Purpose
  resends : Nat
  timeoutMs : Nat
  retryLimit : Nat
  deriving DecidableEq, Repr, Inhabited

/-- R141: an entry of the text queue. -/
structure TextEntry where
  terminal : Nat
  time : Nat
  chars : List Byte
  deriving DecidableEq, Repr, Inhabited

/-- R137: the reasons of a FAULT. -/
inductive FaultReason where
  | notFound | damaged | declined | lost
  deriving DecidableEq, Repr, Inhabited

/-- R178: an answer of a terminal. -/
inductive Answer where
  | idle
  | accept (move : Nat)
  | lifted (move : Nat)
  | done (move : Nat) (tag moisture : Option Nat)
  | fault (move : Nat) (reason : FaultReason)
  | withdrawn (move : Nat)
  | tooLate (move : Nat)
  | text (chars : List Byte)
  deriving DecidableEq, Repr, Inhabited

/-- R127, R179: the answer still awaited of a terminal whose exchange RETIRE LOADER ended, and the answer
timeout that the exchange began with (log entry 17). -/
structure LateAnswer where
  terminal : Nat
  timeoutMs : Nat
  deriving DecidableEq, Repr, Inhabited

/-- The loader link controller: terminals, moves, the line and the text queue. -/
structure LoaderLink where
  terminals : Vector Terminal 8
  moves : Table Move
  counter : Nat
  lastServed : Nat
  exchange : Option Exchange
  clearAlls : List Nat
  late : List LateAnswer
  texts : List TextEntry
  deriving DecidableEq, Repr

/-! ### Weather and weighbridge (chapters 3 and 9) -/

/-- R48, R52, R47: prescale count, drying deadline, and the RAIN level followed (high is true). -/
structure WeatherUnit where
  prescaleCount : Nat
  deadline : Option Nat
  rainLevel : Bool
  deriving DecidableEq, Repr, Inhabited

/-- R143: the weighbridge line receiver; COLLECTING holds the characters collected. -/
inductive LineReceiver where
  | hunting
  | collecting (chars : List Nat)
  deriving DecidableEq, Repr, Inhabited

/-- R144: the last reading of a deck. -/
structure Reading where
  raw : Int
  value : Nat
  stable : Bool
  time : Nat
  deriving DecidableEq, Repr, Inhabited

/-- R146: the direction of a weighing. -/
inductive Direction where
  | weighIn | weighOut
  deriving DecidableEq, Repr, Inhabited

/-- R146: the arming record. -/
structure Arming where
  truck : Nat
  direction : Direction
  deadline : Nat
  deck1 : Option Nat
  deck2 : Option Nat
  deriving DecidableEq, Repr, Inhabited

/-- The weighbridge unit (chapter 9). -/
structure WeighUnit where
  receiver : LineReceiver
  discards : Nat
  last1 : Option Reading
  last2 : Option Reading
  arming : Option Arming
  deriving DecidableEq, Repr, Inhabited

/-! ### Host link and events (chapter 10) -/

/-- R159: the result codes. -/
inductive Result where
  | ok | checkFail | full | unknownKind | badLength | badValue | notFound | duplicate | noRoom
  | tableFull | wrongState | inMotion | busy
  deriving DecidableEq, Repr, Inhabited

/-- The 24 events (R162 and the table of 10.5). -/
inductive Event where
  | restart | retainLost | auditFail | storeDone | storeFail | laneGranted | truckShort | truckLoaded
  | truckOver | truckCleared | truckRemoved | weighDone | weighFail | loaderSilent | loaderBack
  | moveFault | packDoubt | staleDone | textWaiting | textLost | haltOn | haltOff | linkError | weighLine
  deriving DecidableEq, Repr, Inhabited

/-- R156: the host link receiver; IN FRAME holds the bytes collected after the lead byte. -/
inductive FrameReceiver where
  | hunting
  | inFrame (bytes : List Byte)
  deriving DecidableEq, Repr, Inhabited

/-- R155: a complete request frame: LEN, KIND, SEQ, FLAGS, the body, and the CHECK byte if it has one. -/
structure Frame where
  len : Byte
  kind : Byte
  seq : Byte
  flags : Byte
  body : List Byte
  check : Option Byte
  deriving DecidableEq, Repr, Inhabited

/-- R155: a reply frame before its lead byte and CHECK are put to it; kind is KIND + 0x80. -/
structure Reply where
  kind : Byte
  seq : Byte
  result : Result
  body : List Byte
  check : Bool
  deriving DecidableEq, Repr, Inhabited

/-- R158: where a ready reply is held: in a reply buffer, or in the refusal slot; the RESTART reply,
also in a reply buffer, is marked (R161). -/
inductive Holder where
  | buffer | refusal | restart
  deriving DecidableEq, Repr, Inhabited

/-- A ready reply and what it occupies until its last byte has left (R160). -/
structure ReadyReply where
  reply : Reply
  holder : Holder
  deriving DecidableEq, Repr, Inhabited

/-- What a taken request's reply waits for (R126, R167). -/
inductive Wait where
  | enroll (terminal : Nat)
  | recall (kept : Byte)
  deriving DecidableEq, Repr, Inhabited

/-- R160: a taken request whose reply is not ready yet; it occupies a reply buffer. -/
structure Awaiting where
  kind : Byte
  seq : Byte
  check : Bool
  what : Wait
  deriving DecidableEq, Repr, Inhabited

/-- The host link controller's frame stores (R156, R158, R160, R161). The two reply buffers are
occupied by the waiting requests and by the ready or leaving replies that a buffer holds; the
refusal slot by a ready or leaving FULL reply. -/
structure HostLink where
  receiver : FrameReceiver
  inbound : List Frame
  awaiting : List Awaiting
  ready : List ReadyReply
  leaving : Option ReadyReply
  closing : Bool
  restartDue : Bool
  baud : Nat
  hrdy : Bool
  deriving DecidableEq, Repr, Inhabited

/-! ### Settings and store (chapter 11) -/

/-- R45: the change of RAIN that counts as a pulse. -/
inductive RainEdge where
  | rising | falling
  deriving DecidableEq, Repr, Inhabited

/-- R45: the seven weather settings. -/
structure WeatherSettings where
  edge : RainEdge
  prescale : Nat
  depth : Nat
  retention : Nat
  capKg : Nat
  interval : Nat
  percent : Nat
  deriving DecidableEq, Repr, Inhabited

/-- R75: the five planning settings. -/
structure PlanningSettings where
  digLimit : Nat
  stockWait : Nat
  ageing : Nat
  headroom : Nat
  posted : Bool
  deriving DecidableEq, Repr, Inhabited

/-- R125: the three loader link settings. -/
structure LinkSettings where
  timeoutMs : Nat
  retryLimit : Nat
  probeInterval : Nat
  deriving DecidableEq, Repr, Inhabited

/-- R145: the parity of the weighbridge line. -/
inductive Parity where
  | none | even | odd
  deriving DecidableEq, Repr, Inhabited

/-- R145: the five weighing settings. -/
structure WeighSettings where
  parity : Parity
  endChar : Nat
  offset1 : Int
  offset2 : Int
  timeout : Nat
  deriving DecidableEq, Repr, Inhabited

/-- R166: the working settings. -/
structure Settings where
  windows : Vector Window 8
  zoning : ZoningMode
  laneZones : Vector Nat 6
  densities : Vector Nat 8
  weather : WeatherSettings
  planning : PlanningSettings
  link : LinkSettings
  weighing : WeighSettings
  mask : Flags24
  deriving DecidableEq, Repr

/-- R166: the non-volatile store. -/
structure Store where
  settings : Settings
  trims : Vector Nat 8
  checkWord : Nat
  complete : Bool
  deriving DecidableEq, Repr

/-- R166, R167: what is in flight at the store; a store carries its snapshot. -/
inductive Flight where
  | nothing
  | store (settings : Settings) (trims : Vector Nat 8)
  | recall
  deriving DecidableEq, Repr

/-! ### Supplies, restart and audit (chapter 11) -/

/-- R170, R171: VDD present, RESET asserted, and the retention latch. -/
structure Power where
  vdd : Bool
  resetPin : Bool
  latch : Bool
  deriving DecidableEq, Repr, Inhabited

/-- R172, R177: the item an audit check reports. -/
inductive AuditItem where
  | nothing
  | bay (bay : Nat)
  | bayTier (bay tier : Nat)
  | tag (tag : Nat)
  | truckLine (truck line : Nat)
  | truckPos (truck : Nat) (at_ : BedRef)
  | lane (lane : Nat)
  | truck (number : Nat)
  | job (number : Nat)
  deriving DecidableEq, Repr, Inhabited

/-- R172: the result of an audit run. -/
inductive AuditResult where
  | pass
  | fails (check : Nat) (item : AuditItem)
  | notRun
  deriving DecidableEq, Repr, Inhabited

/-! ### The yard, and the whole part -/

/-- What the acts of the yard work on: stacks, claims, packs, trucks, lanes, jobs, zone queues, the
loader link, and the pending event set. -/
structure Yard where
  stack : Table (List Nat)
  claims : Table Nat
  packs : Table Pack
  trucks : Table Truck
  lanes : Vector Lane 6
  jobs : Table Job
  queues : Vector (List Nat) 4
  loader : LoaderLink
  events : Flags24
  deriving DecidableEq, Repr

/-- What the acts of the yard read and never write: the working settings, the trims, the yard clock,
and whether dispatch is permitted (R120). -/
structure Env where
  settings : Settings
  trims : Vector Nat 8
  clock : Nat
  dispatch : Bool
  deriving DecidableEq, Repr

/-- The whole part, but for the queue of commands that wait for it. -/
structure Part where
  clock : Nat
  settings : Settings
  trims : Vector Nat 8
  yard : Yard
  weather : WeatherUnit
  weigh : WeighUnit
  host : HostLink
  store : Store
  flight : Flight
  halt : Bool
  power : Power
  lastAudit : AuditResult
  deriving DecidableEq, Repr

end Sys2Proof.Machine
end

