-- ==== Sys2Proof/Machine/Operands.lean ====
section
/-! DEFINITION. The operand forms: field encodings of R174, enumeration codes both ways, the bytes of the settings groups, and the range tests of the value checks. -/

namespace Sys2Proof.Machine

/-! ### Numbers as bytes (R174: least significant byte first) -/

/-- A number as one byte. -/
def byte (n : Nat) : Byte := BitVec.ofNat 8 n

/-- A number as `width` bytes, least significant first (R174). A larger number keeps its low bytes
(log entry 27). -/
def leBytes : Nat → Nat → List Byte
  | 0, _ => []
  | width + 1, n => byte n :: leBytes width (n / 256)

/-- The number whose bytes these are, least significant first (R174). -/
def fromLe : List Byte → Nat
  | [] => 0
  | b :: rest => b.toNat + 256 * fromLe rest

/-- A number in two's complement over `width` bytes (R174: the deck offsets; R177: a raw value). -/
def intBytes (width : Nat) (i : Int) : List Byte :=
  leBytes width ((i % (2 ^ (8 * width) : Int)).toNat)

/-- The number of a two-byte two's complement field (R174). -/
def intOf16 (n : Nat) : Int := if n < 32768 then (n : Int) else (n : Int) - 65536

/-- An optional field in a reply (R174): presence byte, then the field, all zeros when absent. -/
def optBytes (width : Nat) : Option (List Byte) → List Byte
  | none => byte 0 :: List.replicate width (byte 0)
  | some field => byte 1 :: field

/-- On or off, yes or no (R174). -/
def flagByte (b : Bool) : Byte := if b then byte 1 else byte 0

/-- Whether a number lies in a range, ends included. -/
def within (lo hi n : Nat) : Bool := decide (lo ≤ n) && decide (n ≤ hi)

/-- An on/off byte (R175: above 1 it is refused). -/
def flagOf? : Nat → Option Bool
  | 0 => some false
  | 1 => some true
  | _ => none

/-! ### Enumeration codes (R174) -/

/-- R174: window kind codes. -/
def WindowKind.code : WindowKind → Nat
  | .covered => 0 | .quarantine => 1 | .staging => 2 | .height => 3

/-- R12: a kind that is not one of the four has no meaning. -/
def WindowKind.ofCode? : Nat → Option WindowKind
  | 0 => some .covered | 1 => some .quarantine | 2 => some .staging | 3 => some .height | _ => none

/-- R174: zoning mode codes. -/
def ZoningMode.code : ZoningMode → Nat
  | .block => 0 | .pair => 1 | .row => 2

/-- R16: a mode that is not BLOCK, PAIR or ROW has no meaning. -/
def ZoningMode.ofCode? : Nat → Option ZoningMode
  | 0 => some .block | 1 => some .pair | 2 => some .row | _ => none

/-- R174: pack state codes. -/
def PackState.code : PackState → Nat
  | .free => 0 | .reserved => 1 | .held => 2 | .moving => 3 | .onTruck => 4 | .doubt => 5

/-- R174: truck state codes. -/
def TruckState.code : TruckState → Nat
  | .announced => 0 | .queued => 1 | .shortWait => 2 | .loading => 3 | .paused => 4 | .loaded => 5
  | .over => 6 | .cleared => 7 | .unloading => 8

/-- R174: lane state codes. -/
def LaneState.code : LaneState → Nat
  | .free => 0 | .occupied => 1 | .closing => 2 | .closed => 3

/-- R174: job kind codes. -/
def JobWork.code : JobWork → Nat
  | .load .. => 0 | .clear .. => 1 | .offload .. => 2

/-- R174: job state codes. -/
def JobState.code : JobState → Nat
  | .waiting => 0 | .ready => 1 | .asideReady => 2 | .sent => 3 | .accepted => 4 | .lifted => 5
  | .suspended => 6

/-- R174: move kind codes. -/
def MoveKind.code : MoveKind → Nat
  | .toTruck => 0 | .toStaging => 1 | .fromTruck => 2

/-- R174: move state codes. -/
def MoveState.code : MoveState → Nat
  | .sent => 0 | .accepted => 1 | .lifted => 2

/-- R174: terminal state codes. -/
def TerminalState.code : TerminalState → Nat
  | .off => 0 | .active => 1 | .silent => 2

/-- R174: silence action codes. -/
def SilenceAction.code : SilenceAction → Nat
  | .report => 0 | .recall => 1

/-- R126: an action that is neither REPORT nor RECALL has no meaning. -/
def SilenceAction.ofCode? : Nat → Option SilenceAction
  | 0 => some .report | 1 => some .recall | _ => none

/-- R174: short mode codes. -/
def ShortMode.code : ShortMode → Nat
  | .partialLoad => 0 | .completeLoad => 1

/-- R60: a short mode that is neither PARTIAL nor COMPLETE has no meaning. -/
def ShortMode.ofCode? : Nat → Option ShortMode
  | 0 => some .partialLoad | 1 => some .completeLoad | _ => none

/-- R174: weigh direction codes. -/
def Direction.code : Direction → Nat
  | .weighIn => 0 | .weighOut => 1

/-- R174: rain edge codes. -/
def RainEdge.code : RainEdge → Nat
  | .rising => 0 | .falling => 1

/-- R46: an edge that is not RISING or FALLING has no meaning. -/
def RainEdge.ofCode? : Nat → Option RainEdge
  | 0 => some .rising | 1 => some .falling | _ => none

/-- R174: parity codes. -/
def Parity.code : Parity → Nat
  | .none => 0 | .even => 1 | .odd => 2

/-- R145: a parity that is not NONE, EVEN or ODD has no meaning. -/
def Parity.ofCode? : Nat → Option Parity
  | 0 => some .none | 1 => some .even | 2 => some .odd | _ => none

/-- R174: FAULT reason codes. -/
def FaultReason.code : FaultReason → Nat
  | .notFound => 1 | .damaged => 2 | .declined => 3 | .lost => 4

/-- R179: a FAULT reason outside 1 to 4 is garbled. -/
def FaultReason.ofCode? : Nat → Option FaultReason
  | 1 => some .notFound | 2 => some .damaged | 3 => some .declined | 4 => some .lost | _ => none

/-- R174: result codes. -/
def Result.code : Result → Nat
  | .ok => 0 | .checkFail => 1 | .full => 2 | .unknownKind => 3 | .badLength => 4 | .badValue => 5
  | .notFound => 6 | .duplicate => 7 | .noRoom => 8 | .tableFull => 9 | .wrongState => 10
  | .inMotion => 11 | .busy => 12

/-- The number of a bed tier, 1 or 2. -/
def BedTier.num : BedTier → Nat
  | .one => 1 | .two => 2

/-- R174: line species, 0 to 7, or 255 for ANY. -/
def speciesCode : Option Nat → Nat
  | some s => s
  | none => 255

/-! ### Places and bed positions as bytes (R174) -/

/-- R174: a place: type, then bay, tier, 0; or lane, slot, bed tier; zeros for none. -/
def Place.bytes : Place → List Byte
  | .nowhere => [byte 0, byte 0, byte 0, byte 0]
  | .bay b t => [byte 1, byte b, byte t, byte 0]
  | .bed l r => [byte 2, byte l, byte r.slot, byte r.tier.num]

/-- R174, R178: the source or destination of a move as a place; the tier byte of a bay is the free
value of the move's number and the bay, which source and destination need not share (log entry 15). -/
def Spot.bytes (number : Nat) : Spot → List Byte
  | .bay b => [byte 1, byte b, Config.moveTierByte number b, byte 0]
  | .bed l r => [byte 2, byte l, byte r.slot, byte r.tier.num]

/-! ### The settings groups as bytes (R176, R177) -/

/-- A window as SET WINDOW gives it. -/
def Window.bytes (number : Nat) (w : Window) : List Byte :=
  [byte number, flagByte w.enable, byte w.kind.code, w.base, w.mask, byte w.limit]

/-- The windows in a list, numbered from `number`. -/
def windowListBytes : Nat → List Window → List Byte
  | _, [] => []
  | number, w :: rest => w.bytes number ++ windowListBytes (number + 1) rest

/-- Numbers of two bytes each. -/
def pairsBytes : List Nat → List Byte
  | [] => []
  | n :: rest => leBytes 2 n ++ pairsBytes rest

/-- Zoning as SET ZONING gives it: mode, zones of lanes 0 to 5. -/
def Settings.zoningBytes (s : Settings) : List Byte :=
  byte s.zoning.code :: s.laneZones.toList.map byte

/-- The weather settings as SET WEATHER gives them. -/
def WeatherSettings.bytes (w : WeatherSettings) : List Byte :=
  [byte w.edge.code, byte w.prescale, byte w.depth, byte w.retention, byte w.capKg, byte w.interval,
   byte w.percent]

/-- The planning settings as SET PLANNING gives them. -/
def PlanningSettings.bytes (p : PlanningSettings) : List Byte :=
  [byte p.digLimit, byte p.stockWait, byte p.ageing, byte p.headroom, flagByte p.posted]

/-- The loader link settings as SET LOADER LINK gives them. -/
def LinkSettings.bytes (l : LinkSettings) : List Byte :=
  [byte l.timeoutMs, byte l.retryLimit, byte l.probeInterval]

/-- The weighing settings as SET WEIGHING gives them. -/
def WeighSettings.bytes (w : WeighSettings) : List Byte :=
  [byte w.parity.code, byte w.endChar] ++ intBytes 2 w.offset1 ++ intBytes 2 w.offset2
    ++ [byte w.timeout]

/-- A 24-bit event set or mask as three bytes, bit 0 of the first byte upward (R174). -/
def flagsBytes (f : Flags24) : List Byte := leBytes 3 f.toNat

/-- The working settings and trims up to the weather settings, as READ SETTINGS orders them (R177). -/
def Settings.headBytes (s : Settings) (trims : Vector Nat 8) : List Byte :=
  windowListBytes 0 s.windows.toList ++ s.zoningBytes ++ pairsBytes s.densities.toList
    ++ pairsBytes trims.toList ++ s.weather.bytes

/-- The working settings after the weather unit's counters, as READ SETTINGS orders them (R177). -/
def Settings.tailBytes (s : Settings) : List Byte :=
  s.planning.bytes ++ s.link.bytes ++ s.weighing.bytes ++ flagsBytes s.mask

/-- R166: the bytes of the stored settings and trims over which the check word is summed. The manual
does not lay them out; the model takes the encodings of READ SETTINGS. DESIGN CHOICE, unsafe (log entry 12). -/
def storeBytes (s : Settings) (trims : Vector Nat 8) : List Byte := s.headBytes trims ++ s.tailBytes

/-- R166: the check word, the sum of the bytes modulo 65,536. -/
def checkWordOf (s : Settings) (trims : Vector Nat 8) : Nat :=
  ((storeBytes s trims).map BitVec.toNat).sum % 65536

/-- R166: the store is good when its completion mark is set and its check word is the sum. -/
def Store.good (st : Store) : Bool :=
  st.complete && decide (st.checkWord = checkWordOf st.settings st.trims)

/-! ### Factory defaults (R10, R14, R15, R40, R45, R75, R125, R145, R163) -/

/-- R10: the factory default of a window. -/
def Window.factory : Window :=
  { enable := false, kind := .covered, base := byte 0, mask := byte 0, limit := 6 }

/-- R41: a trim of 1,000 leaves the density as declared; every trim of a bad store. -/
def factoryTrims : Vector Nat 8 := Vector.replicate 8 1000

/-- The factory defaults of the working settings. -/
def Settings.factory : Settings where
  windows := Vector.replicate 8 Window.factory
  zoning := .block
  laneZones := #v[0, 1, 2, 3, 0, 1]
  densities := Vector.replicate 8 500
  weather :=
    { edge := .rising, prescale := 1, depth := 2, retention := 50, capKg := 20, interval := 30,
      percent := 10 }
  planning := { digLimit := 3, stockWait := 20, ageing := 30, headroom := 2, posted := true }
  link := { timeoutMs := 50, retryLimit := 2, probeInterval := 5 }
  weighing := { parity := .none, endChar := 13, offset1 := 0, offset2 := 0, timeout := 60 }
  mask := BitVec.allOnes 24

/-- R166: the store of a part as delivered: good, with the factory defaults and trims of 1,000. -/
def Store.delivered : Store where
  settings := Settings.factory
  trims := factoryTrims
  checkWord := checkWordOf Settings.factory factoryTrims
  complete := true

/-! ### Range tests of the settings, used by the value checks and by the invariant of the settings -/

/-- R10: a window's height limit lies in 1 to 6. -/
def Window.inRange (w : Window) : Bool := within 1 6 w.limit

/-- R45: the weather settings lie in their ranges. -/
def WeatherSettings.inRange (w : WeatherSettings) : Bool :=
  [1, 2, 4, 8].contains w.prescale && within 1 20 w.depth && decide (w.retention ≤ 100)
    && decide (w.capKg ≤ 200) && (w.interval == 0 || within 10 240 w.interval) && within 1 50 w.percent

/-- R75: the planning settings lie in their ranges. -/
def PlanningSettings.inRange (p : PlanningSettings) : Bool :=
  decide (p.digLimit ≤ 5) && decide (p.stockWait ≤ 240) && decide (p.ageing ≤ 240)
    && decide (p.headroom ≤ 10)

/-- R125: the loader link settings lie in their sets. -/
def LinkSettings.inRange (l : LinkSettings) : Bool :=
  within 20 200 l.timeoutMs && decide (l.retryLimit ≤ 3) && [1, 2, 5, 10].contains l.probeInterval

/-- R145: a character that is a digit, a space, +, -, S or U cannot be the end character. -/
def reservedChar (c : Nat) : Bool :=
  within 48 57 c || c == 32 || c == 43 || c == 45 || c == 83 || c == 85

/-- R145: the weighing settings lie in their sets. -/
def WeighSettings.inRange (w : WeighSettings) : Bool :=
  within 1 127 w.endChar && !reservedChar w.endChar
    && decide (-500 ≤ w.offset1) && decide (w.offset1 ≤ 500)
    && decide (-500 ≤ w.offset2) && decide (w.offset2 ≤ 500) && within 5 120 w.timeout

/-- R40: a density lies in 250 to 900. -/
def densityInRange (d : Nat) : Bool := within 250 900 d

/-- R41: a trim lies in 850 to 1,150. -/
def trimInRange (t : Nat) : Bool := within 850 1150 t

/-- Every working setting lies in the range its rule gives. -/
def Settings.inRange (s : Settings) : Bool :=
  s.windows.toList.all Window.inRange && s.laneZones.toList.all (fun z => decide (z ≤ 3))
    && s.densities.toList.all densityInRange && s.weather.inRange && s.planning.inRange
    && s.link.inRange && s.weighing.inRange

end Sys2Proof.Machine
end

