-- ==== Sys2Proof/Machine/Flags.lean ====
section
/-! DEFINITION. The pending event set, the mask and ATTN (R162, R163, R164). -/

namespace Sys2Proof.Machine

/-- R174: the bit of each event in the pending set and the mask. -/
def Event.bit : Event → Nat
  | .restart => 0 | .retainLost => 1 | .auditFail => 2 | .storeDone => 3 | .storeFail => 4
  | .laneGranted => 5 | .truckShort => 6 | .truckLoaded => 7 | .truckOver => 8 | .truckCleared => 9
  | .truckRemoved => 10 | .weighDone => 11 | .weighFail => 12 | .loaderSilent => 13
  | .loaderBack => 14 | .moveFault => 15 | .packDoubt => 16 | .staleDone => 17 | .textWaiting => 18
  | .textLost => 19 | .haltOn => 20 | .haltOff => 21 | .linkError => 22 | .weighLine => 23

/-- The set that holds one event. -/
def Event.flag (e : Event) : Flags24 := BitVec.ofNat 24 (2 ^ e.bit)

/-- R162: the set with a flag set, whether it was set or clear before. -/
def raiseIn (f : Flags24) (e : Event) : Flags24 := f ||| e.flag

/-- Whether a flag is set. -/
def holdsFlag (f : Flags24) (e : Event) : Bool := f.getLsbD e.bit

/-- A cause is taken: its flag is set (R162). -/
def Yard.raise (y : Yard) (e : Event) : Yard := { y with events := raiseIn y.events e }

/-- A cause outside the yard is taken: its flag is set (R162). -/
def Part.raise (p : Part) (e : Event) : Part := { p with yard := p.yard.raise e }

/-- The part runs: VDD is present and RESET is not asserted (R171). -/
def Part.running (p : Part) : Bool := p.power.vdd && !p.power.resetPin

/-- R163: ATTN is high while at least one flag is set whose mask bit is set; it is low while RESET is
asserted (R171) and without VDD. It is a function of the state, so it is judged afresh at every change. -/
def Part.attn (p : Part) : Bool :=
  p.running && decide (p.yard.events &&& p.settings.mask ≠ 0#24)

end Sys2Proof.Machine
end

