-- ==== Sys2Proof/Machine/State.lean ====
section
/-! DEFINITION. The machine's state: the part and the queue of commands that wait for it; the reasons of a fault or a refusal; reset. -/

namespace Sys2Proof.Machine

/-- The reasons a step stops with a fault. The manual gives the part no fault that stops it, so no
meaning raises one (safe: there is nothing to raise). -/
inductive Fault where
  deriving DecidableEq, Repr

/-- The reasons a step is refused. -/
inductive Refusal where
  /-- A command whose arm has no meaning yet; raised by exec alone (safe). No arm raises it now. -/
  | notModelled (mnemonic : String)
  deriving DecidableEq, Repr

/-- The machine: the part, and the commands that wait for it, the next one first. -/
structure State where
  part : Part
  pending : List Instr
  deriving DecidableEq, Repr

/-- R124: a terminal after power-on, the RESET pin or RESTART. -/
def Terminal.initial : Terminal where
  state := .off
  enrolling := false
  credit := 2
  silence := .recall
  moves := []
  notices := []
  retries := 0
  lastHeard := none
  nextProbe := none

/-- R124, R128, R132, R141: the loader link controller after a restart. -/
def LoaderLink.initial : LoaderLink where
  terminals := Vector.replicate 8 Terminal.initial
  moves := ⟨[]⟩
  counter := 1
  lastServed := 7
  exchange := none
  clearAlls := []
  late := []
  texts := []

/-- R70: a cleared lane. -/
def Lane.initial : Lane := { state := .free, holder := none }

/-- The yard with every retained and volatile table empty and no event pending. -/
def Yard.initial : Yard where
  stack := ⟨[]⟩
  claims := ⟨[]⟩
  packs := ⟨[]⟩
  trucks := ⟨[]⟩
  lanes := Vector.replicate 6 Lane.initial
  jobs := ⟨[]⟩
  queues := Vector.replicate 4 []
  loader := LoaderLink.initial
  events := 0#24

/-- R143, R144, R146: the weighbridge unit after a restart. -/
def WeighUnit.initial : WeighUnit where
  receiver := .hunting
  discards := 0
  last1 := none
  last2 := none
  arming := none

/-- R156, R158: the host link controller after a restart, with the strap code read; the HRDY level
last sampled starts low (DESIGN CHOICE, log entry 4). -/
def HostLink.initial (baud : Nat) : HostLink where
  receiver := .hunting
  inbound := []
  awaiting := []
  ready := []
  leaving := none
  closing := false
  restartDue := false
  baud := baud
  hrdy := false

/-- The part right after its first power-on: a part as delivered (R166), whose retention latch was
found set, so that step 3 of R171 cleared the tables and the clock (log entry 3). RAIN low, HALT
released and the straps at 19,200 baud are the model's (DESIGN CHOICE, log entry 4). -/
def Part.reset : Part where
  clock := 0
  settings := Settings.factory
  trims := factoryTrims
  yard := (Yard.initial.raise .restart).raise .retainLost
  weather := { prescaleCount := 0, deadline := some 1800, rainLevel := false }
  weigh := WeighUnit.initial
  host := HostLink.initial 0
  store := Store.delivered
  flight := .nothing
  halt := false
  power := { vdd := true, resetPin := false, latch := false }
  lastAudit := .notRun

/-- The machine right after reset, with no command waiting. -/
def State.reset : State := { part := Part.reset, pending := [] }

end Sys2Proof.Machine
end

