-- ==== Sys2Proof/Machine/Table.lean ====
section
/-! DEFINITION. The operations on a keyed table: look up, put, drop, change, each keeping the canonical form. -/

namespace Sys2Proof

variable {α : Type}

/-- The value in a list of entries under a key. -/
def Table.findIn : List (Nat × α) → Nat → Option α
  | [], _ => none
  | (k, v) :: rest, i => if k = i then some v else Table.findIn rest i

/-- Puts a value under a key at its place in the rising order. -/
def Table.putIn : List (Nat × α) → Nat → α → List (Nat × α)
  | [], i, v => [(i, v)]
  | (k, w) :: rest, i, v =>
    if i < k then (i, v) :: (k, w) :: rest
    else if i = k then (i, v) :: rest
    else (k, w) :: Table.putIn rest i v

/-- A table with no entry. -/
def Table.empty : Table α := ⟨[]⟩

/-- The record under a key, if there is one. -/
def Table.get? (t : Table α) (i : Nat) : Option α := Table.findIn t.entries i

/-- The table with this record under the key, in place of any other. -/
def Table.put (t : Table α) (i : Nat) (v : α) : Table α := ⟨Table.putIn t.entries i v⟩

/-- The table without the record under the key. -/
def Table.drop (t : Table α) (i : Nat) : Table α := ⟨t.entries.filter fun e => e.1 != i⟩

/-- The table with the records that a test keeps. -/
def Table.keep (t : Table α) (test : Nat → α → Bool) : Table α :=
  ⟨t.entries.filter fun e => test e.1 e.2⟩

/-- The table with each record changed by a function of its key and itself; the keys stay. -/
def Table.mapVal (t : Table α) (f : Nat → α → α) : Table α :=
  ⟨t.entries.map fun e => (e.1, f e.1 e.2)⟩

/-- The table with the record under the key changed, if there is one; the keys stay. -/
def Table.modify (t : Table α) (i : Nat) (f : α → α) : Table α :=
  t.mapVal fun k v => if k = i then f v else v

/-- The keys, rising. -/
def Table.keys (t : Table α) : List Nat := t.entries.map (·.1)

/-- The number of records. -/
def Table.size (t : Table α) : Nat := t.entries.length

/-- Whether a record stands under the key. -/
def Table.has (t : Table α) (i : Nat) : Bool := (t.get? i).isSome

/-- The first record, in key order, that a test picks, with its key. -/
def Table.first? (t : Table α) (test : Nat → α → Bool) : Option (Nat × α) :=
  t.entries.find? fun e => test e.1 e.2

/-- Whether some record passes a test. -/
def Table.anyVal (t : Table α) (test : Nat → α → Bool) : Bool := t.entries.any fun e => test e.1 e.2

/-- Whether every record passes a test. -/
def Table.allVal (t : Table α) (test : Nat → α → Bool) : Bool := t.entries.all fun e => test e.1 e.2

/-- The records a test picks, in key order. -/
def Table.pick (t : Table α) (test : Nat → α → Bool) : List (Nat × α) :=
  t.entries.filter fun e => test e.1 e.2

/-- The lowest key at or after `i` that the table does not hold, among the next `fuel` ones. -/
def Table.freeFrom (t : Table α) : Nat → Nat → Option Nat
  | 0, _ => none
  | fuel + 1, i => if t.has i then Table.freeFrom t fuel (i + 1) else some i

/-- The lowest free key below `limit`. -/
def Table.lowestFree (t : Table α) (limit : Nat) : Option Nat := t.freeFrom limit 0

/-- Whether a list of entries has its keys strictly rising. -/
def Table.rising : List (Nat × α) → Bool
  | [] => true
  | [_] => true
  | (i, _) :: (j, w) :: rest => decide (i < j) && Table.rising ((j, w) :: rest)

/-- The canonical form: the keys strictly rise. -/
def Table.wf (t : Table α) : Bool := Table.rising t.entries

/-- A record that a table need not list: the value read under a key with no entry. -/
def Table.getD (t : Table α) (i : Nat) (d : α) : α := (t.get? i).getD d

/-- Puts a value whose default is not listed: writing the default drops the entry. -/
def Table.putD [DecidableEq α] (t : Table α) (i : Nat) (d v : α) : Table α :=
  if v = d then t.drop i else t.put i v

end Sys2Proof
end

