-- ==== Sys2Proof/Machine/Ops.lean ====
section
/-! DEFINITION. The named operations over the yard's records: map questions and stack changes, packs, trucks and beds, lanes, terminals, moves and claims, the clock's deadlines. -/

namespace Sys2Proof.Machine

/-! ### Arithmetic shared by the blocks -/

/-- A quotient rounded half up (00_scope, Rounding): add one half, then truncate. -/
def roundDiv (a b : Nat) : Nat := (2 * a + b) / (2 * b)

/-- Insertion of an element before the first one it does not come after. -/
def insertBy {α : Type} (before : α → α → Bool) (a : α) : List α → List α
  | [] => [a]
  | b :: rest => if before b a then b :: insertBy before a rest else a :: b :: rest

/-- A list sorted by an order; elements that the order does not separate keep their places. -/
def sortBy {α : Type} (before : α → α → Bool) : List α → List α
  | [] => []
  | a :: rest => insertBy (fun x y => before x y) a (sortBy before rest)

/-- A vector with one element changed, if the index has one. -/
def vecModify {α : Type} {n : Nat} (v : Vector α n) (i : Nat) (f : α → α) : Vector α n :=
  match v[i]? with
  | some a => v.setIfInBounds i (f a)
  | none => v

/-! ### Bay windows (R10, R11) and zones (R14, R15) -/

/-- R10: bay `b` matches a window when the window is on and b AND mask equals base AND mask. -/
def Window.covers (w : Window) (b : Nat) : Bool :=
  w.enable && decide (byte b &&& w.mask = w.base &&& w.mask)

/-- Whether some window of a kind matches a bay. -/
def Settings.anyWindow (s : Settings) (k : WindowKind) (b : Nat) : Bool :=
  s.windows.toList.any fun w => decide (w.kind = k) && w.covers b

/-- R11: a bay is covered when at least one COVERED window matches it. -/
def Settings.covered (s : Settings) (b : Nat) : Bool := s.anyWindow .covered b

/-- R11: a bay is quarantine when at least one QUARANTINE window matches it. -/
def Settings.quarantine (s : Settings) (b : Nat) : Bool := s.anyWindow .quarantine b

/-- R11: a bay is staging when a STAGING window matches it and no QUARANTINE window does. -/
def Settings.staging (s : Settings) (b : Nat) : Bool := s.anyWindow .staging b && !s.quarantine b

/-- R11: the lowest height limit among the HEIGHT windows that match; without one, 6. -/
def Settings.heightLimit (s : Settings) (b : Nat) : Nat :=
  s.windows.toList.foldl
    (fun low w => if decide (w.kind = .height) && w.covers b then min low w.limit else low)
    Config.maxHeight

/-- R14: the zone of a bay under a zoning mode. -/
def ZoningMode.zoneOf : ZoningMode → Nat → Nat
  | .block, b => b / 64
  | .pair, b => 2 * (b / 128) + b % 2
  | .row, b => b % 4

/-- R14: the zone of a bay under the zoning mode held. -/
def Settings.zoneOfBay (s : Settings) (b : Nat) : Nat := s.zoning.zoneOf b

/-- R15: the zone of a lane is its entry in the lane-to-zone table. -/
def Settings.zoneOfLane (s : Settings) (lane : Nat) : Nat := s.laneZones[lane]?.getD 0

/-! ### Stacks, claims and room (R1, R3 to R9) -/

/-- The tags after a tag in a list. -/
def tagsAfter (tag : Nat) : List Nat → List Nat
  | [] => []
  | t :: rest => if t = tag then rest else tagsAfter tag rest

/-- The tags before a tag in a list (all of them, when the list does not hold it). -/
def tagsBefore (tag : Nat) : List Nat → List Nat
  | [] => []
  | t :: rest => if t = tag then [] else t :: tagsBefore tag rest

/-- R1: the stack of a bay, bottom first; a bay that is not listed is empty. -/
def Yard.stackOf (y : Yard) (b : Nat) : List Nat := y.stack.getD b []

/-- The yard with a bay's stack written. -/
def Yard.setStack (y : Yard) (b : Nat) (tags : List Nat) : Yard :=
  { y with stack := y.stack.putD b [] tags }

/-- The height of a bay. -/
def Yard.height (y : Yard) (b : Nat) : Nat := (y.stackOf b).length

/-- R5: the top pack of a bay. -/
def Yard.top? (y : Yard) (b : Nat) : Option Nat := (y.stackOf b).getLast?

/-- R5: the packs above a pack, bottom first. -/
def Yard.above (y : Yard) (b tag : Nat) : List Nat := tagsAfter tag (y.stackOf b)

/-- R5: the packs below a pack, bottom first. -/
def Yard.below (y : Yard) (b tag : Nat) : List Nat := tagsBefore tag (y.stackOf b)

/-- R1: the staging claims of a bay; a bay that is not listed has none. -/
def Yard.claimsOf (y : Yard) (b : Nat) : Nat := y.claims.getD b 0

/-- R7: a claim is taken. -/
def Yard.takeClaim (y : Yard) (b : Nat) : Yard :=
  { y with claims := y.claims.putD b 0 (y.claimsOf b + 1) }

/-- R8: a claim is given back. -/
def Yard.giveClaim (y : Yard) (b : Nat) : Yard :=
  { y with claims := y.claims.putD b 0 (y.claimsOf b - 1) }

/-- R6: the room of a bay is its height limit less its height less its claims, and not below 0. -/
def Yard.room (s : Settings) (y : Yard) (b : Nat) : Nat :=
  s.heightLimit b - (y.height b + y.claimsOf b)

/-- A pack record by its tag. -/
def Yard.pack? (y : Yard) (tag : Nat) : Option Pack := y.packs.get? tag

/-- The yard with a pack record changed, if there is one. -/
def Yard.modifyPack (y : Yard) (tag : Nat) (f : Pack → Pack) : Yard :=
  { y with packs := y.packs.modify tag f }

/-- Whether a tag names a pack with a job. -/
def Yard.hasJob (y : Yard) (tag : Nat) : Bool :=
  match y.pack? tag with
  | some p => p.job.isSome
  | none => false

/-- R9: a staging bay is clear when no pack standing in its stack has a job. -/
def Yard.clearStaging (s : Settings) (y : Yard) (b : Nat) : Bool :=
  s.staging b && (y.stackOf b).all fun t => !y.hasJob t

/-- The bays of the yard, rising. -/
def allBays : List Nat := List.range 256

/-- R9, R79: the free staging room is the sum of the room of all clear staging bays. -/
def Yard.freeStagingRoom (s : Settings) (y : Yard) : Nat :=
  ((allBays.filter fun b => y.clearStaging s b).map fun b => y.room s b).sum

/-- R5: a pack is exposed when it is the top pack of a bay that is not covered. -/
def Yard.exposed (s : Settings) (y : Yard) (tag : Nat) (p : Pack) : Bool :=
  match p.place with
  | .bay b _ => decide (y.top? b = some tag) && !s.covered b
  | _ => false

/-- Whether a pack stands in a stack, by its place (R21). -/
def Pack.standing (p : Pack) : Bool :=
  match p.place with
  | .bay _ _ => true
  | _ => false

/-- The bay a pack stands in. -/
def Pack.bay? (p : Pack) : Option Nat :=
  match p.place with
  | .bay b _ => some b
  | _ => none

/-- The bay the pack of a tag stands in. -/
def Yard.bayOf? (y : Yard) (tag : Nat) : Option Nat := (y.pack? tag).bind Pack.bay?

/-- R4: a place one tier down. -/
def Place.lower : Place → Place
  | .bay b t => .bay b (t - 1)
  | other => other

/-- R3: a pack joins the top of a bay's stack, and its place is the new top tier. -/
def Yard.joinStack (y : Yard) (b tag : Nat) : Yard :=
  (y.setStack b (y.stackOf b ++ [tag])).modifyPack tag fun p =>
    { p with place := .bay b (y.height b + 1) }

/-- R4: a pack leaves a bay's stack: the gap closes, each pack that stood above it moves down one
tier, and the pack's own place becomes none. -/
def Yard.leaveStack (y : Yard) (b tag : Nat) : Yard :=
  { y.setStack b ((y.stackOf b).erase tag) with
    packs := y.packs.mapVal fun k p =>
      if k = tag then { p with place := .nowhere }
      else if (y.above b tag).contains k then { p with place := p.place.lower }
      else p }

/-! ### Truck beds (R57) -/

/-- A vacant bed position. -/
def BedPos.vacant : BedPos := { plan := none, loaded := false }

/-- The position of a slot at a tier. -/
def Slot.pos (sl : Slot) : BedTier → BedPos
  | .one => sl.one
  | .two => sl.two

/-- The slot with the position at a tier written. -/
def Slot.setPos (sl : Slot) (t : BedTier) (p : BedPos) : Slot :=
  match t with
  | .one => { sl with one := p }
  | .two => { sl with two := p }

/-- The slot of a truck by its index. -/
def Truck.slot? (t : Truck) (i : Nat) : Option Slot := t.slots[i]?

/-- The bed position a reference names; vacant where the truck has no such slot. -/
def Truck.pos (t : Truck) (r : BedRef) : BedPos :=
  match t.slot? r.slot with
  | some sl => sl.pos r.tier
  | none => BedPos.vacant

/-- The truck with a bed position changed. -/
def Truck.modifyPos (t : Truck) (r : BedRef) (f : BedPos → BedPos) : Truck :=
  { t with slots := t.slots.modify r.slot fun sl => sl.setPos r.tier (f (sl.pos r.tier)) }

/-- The truck with a bed position vacated (R57: no planned tag, loaded no). -/
def Truck.vacate (t : Truck) (r : BedRef) : Truck := t.modifyPos r fun _ => BedPos.vacant

/-- The bed positions in slot order, tier 1 before tier 2, from slot number `i`. -/
def slotPositions : Nat → List Slot → List (BedRef × BedPos)
  | _, [] => []
  | i, sl :: rest =>
    ({ slot := i, tier := .one }, sl.one) :: ({ slot := i, tier := .two }, sl.two)
      :: slotPositions (i + 1) rest

/-- The bed positions of a truck in slot order, tier 1 before tier 2. -/
def Truck.positions (t : Truck) : List (BedRef × BedPos) := slotPositions 0 t.slots

/-- The planned tag of a position. -/
def BedPos.tag? (p : BedPos) : Option Nat := p.plan.map Plan.tag

/-- R87: the bed position whose planned tag is a pack. -/
def Truck.findPlanned (t : Truck) (tag : Nat) : Option BedRef :=
  (t.positions.find? fun e => decide (e.2.tag? = some tag)).map (·.1)

/-- R112: the top occupied tier of a slot: tier 2 if it holds a pack, otherwise tier 1 if it does. -/
def Slot.topOccupied (sl : Slot) : Option BedTier :=
  if sl.two.loaded then some .two else if sl.one.loaded then some .one else none

/-- Whether a position is the top occupied one of its slot. -/
def Truck.isTopOccupied (t : Truck) (r : BedRef) : Bool :=
  match t.slot? r.slot with
  | some sl => decide (sl.topOccupied = some r.tier)
  | none => false

/-- R101: the front shares of every position with a planned tag. -/
def Truck.frontShares (t : Truck) : Nat :=
  (t.positions.map fun e => match e.2.plan with | some pl => pl.front | none => 0).sum

/-- R101: the rear shares of every position with a planned tag. -/
def Truck.rearShares (t : Truck) : Nat :=
  (t.positions.map fun e => match e.2.plan with | some pl => pl.rear | none => 0).sum

/-- R101: the planned masses of every position with a planned tag. -/
def Truck.plannedMass (t : Truck) : Nat :=
  (t.positions.map fun e => match e.2.plan with | some pl => pl.mass | none => 0).sum

/-- The tare front, 0 while absent. A truck that holds a lane has both tares (R93). -/
def Truck.tareFront (t : Truck) : Nat :=
  match t.tare with
  | some a => a.front
  | none => 0

/-- The tare rear, 0 while absent. -/
def Truck.tareRear (t : Truck) : Nat :=
  match t.tare with
  | some a => a.rear
  | none => 0

/-- The order line of a truck, by its number 1 to 6. -/
def Truck.line? (t : Truck) (line : Nat) : Option OrderLine :=
  if line = 0 then none else t.lines[line - 1]?

/-- The truck with an order line changed. -/
def Truck.modifyLine (t : Truck) (line : Nat) (f : OrderLine → OrderLine) : Truck :=
  if line = 0 then t else { t with lines := t.lines.modify (line - 1) f }

/-- The tags on the assigned lists, line by line (R93). -/
def Truck.assignedTags (t : Truck) : List Nat := (t.lines.map OrderLine.assigned).flatten

/-- R61: some line has a stock short or weight short count above 0. -/
def Truck.isShort (t : Truck) : Bool :=
  t.lines.any fun l => decide (0 < l.stockShort) || decide (0 < l.weightShort)

/-- R81: some line has stock short above 0. -/
def Truck.stockShort (t : Truck) : Bool := t.lines.any fun l => decide (0 < l.stockShort)

/-! ### Trucks and lanes -/

/-- A truck record with its table index, by truck number. -/
def Yard.truckNo? (y : Yard) (number : Nat) : Option (Nat × Truck) :=
  y.trucks.first? fun _ t => decide (t.number = number)

/-- The truck record of a number. -/
def Yard.truck? (y : Yard) (number : Nat) : Option Truck := (y.truckNo? number).map (·.2)

/-- The yard with the truck record of a number changed. -/
def Yard.modifyTruck (y : Yard) (number : Nat) (f : Truck → Truck) : Yard :=
  match y.truckNo? number with
  | some (i, _) => { y with trucks := y.trucks.modify i f }
  | none => y

/-- The state of the truck of a number. -/
def Yard.truckState? (y : Yard) (number : Nat) : Option TruckState :=
  (y.truck? number).map Truck.state

/-- A lane record; a number that names no lane reads as a cleared lane. -/
def Yard.lane (y : Yard) (l : Nat) : Lane := y.lanes[l]?.getD Lane.initial

/-- The yard with a lane record changed. -/
def Yard.modifyLane (y : Yard) (l : Nat) (f : Lane → Lane) : Yard :=
  { y with lanes := vecModify y.lanes l f }

/-- R70: a released lane is FREE if it was OCCUPIED, CLOSED if it was CLOSING, with no holder. -/
def Lane.release (l : Lane) : Lane :=
  { state := (match l.state with
      | .occupied => .free
      | .closing => .closed
      | other => other)
    holder := none }

/-- R70: a truck's lane is released and its lane field made absent. -/
def Yard.releaseLane (y : Yard) (number : Nat) : Yard :=
  match (y.truck? number).bind Truck.lane with
  | some l =>
    (y.modifyTruck number fun t => { t with lane := none }).modifyLane l Lane.release
  | none => y

/-! ### Jobs -/

/-- A job record by its number. -/
def Yard.job? (y : Yard) (n : Nat) : Option Job := y.jobs.get? n

/-- The yard with a job record changed, if there is one. -/
def Yard.modifyJob (y : Yard) (n : Nat) (f : Job → Job) : Yard :=
  { y with jobs := y.jobs.modify n f }

/-- R73: the free job records are 256 less the number of jobs. -/
def Yard.freeRecords (y : Yard) : Nat := Config.maxJobs - y.jobs.size

/-- The truck a job belongs to. -/
def JobWork.truck? : JobWork → Option Nat
  | .load n _ => some n
  | .clear _ => none
  | .offload n _ => some n

/-- Whether a job is a LOAD. -/
def JobWork.isLoad : JobWork → Bool
  | .load .. => true
  | _ => false

/-- Whether a job is an OFFLOAD. -/
def JobWork.isOffload : JobWork → Bool
  | .offload .. => true
  | _ => false

/-- The job record of a pack. -/
def Yard.jobOfPack? (y : Yard) (tag : Nat) : Option (Nat × Job) :=
  match (y.pack? tag).bind Pack.job with
  | some n => (y.job? n).map fun j => (n, j)
  | none => none

/-- R115: a job number leaves whatever zone queue it stands in. -/
def Yard.unqueue (y : Yard) (n : Nat) : Yard :=
  { y with queues := y.queues.map fun q => q.filter fun m => m != n }

/-- R114: a job number joins the tail of a zone queue. -/
def Yard.enqueue (y : Yard) (zone n : Nat) : Yard :=
  { y with queues := vecModify y.queues zone fun q => q ++ [n] }

/-! ### Terminals, moves, notices -/

/-- A terminal record; a number that names no terminal reads as one after restart. -/
def Yard.terminal (y : Yard) (t : Nat) : Terminal :=
  y.loader.terminals[t]?.getD Terminal.initial

/-- The yard with a terminal record changed. -/
def Yard.modifyTerminal (y : Yard) (t : Nat) (f : Terminal → Terminal) : Yard :=
  { y with loader := { y.loader with terminals := vecModify y.loader.terminals t f } }

/-- A move record by its number. -/
def Yard.move? (y : Yard) (n : Nat) : Option Move := y.loader.moves.get? n

/-- The yard with a move record changed, if there is one. -/
def Yard.modifyMove (y : Yard) (n : Nat) (f : Move → Move) : Yard :=
  { y with loader := { y.loader with moves := y.loader.moves.modify n f } }

/-- The move a notice names. -/
def Notice.move : Notice → Nat
  | .withdraw m => m
  | .reject m => m

/-- R117: a terminal has a free credit when it has fewer moves outstanding than its credit limit. -/
def Terminal.hasCredit (t : Terminal) : Bool := decide (t.moves.length < t.credit)

/-- R117: a terminal can be sent a move: ACTIVE with a free credit. -/
def Terminal.canTake (t : Terminal) : Bool := decide (t.state = .active) && t.hasCredit

/-- The move numbers run from 1 to 65,535 and then come back to 1 (R132). -/
def nextMoveNumber (n : Nat) : Nat := if n < 65535 then n + 1 else 1

/-- R132: the lowest number at or after the counter that no outstanding move holds. At most 32 moves
are outstanding, so 33 tries find one. -/
def freeMoveNumber (moves : Table Move) : Nat → Nat → Nat
  | 0, n => n
  | fuel + 1, n => if moves.has n then freeMoveNumber moves fuel (nextMoveNumber n) else n

/-- R132: the move leaves its terminal's outstanding list, its credit returns, any claim it holds is
given back (R8), and every pending notice that names it is discarded. -/
def Yard.dropMove (y : Yard) (n : Nat) : Yard :=
  match y.move? n with
  | none => y
  | some m =>
    let y := match m.dest with
      | .bay b => y.giveClaim b
      | .bed .. => y
    let y := y.modifyTerminal m.terminal fun t =>
      { t with
        moves := t.moves.filter fun k => k != n
        notices := t.notices.filter fun k => k.move != n }
    { y with loader := { y.loader with moves := y.loader.moves.drop n } }

/-- R134: the REJECT notice for a move is made pending, unless the move has one (R179). -/
def Yard.addReject (y : Yard) (terminal n : Nat) : Yard :=
  y.modifyTerminal terminal fun t =>
    if t.notices.contains (.reject n) then t else { t with notices := t.notices ++ [.reject n] }

/-- R139: a WITHDRAW notice for a move joins the tail of its terminal's pending notices. -/
def Yard.addWithdraw (y : Yard) (terminal n : Nat) : Yard :=
  y.modifyTerminal terminal fun t =>
    if t.notices.contains (.withdraw n) then t
    else { t with notices := t.notices ++ [.withdraw n] }

/-- A notice leaves a terminal's pending notices. -/
def Yard.dropNotice (y : Yard) (terminal : Nat) (k : Notice) : Yard :=
  y.modifyTerminal terminal fun t => { t with notices := t.notices.filter fun m => m != k }

/-! ### The clock -/

/-- R169: a deadline formed as a time plus a span is held at 4,294,967,295 where it would exceed it. -/
def deadlineAt (now span : Nat) : Nat := min (now + span) Config.clockTop

/-- A deadline expires when the yard clock reaches or passes it. -/
def due (now : Nat) : Option Nat → Bool
  | some d => decide (d ≤ now)
  | none => false

/-- R48, R52: the drying deadline set from a moment, or absent when the interval is 0. -/
def dryingFrom (w : WeatherSettings) (now : Nat) : Option Nat :=
  if w.interval = 0 then none else some (deadlineAt now (w.interval * 60))

/-- The environment an act of the yard reads: dispatch is permitted while HALT is released and
nothing is in flight at the store (R120). -/
def Part.env (p : Part) : Env where
  settings := p.settings
  trims := p.trims
  clock := p.clock
  dispatch := !p.halt && decide (p.flight = .nothing)

/-! ### Masses (chapter 3 and R94, R100) -/

/-- R40: the density of a species. -/
def Settings.density (s : Settings) (species : Nat) : Nat := s.densities[species]?.getD 0

/-- R41: the trim of a species. -/
def trimOf (trims : Vector Nat 8) (species : Nat) : Nat := trims[species]?.getD 1000

/-- R38: M0, the mass of the wood and the water held in it, rounded half up. -/
def woodMass (volume density trim moisture : Nat) : Nat :=
  roundDiv (volume * density * trim * (100 + moisture)) 100000000

/-- R38: Sw, the surface water in kilograms, rounded half up. -/
def waterMass (grams : Nat) : Nat := roundDiv grams 1000

/-- R38: the estimated mass of a pack. -/
def Env.estimate (e : Env) (p : Pack) : Nat :=
  woodMass p.volume (e.settings.density p.species) (trimOf e.trims p.species) p.moisture
    + waterMass p.water

/-- R94: an effective limit: the limit less the headroom percentage of it, rounded half up. -/
def effectiveLimit (limit headroom : Nat) : Nat := limit - roundDiv (limit * headroom) 100

/-- R100: the rear share of a mass at x behind the front group. -/
def rearShare (mass x wheelbase : Nat) : Nat := roundDiv (mass * x) wheelbase

/-- R101, R94: totals are at or below the effective limits of a truck. -/
def Truck.withinLimits (t : Truck) (headroom front rear gross : Nat) : Bool :=
  decide (front ≤ effectiveLimit t.frontLimit headroom)
    && decide (rear ≤ effectiveLimit t.rearLimit headroom)
    && decide (gross ≤ effectiveLimit t.grossLimit headroom)

/-! ### Acts -/

/-- An act of the yard under way: the yard, the packs it has freed and not yet offered, in order
(R83), whether it has freed a job record (R109), and the bays the clearance rule is due at (R110). -/
structure Act where
  yard : Yard
  freed : List Nat
  recordsFreed : Bool
  bays : List Nat
  deriving DecidableEq, Repr

/-- An act begins. -/
def Yard.act (y : Yard) : Act := { yard := y, freed := [], recordsFreed := false, bays := [] }

/-- A step of the act that only writes the yard. -/
def Act.on (a : Act) (f : Yard → Yard) : Act := { a with yard := f a.yard }

/-- A bay at which the clearance rule is due (R110). -/
def Act.touchBay (a : Act) (b : Nat) : Act := { a with bays := a.bays ++ [b] }

/-- The clearance rule is due at the bay a pack stands in, if it stands in one. -/
def Act.touchBayOf (a : Act) (tag : Nat) : Act :=
  match a.yard.bayOf? tag with
  | some b => a.touchBay b
  | none => a

/-- R3, R5: a pack joins a bay, a stack change. -/
def Act.join (a : Act) (b tag : Nat) : Act := (a.on fun y => y.joinStack b tag).touchBay b

/-- R4, R5: a pack leaves the stack it stands in, a stack change. -/
def Act.leave (a : Act) (tag : Nat) : Act :=
  match a.yard.bayOf? tag with
  | some b => (a.on fun y => y.leaveStack b tag).touchBay b
  | none => a

/-- A pack's state is written, and it is MOVING no longer: its prior state is made absent (R22). -/
def Act.setPackState (a : Act) (tag : Nat) (st : PackState) : Act :=
  a.on fun y => y.modifyPack tag fun p => { p with state := st, prior := none }

/-- R83: a pack that has just become FREE with no job is a freed pack. -/
def Act.offerLater (a : Act) (tag : Nat) : Act := { a with freed := a.freed ++ [tag] }

/-- R31: a pack becomes DOUBT: it leaves its stack, its place becomes none, its prior state is made
absent, and PACK_DOUBT is set. Its assignment is kept. -/
def Act.toDoubt (a : Act) (tag : Nat) : Act :=
  (a.leave tag).on fun y =>
    (y.modifyPack tag fun p => { p with state := .doubt, prior := none, place := .nowhere }).raise
      .packDoubt

/-- R31: a job becomes SUSPENDED and leaves any zone queue. -/
def Act.suspendJob (a : Act) (n : Nat) : Act :=
  a.on fun y =>
    (y.unqueue n).modifyJob n fun j => { j with state := .suspended, bound := none, move := none }

/-- R122: a job returns to WAITING; its current move number is made absent. -/
def Act.jobWaits (a : Act) (n : Nat) : Act :=
  a.on fun y => y.modifyJob n fun j => { j with state := .waiting, bound := none, move := none }

/-- R121: a job leaves the list by ending or by deletion: it leaves its zone queue, its record becomes
free, its pack's job field is made absent, and the clearance rule is due at the bay the pack stands
in and, for a CLEAR job, at its origin bay. -/
def Act.endJob (a : Act) (n : Nat) : Act :=
  match a.yard.job? n with
  | none => a
  | some j =>
    let a := a.on fun y =>
      ({ y.unqueue n with jobs := y.jobs.drop n }).modifyPack j.tag fun p => { p with job := none }
    let a := { a with recordsFreed := true }
    let a := a.touchBayOf j.tag
    match j.work with
    | .clear origin => a.touchBay origin
    | _ => a

/-- R108: a job is put into the lowest-numbered free record, WAITING, and its pack's job field is set
to it. Without a free record nothing is created (R108: the pack keeps its need). -/
def Act.newJob (a : Act) (work : JobWork) (tag : Nat) : Act :=
  match a.yard.jobs.lowestFree Config.maxJobs with
  | none => a
  | some n =>
    a.on fun y =>
      ({ y with
        jobs := y.jobs.put n
          { work := work, tag := tag, state := .waiting, bound := none, move := none } }).modifyPack
        tag fun p => { p with job := some n }

/-- R108: a job is created, and the clearance rule is due at the bay its pack stands in. -/
def Act.createJob (a : Act) (work : JobWork) (tag : Nat) : Act := (a.newJob work tag).touchBayOf tag

/-- R61: a truck enters LOADED: TRUCK_LOADED is set, and TRUCK_SHORT as well when any line is short. -/
def Yard.enterLoaded (y : Yard) (number : Nat) : Yard :=
  let y := (y.modifyTruck number fun t => { t with state := .loaded }).raise .truckLoaded
  match y.truck? number with
  | some t => if t.isShort then y.raise .truckShort else y
  | none => y

/-- Whether a truck has a LOAD job. -/
def Yard.hasLoadJob (y : Yard) (number : Nat) : Bool :=
  y.jobs.anyVal fun _ j => j.work.isLoad && decide (j.work.truck? = some number)

/-- Whether a truck has an OFFLOAD job. -/
def Yard.hasOffloadJob (y : Yard) (number : Nat) : Bool :=
  y.jobs.anyVal fun _ j => j.work.isOffload && decide (j.work.truck? = some number)

/-- R61: a truck in LOADING or PAUSED becomes LOADED when it has no LOAD job left and every bed
position with a planned tag is loaded. -/
def Yard.testLoaded (y : Yard) (number : Nat) : Yard :=
  match y.truck? number with
  | none => y
  | some t =>
    if (t.state = .loading ∨ t.state = .paused) ∧ ¬ y.hasLoadJob number
        ∧ (t.positions.all fun e => e.2.plan.isNone || e.2.loaded) then
      y.enterLoaded number
    else y

/-- R67: the end of unloading holds when the truck has no ON_TRUCK pack, no job of any kind and no
move outstanding (each move belongs to a job). -/
def Yard.unloadingEnded (y : Yard) (number : Nat) : Bool :=
  decide (y.truckState? number = some .unloading)
    && !(y.packs.anyVal fun _ p =>
      decide (p.state = .onTruck) && decide (p.assignment.map Assignment.truck = some number))
    && !(y.jobs.anyVal fun _ j => decide (j.work.truck? = some number))

/-- A truck record leaves the table. -/
def Yard.dropTruck (y : Yard) (number : Nat) : Yard :=
  match y.truckNo? number with
  | some (i, _) => { y with trucks := y.trucks.drop i }
  | none => y

/-- R67: when the end of unloading holds, the lane is released, the record leaves the table, and
TRUCK_REMOVED is set. -/
def Yard.testUnloaded (y : Yard) (number : Nat) : Yard :=
  if y.unloadingEnded number then
    ((y.releaseLane number).dropTruck number).raise .truckRemoved
  else y

/-- R23 step 1, R103: an assignment is made absent and the tag leaves its line's assigned list. -/
def Yard.unassign (y : Yard) (tag : Nat) : Yard :=
  match (y.pack? tag).bind Pack.assignment with
  | none => y
  | some asg =>
    (y.modifyPack tag fun p => { p with assignment := none }).modifyTruck asg.truck fun t =>
      t.modifyLine asg.line fun l => { l with assigned := l.assigned.filter fun k => k != tag }

/-- The planned bed position of a pack is vacated on its truck, with no refill. -/
def Yard.vacatePlanned (y : Yard) (number tag : Nat) : Yard :=
  y.modifyTruck number fun t =>
    match t.findPlanned tag with
    | some r => t.vacate r
    | none => t

end Sys2Proof.Machine
end

