-- ==== Sys2Proof/Machine/Jobs.lean ====
section
/-! DEFINITION. The job list and the dispatcher: the clearance rule, readiness, zone queues and sends (R110 to R120). -/

namespace Sys2Proof.Machine

/-! ### The clearance rule (R110) -/

/-- R110: a FREE or HELD pack with no job that stands above a pack with a job. -/
def Yard.clearNeed (y : Yard) (b tag : Nat) : Bool :=
  (match y.pack? tag with
    | some p => (decide (p.state = .free) || decide (p.state = .held)) && p.job.isNone
    | none => false)
  && (y.below b tag).any y.hasJob

/-- R110: the clearance rule at one bay, from the highest tier down. -/
def Act.clearBay (a : Act) (b : Nat) : Act :=
  (a.yard.stackOf b).reverse.foldl
    (fun a tag => if a.yard.clearNeed b tag then a.newJob (.clear b) tag else a) a

/-- R110: the clearance rule at every bay where it is due, in the order the act touched them
(log entry 9). -/
def Act.clearDue (a : Act) : Act := a.bays.foldl Act.clearBay { a with bays := [] }

/-! ### Readiness (R112 to R114) -/

/-- R112 (b): whether a pack can be reached: nothing above it; in posted mode, every pack above it has
a move SENT or ACCEPTED at one and the same terminal; or neither. -/
inductive Reach where
  | blocked
  | top
  | behind (terminal : Nat)
  deriving DecidableEq, Repr

/-- The terminal that holds a pack's move, while that move is SENT or ACCEPTED. -/
def Yard.sentAt? (y : Yard) (tag : Nat) : Option Nat :=
  match y.jobOfPack? tag with
  | some (_, j) =>
    if j.state = .sent ∨ j.state = .accepted then
      (j.move.bind y.move?).map Move.terminal
    else none
  | none => none

/-- R112 (b). -/
def Yard.reach (y : Yard) (posted : Bool) (b tag : Nat) : Reach :=
  match y.above b tag with
  | [] => .top
  | t :: rest =>
    if posted then
      match y.sentAt? t with
      | some k => if rest.all fun u => decide (y.sentAt? u = some k) then .behind k else .blocked
      | none => .blocked
    else .blocked

/-- The outcome of a judgement (R112, R113): neither; READY or ASIDE_READY with the bound terminal. -/
inductive Verdict where
  | neither
  | ready (bound : Option Nat)
  | aside (bound : Option Nat)
  deriving DecidableEq, Repr

/-- R112 (c): the tier-1 position of a tier-2 bed target must be loaded. -/
def Truck.tierOpen (t : Truck) (target : BedRef) : Bool :=
  match target.tier with
  | .one => true
  | .two => (t.pos { slot := target.slot, tier := .one }).loaded

/-- R112, R113: the judgement of a LOAD job, where its pack can be reached. -/
def Yard.loadVerdict (y : Yard) (number : Nat) (target : BedRef) (b tag : Nat)
    (bound : Option Nat) : Verdict :=
  match y.truck? number with
  | none => .neither
  | some t =>
    if t.state = .loading then
      if t.tierOpen target then .ready bound
      else if (y.below b tag).any y.hasJob then .aside bound
      else .neither
    else .neither

/-- R112 (c): a TO_TRUCK move to a slot of a truck is outstanding. -/
def Yard.toTruckOutstanding (y : Yard) (number slot : Nat) : Bool :=
  y.loader.moves.anyVal fun _ m =>
    decide (m.kind = .toTruck)
      && match y.job? m.job with
        | some { work := .load n target, .. } => decide (n = number) && decide (target.slot = slot)
        | _ => false

/-- R112: the judgement of an OFFLOAD job. -/
def Yard.offloadVerdict (y : Yard) (number tag : Nat) : Verdict :=
  match y.truck? number, y.pack? tag with
  | some t, some p =>
    match p.place with
    | .bed _ r =>
      if p.state = .onTruck ∧ t.isTopOccupied r
          ∧ (t.state = .over
            ∨ (t.state = .unloading ∧ ¬ y.toTruckOutstanding number r.slot)) then .ready none
      else .neither
    | _ => .neither
  | _, _ => .neither

/-- R112, R113: the judgement of a job. -/
def Yard.verdict (e : Env) (y : Yard) (j : Job) : Verdict :=
  match j.work with
  | .offload number _ => y.offloadVerdict number j.tag
  | .clear _ =>
    match y.bayOf? j.tag with
    | none => .neither
    | some b =>
      match y.reach e.settings.planning.posted b j.tag with
      | .blocked => .neither
      | .top => .ready none
      | .behind k => .ready (some k)
  | .load number target =>
    match y.bayOf? j.tag with
    | none => .neither
    | some b =>
      match y.reach e.settings.planning.posted b j.tag with
      | .blocked => .neither
      | .top => y.loadVerdict number target b j.tag none
      | .behind k => y.loadVerdict number target b j.tag (some k)

/-- R115: the zone of a job: of the bay its pack stands in, or of its truck's lane for an OFFLOAD. -/
def Yard.zoneOfJob (e : Env) (y : Yard) (j : Job) : Nat :=
  match j.work with
  | .offload number _ =>
    match (y.truck? number).bind Truck.lane with
    | some l => e.settings.zoneOfLane l
    | none => 0
  | _ =>
    match y.bayOf? j.tag with
    | some b => e.settings.zoneOfBay b
    | none => 0

/-- R114: jobs in WAITING, READY and ASIDE_READY are judged, the others are not. -/
def JobState.judged : JobState → Bool
  | .waiting => true
  | .ready => true
  | .asideReady => true
  | _ => false

/-- R114: the effect of a judgement that finds the job READY or ASIDE_READY: from WAITING it joins the
tail of its zone queue; queued, it keeps its place and takes the new state and binding. -/
def Yard.makeReady (e : Env) (y : Yard) (n : Nat) (j : Job) (st : JobState) (bound : Option Nat) :
    Yard :=
  let y' := y.modifyJob n fun j => { j with state := st, bound := bound }
  if j.state = .waiting then y'.enqueue (y.zoneOfJob e j) n else y'

/-- R114: a job is judged. -/
def Yard.judge (e : Env) (y : Yard) (n : Nat) : Yard :=
  match y.job? n with
  | none => y
  | some j =>
    if j.state.judged then
      match y.verdict e j with
      | .ready bound => y.makeReady e n j .ready bound
      | .aside bound => y.makeReady e n j .asideReady bound
      | .neither =>
        if j.state = .waiting then y
        else (y.unqueue n).modifyJob n fun j => { j with state := .waiting, bound := none }
    else y

/-- R114: every job is judged, in job-number order. A job that the arrival did not touch is judged to
what it was (log entry 7). -/
def Yard.judgeAll (e : Env) (y : Yard) : Yard := y.jobs.keys.foldl (Yard.judge e) y

/-! ### Dispatch (R116 to R120) -/

/-- R117: the terminal available for a queued job of a zone. -/
def Yard.terminalFor (y : Yard) (zone : Nat) (bound : Option Nat) : Option Nat :=
  match bound with
  | some k => if (y.terminal k).canTake then some k else none
  | none =>
    if (y.terminal zone).canTake then some zone
    else if (y.terminal (zone + 4)).canTake then some (zone + 4)
    else none

/-- R118: a clear staging bay with room at least 1. -/
def Yard.takesAside (e : Env) (y : Yard) (b : Nat) : Bool :=
  y.clearStaging e.settings b && decide (0 < y.room e.settings b)

/-- R118: the lowest-numbered clear staging bay with room in the zone; else the lowest-numbered one. -/
def Yard.stagingDest (e : Env) (y : Yard) (zone : Nat) : Option Nat :=
  match allBays.find? fun b => y.takesAside e b && decide (e.settings.zoneOfBay b = zone) with
  | some b => some b
  | none => allBays.find? fun b => y.takesAside e b

/-- R119: what a send would be: job, terminal, kind, source and destination. -/
structure SendPlan where
  job : Nat
  tag : Nat
  terminal : Nat
  kind : MoveKind
  source : Spot
  dest : Spot
  deriving DecidableEq, Repr

/-- R119: the kind of a queued job's next move. -/
def Job.moveKind (j : Job) : MoveKind :=
  match j.work with
  | .load .. => if j.state = .asideReady then .toStaging else .toTruck
  | .clear _ => .toStaging
  | .offload .. => .fromTruck

/-- R119: the source of a job's next move: the pack's bay, or the OFFLOAD's source position at the lane. -/
def Yard.moveSource (y : Yard) (j : Job) : Option Spot :=
  match j.work with
  | .offload number source => ((y.truck? number).bind Truck.lane).map fun l => .bed l source
  | _ => (y.bayOf? j.tag).map .bay

/-- R118, R119: the destination of a job's next move: the bed target at the truck's lane, or a staging bay. -/
def Yard.moveDest (e : Env) (y : Yard) (zone : Nat) (j : Job) : Option Spot :=
  match j.moveKind, j.work with
  | .toTruck, .load number target => ((y.truck? number).bind Truck.lane).map fun l => .bed l target
  | _, _ => (y.stagingDest e zone).map .bay

/-- R117: the send of a queued job, if it can be sent now. -/
def Yard.sendPlan? (e : Env) (y : Yard) (zone n : Nat) : Option SendPlan :=
  match y.job? n with
  | none => none
  | some j =>
    match y.terminalFor zone j.bound, y.moveSource j, y.moveDest e zone j with
    | some k, some src, some dst =>
      some { job := n, tag := j.tag, terminal := k, kind := j.moveKind, source := src, dest := dst }
    | _, _, _ => none

/-- R119: a send: the job leaves its queue and becomes SENT, the move record is created with the next
move number, a staging destination's claim is taken, the pack becomes MOVING, and the move joins
the tail of the terminal's outstanding moves. -/
def Yard.send (y : Yard) (pl : SendPlan) : Yard :=
  let n := freeMoveNumber y.loader.moves 33 y.loader.counter
  let y := (y.unqueue pl.job).modifyJob pl.job fun j =>
    { j with state := .sent, bound := none, move := some n }
  let y := { y with loader := { y.loader with
    counter := nextMoveNumber n
    moves := y.loader.moves.put n
      { kind := pl.kind, job := pl.job, tag := pl.tag, terminal := pl.terminal, source := pl.source,
        dest := pl.dest, state := .sent, delivered := false } } }
  let y := match pl.dest with
    | .bay b => y.takeClaim b
    | .bed .. => y
  (y.modifyPack pl.tag fun p => { p with prior := some p.state, state := .moving }).modifyTerminal
    pl.terminal fun t => { t with moves := t.moves ++ [n] }

/-- The zone queue of a zone. -/
def Yard.queue (y : Yard) (zone : Nat) : List Nat := y.queues[zone]?.getD []

/-- R116: the service of one zone queue: the walk from the head sends the first job that can be sent
now, the jobs the send touches are judged, and the walk begins again, until no job can be sent.
Every send uses a credit, and the eight terminals have at most 32. -/
def Yard.serveZone (e : Env) (zone : Nat) : Nat → Yard → Yard
  | 0, y => y
  | fuel + 1, y =>
    match (y.queue zone).findSome? fun n => y.sendPlan? e zone n with
    | none => y
    | some pl => Yard.serveZone e zone fuel ((y.send pl).judgeAll e)

/-- R116, R120: every zone queue is served, in rising zone order, while dispatch is permitted. A queue
that the arrival did not call to be served holds no job that can be sent (log entry 8). -/
def Yard.serveAll (e : Env) (y : Yard) : Yard :=
  if e.dispatch then [0, 1, 2, 3].foldl (fun y z => Yard.serveZone e z 33 y) y else y

end Sys2Proof.Machine
end

