-- ==== Sys2Proof/Machine/Allocation.lean ====
section
/-! DEFINITION. The allocator, the placement unit and the lane arbiter: candidates and choices, offers, refill, bed plans, grants (chapters 4 to 6). -/

namespace Sys2Proof.Machine

/-! ### Candidates and choices (R77 to R80) -/

/-- R77: a pack's product matches an order line. -/
def OrderLine.fits (l : OrderLine) (p : Pack) : Bool :=
  decide (p.grade = l.grade) && decide (p.sectionCode = l.sectionCode)
    && decide (p.lengthClass = l.lengthClass)
    && match l.species with
      | some s => decide (p.species = s)
      | none => true

/-- R78: the dig cost of a pack for a truck: the packs above it that have no job and are not assigned
to that truck. -/
def Yard.digCost (y : Yard) (number b tag : Nat) : Nat :=
  ((y.above b tag).filter fun t =>
    match y.pack? t with
    | some p => p.job.isNone && !decide (p.assignment.map Assignment.truck = some number)
    | none => false).length

/-- A candidate with what the choice order reads (R80). -/
structure Choice where
  tag : Nat
  cost : Nat
  registeredAt : Nat
  bay : Nat
  tier : Nat
  deriving DecidableEq, Repr

/-- R80: lowest dig cost, then earliest registered at, then lowest bay, then highest tier. -/
def Choice.before (a b : Choice) : Bool :=
  decide (a.cost < b.cost) || (decide (a.cost = b.cost) &&
    (decide (a.registeredAt < b.registeredAt) || (decide (a.registeredAt = b.registeredAt) &&
      (decide (a.bay < b.bay) || (decide (a.bay = b.bay) && decide (b.tier < a.tier))))))

/-- R77: a pack as a candidate for an order line, with the running clearance total and the free
staging room of the choice. -/
def Yard.choice? (e : Env) (y : Yard) (number : Nat) (l : OrderLine) (total room : Nat)
    (tag : Nat) (p : Pack) : Option Choice :=
  match p.place with
  | .bay b tier =>
    let cost := y.digCost number b tag
    if p.state = .free ∧ p.job = none ∧ ¬ e.settings.quarantine b ∧ l.fits p
        ∧ cost ≤ e.settings.planning.digLimit ∧ total + cost ≤ room then
      some { tag := tag, cost := cost, registeredAt := p.registeredAt, bay := b, tier := tier }
    else none
  | _ => none

/-- R77: the candidates for an order line, in tag order. -/
def Yard.choices (e : Env) (y : Yard) (number : Nat) (l : OrderLine) (total room : Nat) :
    List Choice :=
  y.packs.entries.filterMap fun en => y.choice? e number l total room en.1 en.2

/-- R80: the first of a list of candidates in the choice order. -/
def bestChoice : List Choice → Option Choice
  | [] => none
  | c :: rest =>
    match bestChoice rest with
    | some d => if d.before c then some d else some c
    | none => some c

/-- R80: a pack becomes RESERVED to a line: its state, its assignment, and the line's assigned list. -/
def Yard.takePack (y : Yard) (number line tag : Nat) : Yard :=
  (y.modifyPack tag fun p =>
    { p with state := .reserved, assignment := some { truck := number, line := line } }).modifyTruck
    number fun t => t.modifyLine line fun l => { l with assigned := l.assigned ++ [tag] }

/-- A line's stock short count changed. -/
def Yard.modifyStockShort (y : Yard) (number line : Nat) (f : Nat → Nat) : Yard :=
  y.modifyTruck number fun t => t.modifyLine line fun l => { l with stockShort := f l.stockShort }

/-- A line's weight short count rises by 1. -/
def Yard.addWeightShort (y : Yard) (number line : Nat) : Yard :=
  y.modifyTruck number fun t =>
    t.modifyLine line fun l => { l with weightShort := l.weightShort + 1 }

/-- R80: a reservation: the pack is taken, and the line's stock short falls by 1. -/
def Yard.reserve (y : Yard) (number line tag : Nat) : Yard :=
  (y.takePack number line tag).modifyStockShort number line (· - 1)

/-- R76: the choices for one line, until its stock short is 0 or no candidate is found; `fuel` is the
line's stock short. It gives the running clearance total on. -/
def Yard.allocLine (e : Env) (number line room : Nat) : Nat → Nat → Yard → Yard × Nat
  | 0, total, y => (y, total)
  | fuel + 1, total, y =>
    match (y.truck? number).bind fun t => t.line? line with
    | none => (y, total)
    | some l =>
      match bestChoice (y.choices e number l total room) with
      | none => (y, total)
      | some c =>
        Yard.allocLine e number line room fuel (total + c.cost) (y.reserve number line c.tag)

/-- R76: the run over the lines from number `line`, with the running clearance total. -/
def Yard.allocLines (e : Env) (number room : Nat) : List OrderLine → Nat → Nat → Yard → Yard
  | [], _, _, y => y
  | l :: rest, line, total, y =>
    let r := y.allocLine e number line room l.stockShort total
    Yard.allocLines e number room rest (line + 1) r.2 r.1

/-- R76: the allocation run of a truck at its grant. -/
def Yard.allocate (e : Env) (y : Yard) (number : Nat) : Yard :=
  match y.truck? number with
  | none => y
  | some t => y.allocLines e number (y.freeStagingRoom e.settings) t.lines 1 0

/-! ### Placement (R93 to R104) -/

/-- A place of the place sequence with the pack that takes it. -/
structure Entry where
  ref : BedRef
  x : Nat
  tag : Nat
  mass : Nat
  lengthClass : Nat
  deriving DecidableEq, Repr

/-- R98: heavier packs first, and of equal mass the lower tag first. -/
def heavier (a b : Nat × Nat × Nat) : Bool :=
  decide (b.2.1 < a.2.1) || (decide (a.2.1 = b.2.1) && decide (a.1 < b.1))

/-- R98: the packs to place (tag, estimated mass, length class), sorted. -/
def Yard.placeOrder (e : Env) (y : Yard) (tags : List Nat) : List (Nat × Nat × Nat) :=
  sortBy heavier <| tags.filterMap fun tag =>
    (y.pack? tag).map fun p => (tag, e.estimate p, p.lengthClass)

/-- R96: the balance point, W x RCr / (RCf + RCr), rounded half up. -/
def balancePoint (wheelbase rcFront rcRear : Nat) : Nat :=
  roundDiv (wheelbase * rcRear) (rcFront + rcRear)

/-- The distance of two points. -/
def distance (a b : Nat) : Nat := (a - b) + (b - a)

/-- R97: the slots (index and x) sorted by their distance from the balance point, the lower index
first of two at the same distance. -/
def Truck.slotOrder (t : Truck) (b : Nat) : List (Nat × Nat) :=
  sortBy (fun s u => decide (distance s.2 b < distance u.2 b))
    (t.slots.zipIdx.map fun s => (s.2, s.1.x))

/-- R98: the place sequence: tier 1 of each slot in slot order, then tier 2 of each. -/
def Truck.placeRefs (t : Truck) (b : Nat) : List (BedRef × Nat) :=
  ((t.slotOrder b).map fun s => ({ slot := s.1, tier := .one }, s.2))
    ++ (t.slotOrder b).map fun s => ({ slot := s.1, tier := .two }, s.2)

/-- R98: each pack, in sorted order, takes the next place. -/
def entriesOf (places : List (BedRef × Nat)) (packs : List (Nat × Nat × Nat)) : List Entry :=
  (places.zip packs).map fun e =>
    { ref := e.1.1, x := e.1.2, tag := e.2.1, mass := e.2.2.1, lengthClass := e.2.2.2 }

/-- The entry at the other tier of an entry's slot. -/
def Entry.partner? (es : List Entry) (en : Entry) : Option Entry :=
  es.find? fun d => decide (d.ref.slot = en.ref.slot) && !decide (d.ref.tier = en.ref.tier)

/-- R99: the tier-2 pack of a slot is longer than its tier-1 pack, so the two change positions. -/
def Entry.swaps (en d : Entry) : Bool :=
  match en.ref.tier with
  | .one => decide (en.lengthClass < d.lengthClass)
  | .two => decide (d.lengthClass < en.lengthClass)

/-- R99: the length swap; every entry keeps its position. -/
def swapLengths (es : List Entry) : List Entry :=
  es.map fun en =>
    match en.partner? es with
    | some d =>
      if en.swaps d then { en with tag := d.tag, mass := d.mass, lengthClass := d.lengthClass }
      else en
    | none => en

/-- R100: the plan of an entry: its mass with its rear and front shares. -/
def Entry.plan (wheelbase : Nat) (en : Entry) : Plan :=
  { tag := en.tag
    mass := en.mass
    rear := rearShare en.mass en.x wheelbase
    front := en.mass - rearShare en.mass en.x wheelbase }

/-- R101: the check over the entries that still have a pack. -/
def Truck.checkEntries (t : Truck) (headroom : Nat) (es : List Entry) : Bool :=
  t.withinLimits headroom
    (t.tareFront + (es.map fun en => (en.plan t.wheelbase).front).sum)
    (t.tareRear + (es.map fun en => (en.plan t.wheelbase).rear).sum)
    (t.tareFront + t.tareRear + (es.map Entry.mass).sum)

/-- R102: shortening, over the place sequence from its last place: while the check fails, the last
pack is removed. It gives what remains, last place first, and the removed tags in order. -/
def shorten (ok : List Entry → Bool) : List Entry → List Entry × List Nat
  | [] => ([], [])
  | en :: rest =>
    if ok (en :: rest) then (en :: rest, [])
    else ((shorten ok rest).1, en.tag :: (shorten ok rest).2)

/-- R103: a pack released at placement: its assignment is released, its line's weight short rises by
1, and it becomes FREE at its place, a freed pack. -/
def Act.releaseForWeight (a : Act) (tag : Nat) : Act :=
  match (a.yard.pack? tag).bind Pack.assignment with
  | none => a
  | some asg =>
    ((a.on fun y => (y.unassign tag).addWeightShort asg.truck asg.line).setPackState tag
      .free).offerLater tag

/-- R104: a truck's bed with every position vacant. -/
def Truck.emptyBed (t : Truck) : Truck :=
  { t with slots := t.slots.map fun sl => { sl with one := BedPos.vacant, two := BedPos.vacant } }

/-- R104: an entry's position receives its plan, with loaded no. -/
def Truck.planEntry (t : Truck) (en : Entry) : Truck :=
  t.modifyPos en.ref fun _ => { plan := some (en.plan t.wheelbase), loaded := false }

/-- R104: the plan is written, the LOAD jobs are created in place-sequence order while records are
free, the truck becomes LOADING, or LOADED when the plan is empty, and the clearance rule is applied
to the bays of the planned packs. DESIGN CHOICE (log entry 43): the truck's state is set before the
clearance rule and the judgement that follows (`Act.place`). -/
def Act.writePlan (a : Act) (number : Nat) (kept : List Entry) : Act :=
  let a := a.on fun y => y.modifyTruck number fun t => kept.foldl Truck.planEntry t.emptyBed
  let a := kept.foldl (fun a en => a.newJob (.load number en.ref) en.tag) a
  let a := kept.foldl (fun a en => a.touchBayOf en.tag) a
  let a := if kept.isEmpty then a.on fun y => y.enterLoaded number
    else a.on fun y => y.modifyTruck number fun t => { t with state := .loading }
  a.clearDue

/-- R95: the remaining capacities and the room for payload are not all positive. -/
def Truck.carriesNothing (t : Truck) (headroom : Nat) : Bool :=
  decide (effectiveLimit t.frontLimit headroom ≤ t.tareFront)
    || decide (effectiveLimit t.rearLimit headroom ≤ t.tareRear)
    || decide (effectiveLimit t.grossLimit headroom ≤ t.tareFront + t.tareRear)

/-- R96 to R99: the place sequence of a truck with its packs. -/
def Yard.placeSequence (e : Env) (y : Yard) (t : Truck) : List Entry :=
  let h := e.settings.planning.headroom
  let b := balancePoint t.wheelbase (effectiveLimit t.frontLimit h - t.tareFront)
    (effectiveLimit t.rearLimit h - t.tareRear)
  swapLengths (entriesOf (t.placeRefs b) (y.placeOrder e t.assignedTags))

/-- R93, R104: placement of a truck, taken whole: the plan is written, and once its LOAD jobs and the CLEAR
jobs over them exist, the jobs are judged (R114; log entry 7). The packs it releases are offered later
(R81, R85). -/
def Act.place (e : Env) (a : Act) (number : Nat) : Act :=
  match a.yard.truck? number with
  | none => a
  | some t =>
    let h := e.settings.planning.headroom
    let r := if t.carriesNothing h then ([], t.assignedTags)
      else shorten (t.checkEntries h) (a.yard.placeSequence e t).reverse
    ((r.2.foldl Act.releaseForWeight a).writePlan number r.1.reverse).on (Yard.judgeAll e)

/-! ### Freed packs and stock wait (R82 to R86) -/

/-- R84: the trucks in SHORT_WAIT in order of granted at, then table index. -/
def Yard.waitingTrucks (y : Yard) : List (Nat × Truck) :=
  sortBy (fun a b => decide (a.2.grantedAt.getD 0 < b.2.grantedAt.getD 0))
    (y.trucks.pick fun _ t => decide (t.state = .shortWait))

/-- R84: a truck's clearance total: the dig costs, counted for it, of the packs assigned to it. -/
def Yard.clearanceTotal (y : Yard) (t : Truck) : Nat :=
  (t.assignedTags.map fun tag =>
    match y.bayOf? tag with
    | some b => y.digCost t.number b tag
    | none => 0).sum

/-- R84: the first line of a truck, from number `line`, that has stock short above 0 and admits the pack. -/
def Yard.admittingLine (e : Env) (y : Yard) (number total room tag : Nat) (p : Pack) :
    List OrderLine → Nat → Option Nat
  | [], _ => none
  | l :: rest, line =>
    if 0 < l.stockShort ∧ (y.choice? e number l total room tag p).isSome then some line
    else Yard.admittingLine e y number total room tag p rest (line + 1)

/-- R84: the truck and line a freed pack is reserved to, if any. -/
def Yard.offerTaker (e : Env) (y : Yard) (tag : Nat) : Option (Nat × Nat) :=
  match y.pack? tag with
  | none => none
  | some p =>
    y.waitingTrucks.findSome? fun en =>
      (Yard.admittingLine e y en.2.number (y.clearanceTotal en.2) (y.freeStagingRoom e.settings)
        tag p en.2.lines 1).map fun line => (en.2.number, line)

/-- R85, R86: a truck leaves SHORT_WAIT: its deadline is made absent and it is placed. -/
def Act.endStockWait (e : Env) (a : Act) (number : Nat) : Act :=
  (a.on fun y => y.modifyTruck number fun t => { t with deadline := none }).place e number

/-- R84, R85: a freed pack is offered; a reservation that leaves no line of the truck stock short ends
its wait. -/
def Act.offer (e : Env) (a : Act) (tag : Nat) : Act :=
  match a.yard.offerTaker e tag with
  | none => a
  | some (number, line) =>
    let a := a.on fun y => y.reserve number line tag
    match a.yard.truck? number with
    | some t => if t.stockShort then a else a.endStockWait e number
    | none => a

/-- R83: the freed packs are offered one after another, in the order they were freed, each offer taken
whole: a placement in it has judged its jobs before the next offer (`Act.place`). DESIGN CHOICE (log
entry 33): packs that a placement inside an offer releases (R85, R103) are offered after those that the
act had freed before. -/
def Act.offerAll (e : Env) : Nat → Act → Act
  | 0, a => a
  | fuel + 1, a =>
    match a.freed with
    | [] => a
    | tag :: rest => Act.offerAll e fuel (Act.offer e { a with freed := rest } tag)

/-- The offers of an act. Each of the 24 trucks leaves SHORT_WAIT once and frees at most 16 packs. -/
def Act.offers (e : Env) (a : Act) : Act := Act.offerAll e (a.freed.length + 384) a

/-! ### The lane arbiter (R72, R73) -/

/-- R72: the effective class of a truck. -/
def Env.effectiveClass (e : Env) (t : Truck) : Nat :=
  if e.settings.planning.ageing = 0 then t.cls
  else min 3 (t.cls + (e.clock - t.announcedAt) / (e.settings.planning.ageing * 60))

/-- R73: highest effective class, then earliest announced at (then lowest table index). -/
def Env.beforeAtGate (e : Env) (a b : Nat × Truck) : Bool :=
  decide (e.effectiveClass b.2 < e.effectiveClass a.2)
    || (decide (e.effectiveClass a.2 = e.effectiveClass b.2)
      && decide (a.2.announcedAt < b.2.announcedAt))

/-- R73: the QUEUED truck first in the arbiter's order. -/
def Yard.firstQueued (e : Env) (y : Yard) : Option (Nat × Truck) :=
  (sortBy e.beforeAtGate (y.trucks.pick fun _ t => decide (t.state = .queued))).head?

/-- R73: the lowest-numbered FREE lane. -/
def Yard.freeLane (y : Yard) : Option Nat :=
  (List.range 6).find? fun l => decide ((y.lane l).state = .free)

/-- R81: what follows the allocation run: the truck enters SHORT_WAIT, or is placed. -/
def Act.afterRun (e : Env) (a : Act) (number : Nat) : Act :=
  match a.yard.truck? number with
  | none => a
  | some t =>
    if t.stockShort ∧ t.shortMode = .completeLoad ∧ 0 < e.settings.planning.stockWait then
      a.on fun y => y.modifyTruck number fun t =>
        { t with
          state := .shortWait
          deadline := some (deadlineAt e.clock (e.settings.planning.stockWait * 60)) }
    else a.place e number

/-- R73: the grant of a lane to a truck, with its allocation and what follows it. -/
def Act.grant (e : Env) (a : Act) (lane number : Nat) : Act :=
  let a := a.on fun y =>
    ((y.modifyLane lane fun _ => { state := .occupied, holder := some number }).modifyTruck number
      fun t => { t with lane := some lane, grantedAt := some e.clock }).raise .laneGranted
  (a.on fun y => y.allocate e number).afterRun e number

/-- R73: the arbiter grants while a lane is FREE, a truck is QUEUED and 16 job records are free. DESIGN
CHOICE (log entry 42): the packs that the placement of a grant releases (R81) are offered before the next
grant of the same evaluation. -/
def Act.grants (e : Env) : Nat → Act → Act
  | 0, a => a
  | fuel + 1, a =>
    match a.yard.freeLane, a.yard.firstQueued e with
    | some lane, some (_, t) =>
      if Config.grantRecords ≤ a.yard.freeRecords then
        Act.grants e fuel (Act.offers e (a.grant e lane t.number))
      else a
    | _, _ => a

/-! ### Refill (R87 to R91) and the release of an assignment (R23) -/

/-- R88: vacates a bed position; a tier-2 plan over a vacated tier 1 moves down. It gives the truck,
the vacancy, and the tag that moved down. -/
def Truck.vacateForRefill (t : Truck) (r : BedRef) : Truck × BedRef × Option Nat :=
  let upper : BedRef := { slot := r.slot, tier := .two }
  match r.tier, (t.pos upper).plan with
  | .one, some pl =>
    ((t.modifyPos r fun _ => { plan := some pl, loaded := false }).vacate upper, upper, some pl.tag)
  | _, _ => (t.vacate r, r, none)

/-- R88: the LOAD job of a moved pack has its bed target changed to tier 1 of the slot. -/
def Yard.retarget (y : Yard) (tag slot : Nat) : Yard :=
  match y.jobOfPack? tag with
  | some (n, { work := .load number _, .. }) =>
    y.modifyJob n fun j => { j with work := .load number { slot := slot, tier := .one } }
  | _ => y

/-- R89: the plan a candidate would have in a vacancy. -/
def Truck.vacancyPlan (t : Truck) (r : BedRef) (tag mass : Nat) : Plan :=
  let x := match t.slot? r.slot with
    | some sl => sl.x
    | none => 0
  { tag := tag
    mass := mass
    rear := rearShare mass x t.wheelbase
    front := mass - rearShare mass x t.wheelbase }

/-- R89: the weight test of a candidate's plan. -/
def Truck.refillFits (t : Truck) (headroom : Nat) (pl : Plan) : Bool :=
  t.withinLimits headroom (t.tareFront + t.frontShares + pl.front)
    (t.tareRear + t.rearShares + pl.rear)
    (t.tareFront + t.tareRear + t.plannedMass + pl.mass)

/-- R89: the length test: over a planned tier 1, a candidate is not longer than the pack there. -/
def Yard.refillLength (y : Yard) (t : Truck) (r : BedRef) (lengthClass : Nat) : Bool :=
  match r.tier with
  | .one => true
  | .two =>
    match ((t.pos { slot := r.slot, tier := .one }).tag?).bind y.pack? with
    | some under => decide (lengthClass ≤ under.lengthClass)
    | none => true

/-- R89: the plan of a candidate, if it is admitted. -/
def Yard.admitRefill (e : Env) (y : Yard) (t : Truck) (r : BedRef) (c : Choice) : Option Plan :=
  match y.pack? c.tag with
  | none => none
  | some p =>
    let pl := t.vacancyPlan r c.tag (e.estimate p)
    if t.refillFits e.settings.planning.headroom pl ∧ y.refillLength t r p.lengthClass then some pl
    else none

/-- R90: the replacement is reserved and planned in the vacancy, and its LOAD job is created. -/
def Act.fillVacancy (a : Act) (number line : Nat) (r : BedRef) (pl : Plan) : Act :=
  (a.on fun y => (y.takePack number line pl.tag).modifyTruck number fun t =>
    t.modifyPos r fun _ => { plan := some pl, loaded := false }).createJob (.load number r) pl.tag

/-- R90: a refill that finds no replacement: the line's weight short rises by 1 when candidates
existed, else its stock short; then the truck is tested for LOADED. -/
def Act.failRefill (a : Act) (number line : Nat) (candidates : Bool) : Act :=
  a.on fun y =>
    (if candidates then y.addWeightShort number line
      else y.modifyStockShort number line (· + 1)).testLoaded number

/-- R89, R90: the choice of a replacement for a vacancy. -/
def Act.replace (e : Env) (a : Act) (number line : Nat) (r : BedRef) : Act :=
  match (a.yard.truck? number), (a.yard.truck? number).bind fun t => t.line? line with
  | some t, some l =>
    if (a.yard.jobs.lowestFree Config.maxJobs).isNone then a.failRefill number line false
    else
      let cs := sortBy Choice.before
        (a.yard.choices e number l 0 (a.yard.freeStagingRoom e.settings))
      match cs.findSome? fun c => a.yard.admitRefill e t r c with
      | some pl => a.fillVacancy number line r pl
      | none => a.failRefill number line !cs.isEmpty
  | _, _ => a

/-- R87, R88: a refill: the position of the released pack is vacated, a tier-2 plan above it moves
down, and a replacement is looked for. -/
def Act.refill (e : Env) (a : Act) (number line tag : Nat) : Act :=
  match a.yard.truck? number with
  | none => a
  | some t =>
    match t.findPlanned tag with
    | none => a.failRefill number line false
    | some r =>
      let v := t.vacateForRefill r
      let a := a.on fun y => y.modifyTruck number fun t => (t.vacateForRefill r).1
      let a := match v.2.2 with
        | some moved => a.on fun y => y.retarget moved r.slot
        | none => a
      a.replace e number line v.2.1

/-- R23 step 3: what follows a release, by the truck's state. -/
def Act.afterRelease (e : Env) (a : Act) (number line tag : Nat) : Act :=
  match a.yard.truckState? number with
  | some .loading => a.refill e number line tag
  | some .paused => a.refill e number line tag
  | some .shortWait => a.on fun y => y.modifyStockShort number line (· + 1)
  | _ => a

/-- R23: the release of a pack's assignment: the assignment is made absent and the tag leaves its
line; the LOAD job is deleted; the pack's own state is set by the calling rule (`settle`); then the
line is refilled or made short. -/
def Act.releaseAssignment (e : Env) (a : Act) (tag : Nat) (settle : Act → Act) : Act :=
  match (a.yard.pack? tag).bind Pack.assignment with
  | none => settle a
  | some asg =>
    let a := a.on fun y => y.unassign tag
    let a := match a.yard.jobOfPack? tag with
      | some (n, j) => if j.work.isLoad then a.endJob n else a
      | none => a
    (settle a).afterRelease e asg.truck asg.line tag

end Sys2Proof.Machine
end

