-- ==== Sys2Proof/Machine/Acts.lean ====
section
/-! DEFINITION. What acts share beyond allocation: the offload choice, job needs, the ends of moves and offloads, lifts and landings, and how every act of the yard finishes. -/

namespace Sys2Proof.Machine

/-! ### The pack to take off an overweight truck (R152) -/

/-- R152: which of the three tests of a weigh-out failed. -/
structure Overload where
  front : Bool
  rear : Bool
  gross : Bool
  deriving DecidableEq, Repr

/-- R150 step 3: the tests of the stored measurements against the truck's own limits. -/
def Truck.overload (t : Truck) : Overload :=
  match t.measured with
  | some m =>
    { front := decide (t.frontLimit < m.front)
      rear := decide (t.rearLimit < m.rear)
      gross := decide (t.grossLimit < m.front + m.rear) }
  | none => { front := false, rear := false, gross := false }

/-- R150: some test failed. -/
def Overload.any (o : Overload) : Bool := o.front || o.rear || o.gross

/-- R152: the measure of a candidate of a loaded mass at x. -/
def Overload.measure (o : Overload) (mass x wheelbase : Nat) : Nat :=
  match o.front, o.rear, o.gross with
  | true, false, false => mass - rearShare mass x wheelbase
  | false, true, false => rearShare mass x wheelbase
  | _, _, _ => mass

/-- R152: the candidates: the pack at the top occupied position of each slot from number `i`, with
its measure. -/
def Yard.offloadCandidates (y : Yard) (t : Truck) : Nat → List Slot → List (BedRef × Nat × Nat)
  | _, [] => []
  | i, sl :: rest =>
    match sl.topOccupied with
    | some tier =>
      match (sl.pos tier).tag? with
      | some tag =>
        let mass := ((y.pack? tag).bind Pack.loadedMass).getD 0
        ({ slot := i, tier := tier }, tag, t.overload.measure mass sl.x t.wheelbase)
          :: y.offloadCandidates t (i + 1) rest
      | none => y.offloadCandidates t (i + 1) rest
    | none => y.offloadCandidates t (i + 1) rest

/-- The first of the candidates with the largest measure. -/
def largest : List (BedRef × Nat × Nat) → Option (BedRef × Nat × Nat)
  | [] => none
  | c :: rest =>
    match largest rest with
    | some d => if c.2.2 < d.2.2 then some d else some c
    | none => some c

/-- R152: the pack chosen and its position: the largest measure, and on equal measures the lower slot. -/
def Yard.chooseOffload (y : Yard) (t : Truck) : Option (BedRef × Nat) :=
  (largest (y.offloadCandidates t 0 t.slots)).map fun c => (c.1, c.2.1)

/-! ### Job needs (R109) -/

/-- R109: the first CLEAR need: by bay number, and within a bay the highest tier first. -/
def Yard.firstClearNeed (y : Yard) : Option (JobWork × Nat) :=
  y.stack.entries.findSome? fun en =>
    (en.2.reverse.find? fun tag => y.clearNeed en.1 tag).map fun tag => (.clear en.1, tag)

/-- R109: a planned pack that is not loaded and has no job; a pack in doubt is left out (log entry 19). -/
def Yard.loadNeed (y : Yard) (p : BedPos) : Option Nat :=
  match p.plan with
  | none => none
  | some pl =>
    match y.pack? pl.tag with
    | some k => if !p.loaded ∧ k.job = none ∧ k.state ≠ .doubt then some pl.tag else none
    | none => none

/-- R109: the first LOAD need: by truck in order of granted at, then table index; within a truck by
slot index, tier 1 before tier 2. -/
def Yard.firstLoadNeed (y : Yard) : Option (JobWork × Nat) :=
  (sortBy (fun a b => decide (a.2.grantedAt.getD 0 < b.2.grantedAt.getD 0))
    (y.trucks.pick fun _ t => decide (t.state = .loading) || decide (t.state = .paused))).findSome?
    fun en => en.2.positions.findSome? fun ps =>
      (y.loadNeed ps.2).map fun tag => (.load en.2.number ps.1, tag)

/-- An ON_TRUCK pack with no job at a bed position. -/
def Yard.offloadNeed (y : Yard) (p : BedPos) : Option Nat :=
  match p.tag? with
  | none => none
  | some tag =>
    match y.pack? tag with
    | some k => if p.loaded ∧ k.state = .onTruck ∧ k.job = none then some tag else none
    | none => none

/-- The bed positions in slot order, tier 2 before tier 1, from slot number `i`. -/
def slotPositionsDown : Nat → List Slot → List (BedRef × BedPos)
  | _, [] => []
  | i, sl :: rest =>
    ({ slot := i, tier := .two }, sl.two) :: ({ slot := i, tier := .one }, sl.one)
      :: slotPositionsDown (i + 1) rest

/-- R109: the OFFLOAD needs of an UNLOADING truck, by slot index, tier 2 before tier 1. -/
def Yard.unloadingNeeds (y : Yard) (t : Truck) : List (BedRef × Nat) :=
  (slotPositionsDown 0 t.slots).filterMap fun ps => (y.offloadNeed ps.2).map fun tag => (ps.1, tag)

/-- R109: the first OFFLOAD need, by truck in table index order. -/
def Yard.firstOffloadNeed (y : Yard) : Option (JobWork × Nat) :=
  y.trucks.entries.findSome? fun en =>
    let pick := match en.2.state with
      | .unloading => (y.unloadingNeeds en.2).head?
      | .over => if y.hasOffloadJob en.2.number then none else y.chooseOffload en.2
      | _ => none
    pick.map fun c => (.offload en.2.number c.1, c.2)

/-- R109: the first need in the order of the pass. -/
def Yard.firstNeed (y : Yard) : Option (JobWork × Nat) :=
  match y.firstClearNeed with
  | some n => some n
  | none =>
    match y.firstLoadNeed with
    | some n => some n
    | none => y.firstOffloadNeed

/-- R109: free records are given to needs, one record to one need, until no record or no need remains.
A job so created gives rise to CLEAR needs, which come first in the next round. -/
def Act.serveNeeds : Nat → Act → Act
  | 0, a => a
  | fuel + 1, a =>
    if (a.yard.jobs.lowestFree Config.maxJobs).isNone then a
    else
      match a.yard.firstNeed with
      | some (work, tag) => Act.serveNeeds fuel (a.newJob work tag)
      | none => a

/-- R109: the pass over job needs, at the end of an act that freed a record. -/
def Act.needs (a : Act) : Act := if a.recordsFreed then a.serveNeeds Config.maxJobs else a

/-! ### How an act finishes -/

/-- What an act causes in the job list and the allocator, in this order (log entry 6): the clearance rule
at the bays touched (R110); the pass over job needs when a record was freed (R109); the judgement of the
jobs (R114); and the offers of the freed packs, each taken whole (R83). -/
def Act.settled (e : Env) (a : Act) : Act :=
  (((a.clearDue).needs).on (Yard.judgeAll e)).offers e

/-- How every act ends (log entry 6): what it causes, then the grants of the lane arbiter, each with its
placement and offers (R73), and the service of the zone queues (R116). -/
def Act.finish (e : Env) (a : Act) : Yard := (((a.settled e).grants e 6).yard).serveAll e

/-! ### Ends of offloads and of cancelled loads -/

/-- R153, R67: the end of an offload: the OFFLOAD job leaves the list, the tag leaves its line, the
assignment and the loaded mass are made absent (R44; log entry 26). For an OVER truck the line's weight short rises by 1 and the truck
becomes LOADED; for an UNLOADING truck the end of unloading is tested. -/
def Act.endOffload (a : Act) (n number tag : Nat) : Act :=
  let asg := (a.yard.pack? tag).bind Pack.assignment
  let a := (a.endJob n).on fun y =>
    (y.unassign tag).modifyPack tag fun p => { p with loadedMass := none }
  match a.yard.truckState? number with
  | some .over =>
    a.on fun y =>
      (match asg with
        | some g => y.addWeightShort g.truck g.line
        | none => y).enterLoaded number
  | some .unloading => a.on fun y => y.testUnloaded number
  | _ => a

/-- R66: a LOAD job of an UNLOADING truck ends off the bed: the job is deleted, the assignment is made
absent, the planned bed position is vacated with no refill, and the end of unloading is tested. -/
def Act.dropCancelled (a : Act) (n number tag : Nat) : Act :=
  (a.endJob n).on fun y => ((y.unassign tag).vacatePlanned number tag).testUnloaded number

/-- Whether a job is a LOAD job of an UNLOADING truck (R66), and of which. -/
def Yard.cancelledLoad? (y : Yard) (j : Job) : Option Nat :=
  match j.work with
  | .load number _ => if y.truckState? number = some .unloading then some number else none
  | _ => none

/-! ### Ends of moves without a landing (R66, R122, R137, R138) -/

/-- R22: a pack whose move ended before it left returns to its prior state at its place. -/
def Act.returnPack (a : Act) (tag : Nat) : Act :=
  a.on fun y => y.modifyPack tag fun p => { p with state := p.prior.getD p.state, prior := none }

/-- R122, R66: a job's move ended before its pack left: the pack returns to its prior state and the job
to WAITING; for a LOAD job of an UNLOADING truck the pack becomes FREE, a freed pack, and the job is
deleted. -/
def Act.unsend (a : Act) (n : Nat) (j : Job) : Act :=
  match a.yard.cancelledLoad? j with
  | some number =>
    ((a.setPackState j.tag .free).dropCancelled n number j.tag).offerLater j.tag
  | none => (a.returnPack j.tag).jobWaits n

/-- R122, R66: a job's pack is lost: it becomes DOUBT and the job SUSPENDED; for a LOAD job of an
UNLOADING truck the job is deleted and the assignment made absent. -/
def Act.lose (a : Act) (n : Nat) (j : Job) : Act :=
  match a.yard.cancelledLoad? j with
  | some number => (a.toDoubt j.tag).dropCancelled n number j.tag
  | none => (a.toDoubt j.tag).suspendJob n

/-- R138: a move is recalled: it ends, and its pack and job take what R122 gives. -/
def Act.recallMove (a : Act) (n : Nat) : Act :=
  match a.yard.move? n with
  | none => a
  | some m =>
    let a := a.on fun y => y.dropMove n
    match a.yard.job? m.job with
    | none => a
    | some j => if m.state = .lifted then a.lose m.job j else a.unsend m.job j

/-- R138: a recall is made on its own: its move ends, and its job is judged before the next recall (R114).
DESIGN CHOICE (log entry 40): what else a recall causes, when it deletes the LOAD job of an UNLOADING truck
(R66), that is the clearance rule, the pass over job needs and the offer of the pack it frees, comes once,
after the last recall of the act (`Act.finish`). -/
def Act.recall (e : Env) (a : Act) (n : Nat) : Act := (a.recallMove n).on (Yard.judgeAll e)

/-- R138: the moves of a terminal are recalled, oldest send first, each on its own. -/
def Act.recallAll (e : Env) (a : Act) (terminal : Nat) : Act :=
  (a.yard.terminal terminal).moves.foldl (Act.recall e) a

/-! ### Lifts and landings (R134, R135) -/

/-- R134: the test of a LIFTED report against the source as it stands. -/
def Yard.liftAllowed (y : Yard) (m : Move) : Bool :=
  match m.kind, m.source, y.job? m.job with
  | .fromTruck, .bed _ r, some { work := .offload number _, .. } =>
    match y.truck? number with
    | some t => t.isTopOccupied r
    | none => false
  | .fromTruck, _, _ => false
  | _, _, _ =>
    match y.bayOf? m.tag with
    | some b => (y.above b m.tag).isEmpty
    | none => false

/-- R134: the pack leaves its stack, or its bed position, which is vacated; its place becomes none. -/
def Act.leaveSource (a : Act) (m : Move) : Act :=
  match m.kind, m.source, a.yard.job? m.job with
  | .fromTruck, .bed _ r, some { work := .offload number _, .. } =>
    a.on fun y => (y.modifyTruck number fun t => t.vacate r).modifyPack m.tag fun p =>
      { p with place := .nowhere }
  | _, _, _ => a.leave m.tag

/-- R139: a message has asked the terminal to give up a move. -/
def LinkMessage.asks (msg : LinkMessage) (n : Nat) : Bool := decide (msg = .withdraw n)

/-- R134: a lift is applied: the pack leaves its source, and the move and its job become LIFTED. A pending
WITHDRAW for the move is discarded where it has not been sent yet; where the LIFTED answers that WITHDRAW
(`asked`; log entry 34), it stays pending, and the terminal answers TOO_LATE (R139, R66). -/
def Act.lift (a : Act) (asked : Bool) (n : Nat) (m : Move) : Act :=
  (a.leaveSource m).on fun y =>
    let y := (y.modifyMove n fun m => { m with state := .lifted }).modifyJob m.job fun j =>
      { j with state := .lifted }
    if asked then y else y.dropNotice m.terminal (.withdraw n)

/-- R135, R34: a pack is set at a bed position of a truck: it becomes ON_TRUCK there with a loaded mass,
and the position becomes loaded. -/
def Act.setOnBed (a : Act) (number : Nat) (r : BedRef) (tag mass : Nat) : Act :=
  a.on fun y =>
    let lane := ((y.truck? number).bind Truck.lane).getD 0
    (y.modifyPack tag fun p =>
      { p with state := .onTruck, prior := none, place := .bed lane r,
               loadedMass := some mass }).modifyTruck number fun t =>
      t.modifyPos r fun ps => { ps with loaded := true }

/-- R121, R61, R66: a LOAD job ends with its pack on the bed: the truck is tested for LOADED; on an
UNLOADING truck the job is replaced by an OFFLOAD job for the pack. -/
def Act.endLoad (a : Act) (n number : Nat) (target : BedRef) (tag : Nat) : Act :=
  let a := a.endJob n
  match a.yard.truckState? number with
  | some .unloading => a.createJob (.offload number target) tag
  | _ => a.on fun y => y.testLoaded number

/-- The estimated mass of the pack of a tag, 0 where there is no such pack (R39). -/
def Yard.estimateOf (e : Env) (y : Yard) (tag : Nat) : Nat :=
  match y.pack? tag with
  | some p => e.estimate p
  | none => 0

/-- R135: the DONE of a TO_TRUCK move. -/
def Act.landOnTruck (e : Env) (a : Act) (m : Move) (j : Job) : Act :=
  match j.work with
  | .load number target =>
    (a.setOnBed number target m.tag (a.yard.estimateOf e m.tag)).endLoad m.job number target m.tag
  | _ => a

/-- R111, R83: a CLEAR job ends with its pack in the bay it was set in; a pack that is FREE then is a
freed pack. -/
def Act.endClear (a : Act) (n tag : Nat) : Act :=
  let a := a.endJob n
  if (a.yard.pack? tag).map Pack.state = some .free then a.offerLater tag else a

/-- R135: the DONE of a TO_STAGING move: the pack joins the destination bay in its prior state. A CLEAR
job ends; an aside returns its LOAD job to WAITING, or ends it for an UNLOADING truck (R66). -/
def Act.landInStaging (a : Act) (b : Nat) (m : Move) (j : Job) : Act :=
  let a := a.join b m.tag
  match j.work with
  | .clear _ => (a.returnPack m.tag).endClear m.job m.tag
  | _ => a.unsend m.job j

/-- R135, R67, R153: the DONE of a FROM_TRUCK move: the pack joins the destination bay and becomes FREE,
its loaded mass is made absent, and the offload ends. -/
def Act.landFromTruck (a : Act) (b : Nat) (m : Move) (j : Job) : Act :=
  match j.work with
  | .offload number _ =>
    (((a.join b m.tag).setPackState m.tag .free).endOffload m.job number m.tag).offerLater m.tag
  | _ => a

/-- R135 step 2 and 3: the pack is set at its destination, the move ends, and its job ends or goes on. -/
def Act.land (e : Env) (a : Act) (n : Nat) (m : Move) : Act :=
  let a := a.on fun y => y.dropMove n
  match a.yard.job? m.job with
  | none => a
  | some j =>
    match m.kind, m.dest with
    | .toTruck, _ => a.landOnTruck e m j
    | .toStaging, .bay b => a.landInStaging b m j
    | .fromTruck, .bay b => a.landFromTruck b m j
    | _, _ => a

end Sys2Proof.Machine
end

