-- ==== Sys2Proof/Machine/Replies.lean ====
section
/-! DEFINITION. What a taken request answers, and the reply bodies of R177, field by field. -/

namespace Sys2Proof.Machine

/-- What the taking of a request gives its reply buffer: a reply that is ready at once, or a reply that
waits for the CLEAR ALL exchange of a terminal (R126) or for the end of a recall (R167). -/
inductive Response where
  | reply (result : Result) (body : List Byte)
  | awaitEnroll (terminal : Nat)
  | awaitRecall (kept : Byte)
  deriving DecidableEq, Repr

/-- A refusal: a result other than OK carries no body (R175). -/
def Response.refuse (r : Result) : Response := .reply r []

/-- OK with a body. -/
def Response.ok (body : List Byte) : Response := .reply .ok body

/-- Yard time and deadlines are four bytes (R174). -/
def timeBytes (n : Nat) : List Byte := leBytes 4 n

/-- Masses and tags are three bytes (R174). -/
def threeBytes (n : Nat) : List Byte := leBytes 3 n

/-- Truck and move numbers, and the other numbers of two bytes (R174). -/
def twoBytes (n : Nat) : List Byte := leBytes 2 n

/-- A pair of axle-group figures, front first. -/
def Axles.bytes (a : Axles) : List Byte := threeBytes a.front ++ threeBytes a.rear

/-! ### Settings, clock and identity -/

/-- R177: what is in flight: 0 none, 1 store, 2 recall. -/
def Flight.code : Flight → Nat
  | .nothing => 0
  | .store .. => 1
  | .recall => 2

/-- R168, R177: the body of READ SETTINGS, 120 bytes. -/
def Part.settingsBody (p : Part) : List Byte :=
  p.settings.headBytes p.trims ++ [byte p.weather.prescaleCount]
    ++ optBytes 4 (p.weather.deadline.map timeBytes) ++ p.settings.tailBytes
    ++ [flagByte p.store.good, byte p.flight.code]

/-- The characters of "YL-840". -/
def partName : List Byte := [byte 89, byte 76, byte 45, byte 56, byte 52, byte 48]

/-- R168, R177: the body of IDENTIFY. The revisions are free values (log entry 14). -/
def Part.identityBody (p : Part) : List Byte :=
  partName ++ [Config.hardwareRevision] ++ twoBytes Config.firmwareRevision.toNat
    ++ twoBytes Config.maxPacks ++ [byte Config.maxTrucks] ++ twoBytes Config.maxJobs
    ++ [byte p.host.baud]

/-! ### Packs and bays -/

/-- R36: the move of a MOVING pack: number, kind, state and terminal. -/
def Yard.moveOfPack? (y : Yard) (tag : Nat) : Option (Nat × Move) :=
  match y.jobOfPack? tag with
  | some (_, j) =>
    match j.move with
    | some n => (y.move? n).map fun m => (n, m)
    | none => none
  | none => none

/-- R36, R177: the optional move field of READ PACK. -/
def Yard.packMoveBytes (y : Yard) (tag : Nat) : Option (List Byte) :=
  (y.moveOfPack? tag).map fun m =>
    twoBytes m.1 ++ [byte m.2.kind.code, byte m.2.state.code, byte m.2.terminal]

/-- R36, R177: the optional job kind and state of READ PACK. -/
def Yard.packJobBytes (y : Yard) (tag : Nat) : Option (List Byte) :=
  (y.jobOfPack? tag).map fun j => [byte j.2.work.code, byte j.2.state.code]

/-- R36, R177: the body of READ PACK. -/
def Yard.packBody (e : Env) (y : Yard) (tag : Nat) (p : Pack) : List Byte :=
  threeBytes tag ++ [byte p.grade, byte p.sectionCode, byte p.lengthClass, byte p.species]
    ++ twoBytes p.volume ++ [byte p.moisture, flagByte p.measured] ++ twoBytes p.footprint
    ++ timeBytes p.registeredAt ++ leBytes 4 p.water ++ [byte p.state.code] ++ p.place.bytes
    ++ optBytes 1 (p.prior.map fun s => [byte s.code])
    ++ optBytes 3 (p.assignment.map fun a => twoBytes a.truck ++ [byte a.line])
    ++ optBytes 1 (p.job.map fun n => [byte n])
    ++ optBytes 3 (p.loadedMass.map threeBytes) ++ threeBytes (e.estimate p)
    ++ optBytes 5 (y.packMoveBytes tag) ++ optBytes 2 (y.packJobBytes tag)

/-- R37, R177: the attribute bits of READ BAY. -/
def Yard.bayFlags (s : Settings) (y : Yard) (b : Nat) : Byte :=
  byte ((if s.covered b then 1 else 0) + (if s.quarantine b then 2 else 0)
    + (if s.staging b then 4 else 0) + (if y.clearStaging s b then 8 else 0))

/-- R37, R177: one tier of READ BAY: tag, state, and job if any. -/
def Yard.tierBytes (y : Yard) (tag : Nat) : List Byte :=
  threeBytes tag ++ match y.pack? tag with
    | some p => byte p.state.code :: optBytes 1 (p.job.map fun n => [byte n])
    | none => byte 0 :: optBytes 1 none

/-- R37, R177: the body of READ BAY. -/
def Yard.bayBody (s : Settings) (y : Yard) (b : Nat) : List Byte :=
  [y.bayFlags s b, byte (s.heightLimit b), byte (s.zoneOfBay b), byte (y.height b),
    byte (y.claimsOf b), byte (y.room s b)] ++ (y.stackOf b).flatMap y.tierBytes

/-! ### Trucks and lanes -/

/-- R69, R177: part 0 of READ TRUCK: vehicle, state and weighings. -/
def Truck.vehicleBody (e : Env) (index : Nat) (t : Truck) : List Byte :=
  twoBytes t.number ++ [byte index] ++ timeBytes t.announcedAt
    ++ [byte t.cls, byte (e.effectiveClass t), byte t.shortMode.code]
    ++ threeBytes t.frontLimit ++ threeBytes t.rearLimit ++ threeBytes t.grossLimit
    ++ twoBytes t.wheelbase ++ [byte t.slots.length] ++ pairsBytes (t.slots.map Slot.x)
    ++ optBytes 6 (t.tare.map Axles.bytes) ++ optBytes 1 (t.lane.map fun l => [byte l])
    ++ optBytes 4 (t.grantedAt.map timeBytes) ++ optBytes 4 (t.deadline.map timeBytes)
    ++ [byte t.state.code, flagByte t.weighedOut] ++ optBytes 6 (t.measured.map Axles.bytes)

/-- R177: one order line of READ TRUCK part 1. -/
def OrderLine.bytes (l : OrderLine) : List Byte :=
  [byte l.grade, byte l.sectionCode, byte l.lengthClass, byte (speciesCode l.species),
    byte l.wanted, byte l.stockShort, byte l.weightShort, byte l.assigned.length]
    ++ l.assigned.flatMap threeBytes

/-- R69, R177: part 1 of READ TRUCK: the order lines. -/
def Truck.linesBody (t : Truck) : List Byte :=
  byte t.lines.length :: t.lines.flatMap OrderLine.bytes

/-- R177: one bed position of READ TRUCK part 2; tag 0 when vacant. DESIGN CHOICE (log entry 27): the planned
mass and the shares, which a vacant position does not hold (R57), are then sent as zeros. -/
def BedPos.bytes (p : BedPos) : List Byte :=
  match p.plan with
  | some pl =>
    threeBytes pl.tag ++ threeBytes pl.mass ++ threeBytes pl.front ++ threeBytes pl.rear
      ++ [flagByte p.loaded]
  | none =>
    threeBytes 0 ++ threeBytes 0 ++ threeBytes 0 ++ threeBytes 0 ++ [flagByte p.loaded]

/-- R101, R69: the planned front total, rear total and gross, for a truck that holds a lane. -/
def Truck.totalsBytes (t : Truck) : Option (List Byte) :=
  t.lane.map fun _ =>
    threeBytes (t.tareFront + t.frontShares) ++ threeBytes (t.tareRear + t.rearShares)
      ++ threeBytes (t.tareFront + t.tareRear + t.plannedMass)

/-- R69, R177: part 2 of READ TRUCK: the bed plan and planned totals. -/
def Truck.bedBody (t : Truck) : List Byte :=
  t.slots.flatMap (fun sl => sl.one.bytes ++ sl.two.bytes) ++ optBytes 9 t.totalsBytes

/-- R69, R177: the body of LIST TRUCKS. -/
def Yard.trucksBody (y : Yard) : List Byte :=
  byte y.trucks.size :: y.trucks.entries.flatMap fun en =>
    twoBytes en.2.number ++ [byte en.2.state.code]
      ++ optBytes 1 (en.2.lane.map fun l => [byte l])

/-- R71, R177: one lane of READ LANES. -/
def Yard.laneBytes (s : Settings) (y : Yard) (l : Nat) : List Byte :=
  [byte (y.lane l).state.code] ++ optBytes 2 ((y.lane l).holder.map twoBytes)
    ++ [byte (s.zoneOfLane l)]

/-- R71, R177: the body of READ LANES. -/
def Yard.lanesBody (s : Settings) (y : Yard) : List Byte :=
  (List.range 6).flatMap (y.laneBytes s)

/-! ### Terminals, text and weighbridge -/

/-- R142, R177: one move of READ LOADER. -/
def Yard.loaderMoveBytes (y : Yard) (n : Nat) : List Byte :=
  match y.move? n with
  | some m =>
    twoBytes n ++ [byte m.kind.code] ++ threeBytes m.tag
      ++ [byte m.state.code, flagByte m.delivered] ++ m.dest.bytes n
  | none => []

/-- R177: one notice of READ LOADER: 0 WITHDRAW or 1 REJECT, then the move number. -/
def Notice.bytes : Notice → List Byte
  | .withdraw n => byte 0 :: twoBytes n
  | .reject n => byte 1 :: twoBytes n

/-- R142, R177: the body of READ LOADER. -/
def Yard.loaderBody (y : Yard) (terminal : Nat) : List Byte :=
  let t := y.terminal terminal
  [byte t.state.code, flagByte t.enrolling, byte t.credit, byte t.silence.code]
    ++ twoBytes t.retries ++ optBytes 4 (t.lastHeard.map timeBytes)
    ++ optBytes 4 (t.nextProbe.map timeBytes) ++ [byte t.moves.length]
    ++ t.moves.flatMap y.loaderMoveBytes ++ [byte t.notices.length]
    ++ t.notices.flatMap Notice.bytes

/-- R141, R177: the entry of READ TEXT; an absent entry shows terminal, time and count as zeros. -/
def textBody (entry : Option TextEntry) : List Byte :=
  optBytes 6 (entry.map fun t =>
    [byte t.terminal] ++ timeBytes t.time ++ [byte t.chars.length] ++ t.chars)

/-- R154, R177: the arming record of READ WEIGHBRIDGE. -/
def Arming.bytes (a : Arming) : List Byte :=
  twoBytes a.truck ++ [byte a.direction.code] ++ timeBytes a.deadline
    ++ optBytes 3 (a.deck1.map threeBytes) ++ optBytes 3 (a.deck2.map threeBytes)

/-- R154, R177: a last reading of READ WEIGHBRIDGE. -/
def Reading.bytes (r : Reading) : List Byte :=
  intBytes 4 r.raw ++ threeBytes r.value ++ [flagByte r.stable] ++ timeBytes r.time

/-- R177: receiver state, 0 HUNTING, 1 COLLECTING. -/
def LineReceiver.code : LineReceiver → Nat
  | .hunting => 0
  | .collecting _ => 1

/-- R154, R177: the body of READ WEIGHBRIDGE. -/
def WeighUnit.body (w : WeighUnit) : List Byte :=
  optBytes 15 (w.arming.map Arming.bytes) ++ optBytes 12 (w.last1.map Reading.bytes)
    ++ optBytes 12 (w.last2.map Reading.bytes) ++ [byte w.receiver.code, byte w.discards]

/-! ### Audit -/

/-- R177: an audit item in four bytes. DESIGN CHOICE (log entry 20): in an item of check 6 the truck number
(2 bytes) comes before the lane, in one of check 7 the tag (3 bytes) before the job, and beside a truck or
a tag the other field is zero. -/
def AuditItem.bytes : AuditItem → List Byte
  | .nothing => [byte 0, byte 0, byte 0, byte 0]
  | .bay b => [byte b, byte 0, byte 0, byte 0]
  | .bayTier b t => [byte b, byte t, byte 0, byte 0]
  | .tag t => threeBytes t ++ [byte 0]
  | .truckLine n l => twoBytes n ++ [byte l, byte 0]
  | .truckPos n r => twoBytes n ++ [byte r.slot, byte r.tier.num]
  | .lane l => twoBytes 0 ++ [byte l, byte 0]
  | .truck n => twoBytes n ++ [byte 0, byte 0]
  | .job n => threeBytes 0 ++ [byte n]

/-- R177: an audit result: its code, then the item. DESIGN CHOICE (log entry 20): with codes 0 (pass) and 8
(not run), where R177 gives no item, the four item bytes are 0. -/
def AuditResult.bytes : AuditResult → List Byte
  | .pass => byte 0 :: AuditItem.nothing.bytes
  | .fails c i => byte c :: i.bytes
  | .notRun => byte 8 :: AuditItem.nothing.bytes

end Sys2Proof.Machine
end

