-- ==== Sys2Proof/Machine/Frames.lean ====
section
/-! DEFINITION. The frames of both links: the CRC-8 (R157), host request bodies both ways (R175, R176), reply frames (R155), and loader link frames both ways (R178, R179). -/

namespace Sys2Proof.Machine

/-! ### The CRC-8 (R157) -/

/-- R157: one shift of the register; a 1 that leaves the top combines it with 0x31. -/
def crcShift (r : Byte) : Byte := if r.msb then (r <<< 1) ^^^ 0x31#8 else r <<< 1

/-- R157: a byte is combined into the register, and the register is shifted eight times. -/
def crcByte (r b : Byte) : Byte :=
  crcShift (crcShift (crcShift (crcShift (crcShift (crcShift (crcShift (crcShift (r ^^^ b))))))))

/-- R157: the CHECK over a list of bytes, from a register of 0xFF. -/
def crc (bytes : List Byte) : Byte := bytes.foldl crcByte 0xFF#8

/-! ### Request bodies as bytes (R176) -/

/-- R176: the KIND of a request. -/
def requestKind : Request → Nat
  | .setWindow _ => 0x01
  | .setZoning _ => 0x02
  | .setSpecies .. => 0x03
  | .setWeather _ => 0x04
  | .setPlanning _ => 0x05
  | .setLoaderLink .. => 0x06
  | .setWeighing _ => 0x07
  | .setEventMask _ => 0x08
  | .readSettings => 0x09
  | .storeSettings => 0x0A
  | .recallSettings => 0x0B
  | .setClock _ => 0x0C
  | .readClock => 0x0D
  | .identify => 0x0E
  | .registerPack _ => 0x10
  | .removePack _ => 0x11
  | .holdPack _ => 0x12
  | .releasePack _ => 0x13
  | .locatePack .. => 0x14
  | .readPack _ => 0x15
  | .readBay _ => 0x16
  | .announceTruck _ => 0x18
  | .cancelTruck _ => 0x19
  | .pauseTruck _ => 0x1A
  | .resumeTruck _ => 0x1B
  | .departTruck _ => 0x1C
  | .readTruck .. => 0x1D
  | .listTrucks => 0x1E
  | .openLane _ => 0x20
  | .closeLane _ => 0x21
  | .readLanes => 0x22
  | .enrollLoader .. => 0x24
  | .retireLoader _ => 0x25
  | .readLoader _ => 0x26
  | .readText => 0x27
  | .weighIn _ => 0x28
  | .weighOut _ => 0x29
  | .abortWeighing => 0x2A
  | .readWeighbridge => 0x2B
  | .readEvents => 0x2C
  | .runAudit => 0x2D
  | .restart => 0x2E

/-- R176: one order line of ANNOUNCE TRUCK. -/
def lineBytes (l : LineArgs) : List Byte :=
  [byte l.grade, byte l.sectionCode, byte l.lengthClass, byte l.species, byte l.wanted]

/-- R176: the order lines of ANNOUNCE TRUCK. -/
def linesBytes : List LineArgs → List Byte
  | [] => []
  | l :: rest => lineBytes l ++ linesBytes rest

/-- R176: the fields of ANNOUNCE TRUCK before its slot count. -/
def truckHead (a : TruckArgs) : List Byte :=
  leBytes 2 a.number ++ [byte a.cls, byte a.shortMode] ++ leBytes 3 a.frontLimit
    ++ leBytes 3 a.rearLimit ++ leBytes 3 a.grossLimit ++ leBytes 2 a.wheelbase

/-- R176: the body of a request, field by field. -/
def requestBody : Request → List Byte
  | .setWindow a =>
    [byte a.window, byte a.enable, byte a.kind, byte a.base, byte a.mask, byte a.limit]
  | .setZoning a =>
    [byte a.mode, byte a.lane0, byte a.lane1, byte a.lane2, byte a.lane3, byte a.lane4, byte a.lane5]
  | .setSpecies sp d t => [byte sp] ++ leBytes 2 d ++ leBytes 2 t
  | .setWeather a =>
    [byte a.edge, byte a.prescale, byte a.depth, byte a.retention, byte a.capKg, byte a.interval,
      byte a.percent]
  | .setPlanning a =>
    [byte a.digLimit, byte a.stockWait, byte a.ageing, byte a.headroom, byte a.posted]
  | .setLoaderLink t r p => [byte t, byte r, byte p]
  | .setWeighing a =>
    [byte a.parity, byte a.endChar] ++ intBytes 2 a.offset1 ++ intBytes 2 a.offset2 ++ [byte a.timeout]
  | .setEventMask m => leBytes 3 m
  | .readSettings => []
  | .storeSettings => []
  | .recallSettings => []
  | .setClock c => leBytes 4 c
  | .readClock => []
  | .identify => []
  | .registerPack a =>
    leBytes 3 a.tag ++ [byte a.bay, byte a.grade, byte a.sectionCode, byte a.lengthClass,
      byte a.species] ++ leBytes 2 a.volume ++ [byte a.moisture] ++ leBytes 2 a.footprint
  | .removePack t => leBytes 3 t
  | .holdPack t => leBytes 3 t
  | .releasePack t => leBytes 3 t
  | .locatePack t f b => leBytes 3 t ++ [byte f, byte b]
  | .readPack t => leBytes 3 t
  | .readBay b => [byte b]
  | .announceTruck a =>
    truckHead a ++ [byte a.slots.length] ++ pairsBytes a.slots ++ [byte a.lines.length]
      ++ linesBytes a.lines
  | .cancelTruck n => leBytes 2 n
  | .pauseTruck n => leBytes 2 n
  | .resumeTruck n => leBytes 2 n
  | .departTruck n => leBytes 2 n
  | .readTruck n p => leBytes 2 n ++ [byte p]
  | .listTrucks => []
  | .openLane l => [byte l]
  | .closeLane l => [byte l]
  | .readLanes => []
  | .enrollLoader t c s => [byte t, byte c, byte s]
  | .retireLoader t => [byte t]
  | .readLoader t => [byte t]
  | .readText => []
  | .weighIn n => leBytes 2 n
  | .weighOut n => leBytes 2 n
  | .abortWeighing => []
  | .readWeighbridge => []
  | .readEvents => []
  | .runAudit => []
  | .restart => []

/-! ### Request bodies decoded (R159, R175) -/

/-- What the kind and the length of a frame's body give (R159 checks 2 and 3). -/
inductive Decoded where
  | unknownKind
  | badLength
  | request (r : Request)
  deriving DecidableEq, Repr

/-- R175: the number in a body at an offset, over a width. -/
def num (b : List Byte) (at_ width : Nat) : Nat := fromLe ((b.drop at_).take width)

/-- R159: a body of a fixed length. -/
def fixed (len : Nat) (b : List Byte) (r : Request) : Decoded :=
  if b.length = len then .request r else .badLength

/-- R175: numbers of two bytes each. -/
def readPairs : Nat → List Byte → List Nat
  | 0, _ => []
  | n + 1, b => num b 0 2 :: readPairs n (b.drop 2)

/-- R175: order lines of five bytes each. -/
def readLines : Nat → List Byte → List LineArgs
  | 0, _ => []
  | n + 1, b =>
    { grade := num b 0 1, sectionCode := num b 1 1, lengthClass := num b 2 1, species := num b 3 1,
      wanted := num b 4 1 } :: readLines n (b.drop 5)

/-- R175: an ANNOUNCE TRUCK body whose slot count is `n` and whose line count is `k`. -/
def truckOf (b : List Byte) (n k : Nat) : TruckArgs where
  number := num b 0 2
  cls := num b 2 1
  shortMode := num b 3 1
  frontLimit := num b 4 3
  rearLimit := num b 7 3
  grossLimit := num b 10 3
  wheelbase := num b 13 2
  slots := readPairs n (b.drop 16)
  lines := readLines k (b.drop (17 + 2 * n))

/-- R175: ANNOUNCE TRUCK: a body too short to hold a count byte, or of a length other than its counts
give, is refused BAD_LENGTH. -/
def decodeTruck (b : List Byte) : Decoded :=
  if b.length ≤ 15 then .badLength
  else
    let n := num b 15 1
    if b.length ≤ 16 + 2 * n then .badLength
    else
      let k := num b (16 + 2 * n) 1
      if b.length = 17 + 2 * n + 5 * k then .request (.announceTruck (truckOf b n k)) else .badLength

/-- R175, R176: the request that a KIND and a body name. -/
def decodeRequest (kind : Nat) (b : List Byte) : Decoded :=
  match kind with
  | 0x01 => fixed 6 b (.setWindow
      { window := num b 0 1, enable := num b 1 1, kind := num b 2 1, base := num b 3 1,
        mask := num b 4 1, limit := num b 5 1 })
  | 0x02 => fixed 7 b (.setZoning
      { mode := num b 0 1, lane0 := num b 1 1, lane1 := num b 2 1, lane2 := num b 3 1,
        lane3 := num b 4 1, lane4 := num b 5 1, lane5 := num b 6 1 })
  | 0x03 => fixed 5 b (.setSpecies (num b 0 1) (num b 1 2) (num b 3 2))
  | 0x04 => fixed 7 b (.setWeather
      { edge := num b 0 1, prescale := num b 1 1, depth := num b 2 1, retention := num b 3 1,
        capKg := num b 4 1, interval := num b 5 1, percent := num b 6 1 })
  | 0x05 => fixed 5 b (.setPlanning
      { digLimit := num b 0 1, stockWait := num b 1 1, ageing := num b 2 1, headroom := num b 3 1,
        posted := num b 4 1 })
  | 0x06 => fixed 3 b (.setLoaderLink (num b 0 1) (num b 1 1) (num b 2 1))
  | 0x07 => fixed 7 b (.setWeighing
      { parity := num b 0 1, endChar := num b 1 1, offset1 := intOf16 (num b 2 2),
        offset2 := intOf16 (num b 4 2), timeout := num b 6 1 })
  | 0x08 => fixed 3 b (.setEventMask (num b 0 3))
  | 0x09 => fixed 0 b .readSettings
  | 0x0A => fixed 0 b .storeSettings
  | 0x0B => fixed 0 b .recallSettings
  | 0x0C => fixed 4 b (.setClock (num b 0 4))
  | 0x0D => fixed 0 b .readClock
  | 0x0E => fixed 0 b .identify
  | 0x10 => fixed 13 b (.registerPack
      { tag := num b 0 3, bay := num b 3 1, grade := num b 4 1, sectionCode := num b 5 1,
        lengthClass := num b 6 1, species := num b 7 1, volume := num b 8 2, moisture := num b 10 1,
        footprint := num b 11 2 })
  | 0x11 => fixed 3 b (.removePack (num b 0 3))
  | 0x12 => fixed 3 b (.holdPack (num b 0 3))
  | 0x13 => fixed 3 b (.releasePack (num b 0 3))
  | 0x14 => fixed 5 b (.locatePack (num b 0 3) (num b 3 1) (num b 4 1))
  | 0x15 => fixed 3 b (.readPack (num b 0 3))
  | 0x16 => fixed 1 b (.readBay (num b 0 1))
  | 0x18 => decodeTruck b
  | 0x19 => fixed 2 b (.cancelTruck (num b 0 2))
  | 0x1A => fixed 2 b (.pauseTruck (num b 0 2))
  | 0x1B => fixed 2 b (.resumeTruck (num b 0 2))
  | 0x1C => fixed 2 b (.departTruck (num b 0 2))
  | 0x1D => fixed 3 b (.readTruck (num b 0 2) (num b 2 1))
  | 0x1E => fixed 0 b .listTrucks
  | 0x20 => fixed 1 b (.openLane (num b 0 1))
  | 0x21 => fixed 1 b (.closeLane (num b 0 1))
  | 0x22 => fixed 0 b .readLanes
  | 0x24 => fixed 3 b (.enrollLoader (num b 0 1) (num b 1 1) (num b 2 1))
  | 0x25 => fixed 1 b (.retireLoader (num b 0 1))
  | 0x26 => fixed 1 b (.readLoader (num b 0 1))
  | 0x27 => fixed 0 b .readText
  | 0x28 => fixed 2 b (.weighIn (num b 0 2))
  | 0x29 => fixed 2 b (.weighOut (num b 0 2))
  | 0x2A => fixed 0 b .abortWeighing
  | 0x2B => fixed 0 b .readWeighbridge
  | 0x2C => fixed 0 b .readEvents
  | 0x2D => fixed 0 b .runAudit
  | 0x2E => fixed 0 b .restart
  | _ => .unknownKind

/-! ### Request and reply frames (R155) -/

/-- R157: the bytes that the CHECK of a request covers. -/
def Frame.covered (f : Frame) : List Byte := f.len :: f.kind :: f.seq :: f.flags :: f.body

/-- R155: the FLAGS byte of a header. -/
def Header.flags (h : Header) : Byte := if h.check then 1#8 else 0#8

/-- R155: a frame with its CHECK, when bit 0 of FLAGS is set. -/
def frameWith (h : Header) (kind : Byte) (body : List Byte) : Frame :=
  let f : Frame :=
    { len := byte body.length, kind := kind, seq := h.seq, flags := Header.flags h, body := body,
      check := none }
  { f with check := if h.check then some (crc f.covered) else none }

/-- R155, R176: the frame of a request. -/
def frameOf (h : Header) (r : Request) : Frame := frameWith h (byte (requestKind r)) (requestBody r)

/-- R155: the bytes of a request frame after its lead byte. -/
def Frame.rest (f : Frame) : List Byte := f.covered ++ f.check.toList

/-- R156: whether the bytes collected after the lead byte make a whole frame: 4 + LEN bytes, and one
more when bit 0 of FLAGS is set. -/
def frameWhole : List Byte → Bool
  | len :: _ :: _ :: flags :: more =>
    decide (more.length = len.toNat + if flags.getLsbD 0 then 1 else 0)
  | _ => false

/-- R155: the frame in the bytes collected after the lead byte. -/
def frameIn : List Byte → Option Frame
  | len :: kind :: seq :: flags :: more =>
    some { len := len, kind := kind, seq := seq, flags := flags, body := more.take len.toNat,
           check := (more.drop len.toNat).head? }
  | _ => none

/-- R155: the bytes that the CHECK of a reply covers. -/
def Reply.covered (r : Reply) : List Byte :=
  byte r.body.length :: r.kind :: r.seq :: byte r.result.code :: r.body

/-- R155: the bytes of a reply frame. -/
def Reply.bytes (r : Reply) : List Byte :=
  0xC3#8 :: r.covered ++ if r.check then [crc r.covered] else []

/-! ### Loader link frames (R178, R179) -/

/-- R178: the TYPE of a message. -/
def LinkMessage.type : LinkMessage → Byte
  | .poll => 0x01#8
  | .move .. => 0x02#8
  | .withdraw _ => 0x03#8
  | .clearAll => 0x04#8
  | .reject _ => 0x05#8

/-- R178: the body of a message. -/
def LinkMessage.body : LinkMessage → List Byte
  | .poll => []
  | .move n k tag src dst =>
    twoBytes n ++ [byte k.code] ++ threeBytes tag ++ src.bytes n ++ dst.bytes n
  | .withdraw n => twoBytes n
  | .clearAll => []
  | .reject n => twoBytes n

/-- R178: a loader link frame: lead byte, address, TYPE, LEN, body and CHECK. -/
def linkFrame (address type : Byte) (body : List Byte) : List Byte :=
  0xA5#8 :: (address :: type :: byte body.length :: body)
    ++ [crc (address :: type :: byte body.length :: body)]

/-- R178: the frame of a message to a terminal. -/
def LinkMessage.frame (terminal : Nat) (m : LinkMessage) : List Byte :=
  linkFrame (byte terminal) m.type m.body

/-- R178: the TYPE of an answer. -/
def Answer.type : Answer → Nat
  | .idle => 0x10
  | .accept _ => 0x11
  | .lifted _ => 0x12
  | .done .. => 0x13
  | .fault .. => 0x14
  | .text _ => 0x15
  | .withdrawn _ => 0x16
  | .tooLate _ => 0x17

/-- R178: the flags of a DONE: bit 0 tag present, bit 1 moisture present. -/
def doneFlags (tag moisture : Option Nat) : Nat :=
  (if tag.isSome then 1 else 0) + if moisture.isSome then 2 else 0

/-- R178: the body of an answer. -/
def Answer.body : Answer → List Byte
  | .idle => []
  | .accept n => twoBytes n
  | .lifted n => twoBytes n
  | .done n tag moisture =>
    twoBytes n ++ [byte (doneFlags tag moisture)] ++ threeBytes (tag.getD 0) ++ [byte (moisture.getD 0)]
  | .fault n r => twoBytes n ++ [byte r.code]
  | .text chars => byte chars.length :: chars
  | .withdrawn n => twoBytes n
  | .tooLate n => twoBytes n

/-- R178: the frame of an answer of a terminal: bit 7 of the address is set. -/
def Answer.frame (terminal : Nat) (a : Answer) : List Byte :=
  linkFrame (byte (terminal + 128)) (byte a.type) a.body

/-- R179: a move number is 1 to 65,535. -/
def moveInRange (n : Nat) : Bool := within 1 65535 n

/-- R179: a character of a TEXT lies in 0x20 to 0x7E. -/
def textChar (c : Byte) : Bool := within 0x20 0x7E c.toNat

/-- R179: an answer is in range, so that its frame is well formed. -/
def Answer.wf : Answer → Bool
  | .idle => true
  | .accept n => moveInRange n
  | .lifted n => moveInRange n
  | .done n tag moisture =>
    moveInRange n && tag.all tagOk && moisture.all fun m => decide (m ≤ 255)
  | .fault n _ => moveInRange n
  | .text chars => within 1 32 chars.length && chars.all textChar
  | .withdrawn n => moveInRange n
  | .tooLate n => moveInRange n
where
  /-- R174: a tag is 1 to 16,777,215. -/
  tagOk (t : Nat) : Bool := within 1 16777215 t

/-- The value of an optional field whose presence is a flag. -/
def present (flag : Bool) (n : Nat) : Option Nat := if flag then some n else none

/-- R178: the answer a TYPE and a body of the right length spell, before the tests of its fields. -/
def answerOf (type : Nat) (b : List Byte) : Option Answer :=
  match type, b.length with
  | 0x10, 0 => some .idle
  | 0x11, 2 => some (.accept (num b 0 2))
  | 0x12, 2 => some (.lifted (num b 0 2))
  | 0x13, 7 =>
    if num b 2 1 ≤ 3 then
      some (.done (num b 0 2) (present (num b 2 1 % 2 = 1) (num b 3 3))
        (present (num b 2 1 / 2 = 1) (num b 6 1)))
    else none
  | 0x14, 3 => (FaultReason.ofCode? (num b 2 1)).map fun r => .fault (num b 0 2) r
  | 0x15, n + 1 => if num b 0 1 = n then some (.text (b.drop 1)) else none
  | 0x16, 2 => some (.withdrawn (num b 0 2))
  | 0x17, 2 => some (.tooLate (num b 0 2))
  | _, _ => none

/-- R179: the answer in a frame from the terminal addressed; none where it is garbled. -/
def decodeAnswer (terminal : Nat) (bytes : List Byte) : Option Answer :=
  match bytes with
  | lead :: address :: type :: len :: more =>
    let body := more.take len.toNat
    if lead = 0xA5#8 ∧ address = byte (terminal + 128)
        ∧ more.drop len.toNat = [crc (address :: type :: len :: body)] then
      match answerOf type.toNat body with
      | some a => if a.wf then some a else none
      | none => none
    else none
  | _ => none

/-- R179: the answer in the characters heard from the terminal addressed; none where a stop bit is wrong
or their bytes are garbled. -/
def hearAnswer (terminal : Nat) (heard : List LinkChar) : Option Answer :=
  if heard.all LinkChar.stop then decodeAnswer terminal (heard.map LinkChar.data) else none

end Sys2Proof.Machine
end

