-- ==== Sys2Proof/Machine/Weather.lean ====
section
/-! DEFINITION. The weather unit, HALT and the expiry of the clock's deadlines (chapters 3, 5, 8 and R147, R169). -/

namespace Sys2Proof.Machine

/-! ### Helpers over the whole part -/

/-- A step of the part that works on the yard, under the part's settings and clock. -/
def Part.onYard (p : Part) (f : Env → Yard → Yard) : Part := { p with yard := f p.env p.yard }

/-- An act of the yard taken whole: its first effect, then all that follows from it. -/
def Part.doAct (p : Part) (f : Env → Act → Act) : Part :=
  p.onYard fun e y => (f e y.act).finish e

/-- Every zone queue is served (R116, R120). -/
def Part.serve (p : Part) : Part := p.onYard Yard.serveAll

/-- Every job is judged afresh, and every zone queue is served (R114, R116). -/
def Part.judgeAndServe (p : Part) : Part := p.onYard fun e y => (y.judgeAll e).serveAll e

/-! ### Rain (R47 to R50) -/

/-- R49: the gain of a footprint in one rain step, truncated. -/
def rainGain (footprint depth retention : Nat) : Nat := footprint * depth * retention / 100

/-- R49: surface water after a gain, held at the cap. -/
def gainWater (capKg water gain : Nat) : Nat := min (water + gain) (capKg * 1000)

/-- R49: a pack at a rain step: an exposed pack gains, any other is unchanged. -/
def Yard.rainOn (s : Settings) (y : Yard) (tag : Nat) (p : Pack) : Pack :=
  if y.exposed s tag p then
    let gain := rainGain p.footprint s.weather.depth s.weather.retention
    { p with water := gainWater s.weather.capKg p.water gain }
  else p

/-- R49: the exposed packs gain surface water. -/
def Yard.rain (s : Settings) (y : Yard) : Yard :=
  { y with packs := y.packs.mapVal fun tag p => y.rainOn s tag p }

/-- R48, R49: a rain step: the exposed packs gain, and the drying deadline is set afresh. -/
def Part.rainStep (p : Part) : Part :=
  { p with
    yard := p.yard.rain p.settings
    weather := { p.weather with deadline := dryingFrom p.settings.weather p.clock } }

/-- R47: the level that an edge of the selected kind leads to: high for RISING. -/
def RainEdge.target : RainEdge → Bool
  | .rising => true
  | .falling => false

/-- R47: an edge of the selected kind can come: the level followed is not its target already. -/
def Part.pulseComes (p : Part) : Bool :=
  p.running && p.weather.rainLevel != p.settings.weather.edge.target

/-- R47, R48: a rain pulse: the level follows, the prescale count rises by 1, and where it reaches the
prescale it becomes 0 and the pulse is a rain step. -/
def Part.rainPulse (p : Part) : Part :=
  let level := p.settings.weather.edge.target
  if p.settings.weather.prescale ≤ p.weather.prescaleCount + 1 then
    ({ p with weather := { p.weather with rainLevel := level, prescaleCount := 0 } }).rainStep
  else
    { p with weather :=
      { p.weather with rainLevel := level, prescaleCount := p.weather.prescaleCount + 1 } }

/-- R47: an edge of the other kind: the level follows and nothing is counted. -/
def Part.rainOtherEdge (p : Part) : Part :=
  { p with weather := { p.weather with rainLevel := !p.settings.weather.edge.target } }

/-! ### Drying (R52, R53) and the cap (R54) -/

/-- R53: surface water after a drying expiry. -/
def dryWater (percent water : Nat) : Nat :=
  if water = 0 then 0 else water - max 1 (water * percent / 100)

/-- R53: every pack that stands in a stack dries. -/
def Yard.dry (s : Settings) (y : Yard) : Yard :=
  { y with packs := y.packs.mapVal fun _ p =>
    if p.standing then { p with water := dryWater s.weather.percent p.water } else p }

/-- R53: a drying expiry, taken whole. -/
def Part.dryingExpiry (p : Part) : Part :=
  { p with
    yard := p.yard.dry p.settings
    weather := { p.weather with deadline := dryingFrom p.settings.weather p.clock } }

/-- R54: every pack's surface water is clamped to a cap. -/
def Yard.clampWater (capKg : Nat) (y : Yard) : Yard :=
  { y with packs := y.packs.mapVal fun _ p => { p with water := min p.water (capKg * 1000) } }

/-- R46: the effects of new weather settings, judged against those they replace: the prescale count,
the cap clamp, and the drying deadline. -/
def Part.setWeather (p : Part) (w : WeatherSettings) : Part :=
  let old := p.settings.weather
  { p with
    settings := { p.settings with weather := w }
    weather :=
      { p.weather with
        prescaleCount :=
          if w.edge = old.edge ∧ w.prescale = old.prescale then p.weather.prescaleCount else 0
        deadline := if w.interval = old.interval then p.weather.deadline else dryingFrom w p.clock }
    yard := if w.capKg < old.capKg then p.yard.clampWater w.capKg else p.yard }

/-! ### Expiries (R52, R74, R86, R147) -/

/-- R147: the expiry of the armed weighing: the record is dropped and WEIGH_FAIL is set. -/
def Part.weighExpiry (p : Part) : Part :=
  ({ p with weigh := { p.weigh with arming := none } }).raise .weighFail

/-- R74: the first SHORT_WAIT truck whose stock-wait deadline has expired. -/
def Yard.expiredWait (now : Nat) (y : Yard) : Option Nat :=
  (y.waitingTrucks.find? fun en => due now en.2.deadline).map fun en => en.2.number

/-- R86: a truck's stock wait expires: it is placed with the packs it has, taken whole. -/
def Part.stockExpiry (p : Part) (number : Nat) : Part :=
  p.doAct fun e a => a.endStockWait e number

/-- R74: the expired stock waits are taken one at a time, each whole, in order of granted at. -/
def Part.stockExpiries : Nat → Part → Part
  | 0, p => p
  | fuel + 1, p =>
    match p.yard.expiredWait p.clock with
    | some n => Part.stockExpiries fuel (p.stockExpiry n)
    | none => p

/-- R169: the deadlines that the clock has reached or passed expire once: drying, then weighing, then
the stock waits (DESIGN CHOICE, log entry 10). -/
def Part.expireAll (p : Part) : Part :=
  let p := if due p.clock p.weather.deadline then p.dryingExpiry else p
  let p := if due p.clock (p.weigh.arming.map Arming.deadline) then p.weighExpiry else p
  p.stockExpiries Config.maxTrucks

/-- R169: the clock rises by 1, and after 4,294,967,295 becomes 0. -/
def tick (clock : Nat) : Nat := if clock < Config.clockTop then clock + 1 else 0

/-! ### HALT (R140) -/

/-- R140: HALT becomes asserted: HALT_ON is set. -/
def Part.haltOn (p : Part) : Part := ({ p with halt := true }).raise .haltOn

/-- R140, R120: HALT becomes released: HALT_OFF is set and every zone queue is served. -/
def Part.haltOff (p : Part) : Part := (({ p with halt := false }).raise .haltOff).serve

end Sys2Proof.Machine
end

