-- ==== Sys2Proof/Machine/Settings.lean ====
section
/-! DEFINITION. The settings, clock and identity requests, and the ends of a store and of a recall (chapters 1, 3, 5, 8, 9, 10, 11). -/

namespace Sys2Proof.Machine

/-- The outcome of a request refused with a result: nothing changes (R159). -/
def Part.refuse (p : Part) (r : Result) : Part × Response := (p, .refuse r)

/-- R166: a store or a recall is in flight. -/
def Part.storeBusy (p : Part) : Bool := !decide (p.flight = .nothing)

/-! ### The SET requests -/

/-- R12: the window a SET WINDOW request gives, where every value is in its range. -/
def windowOf? (a : WindowArgs) : Option Window :=
  match flagOf? a.enable, WindowKind.ofCode? a.kind with
  | some on, some k =>
    if a.window ≤ 7 ∧ a.base ≤ 255 ∧ a.mask ≤ 255 ∧ within 1 6 a.limit then
      some { enable := on, kind := k, base := byte a.base, mask := byte a.mask, limit := a.limit }
    else none
  | _, _ => none

/-- R12: one window of the working settings is written. -/
def Settings.putWindow (s : Settings) (i : Nat) (w : Window) : Settings :=
  { s with windows := s.windows.setIfInBounds i w }

/-- R12: SET WINDOW. -/
def Part.setWindow (p : Part) (a : WindowArgs) : Part × Response :=
  match windowOf? a with
  | none => p.refuse .badValue
  | some w =>
    if p.storeBusy then p.refuse .busy
    else (({ p with settings := p.settings.putWindow a.window w }).serve, .ok [])

/-- R16: the zoning a SET ZONING request gives, where every value is in its range. -/
def zonesOf? (a : ZoningArgs) : Option (ZoningMode × Vector Nat 6) :=
  let zones : Vector Nat 6 := #v[a.lane0, a.lane1, a.lane2, a.lane3, a.lane4, a.lane5]
  match ZoningMode.ofCode? a.mode with
  | some m => if zones.toList.all fun z => decide (z ≤ 3) then some (m, zones) else none
  | none => none

/-- R16: SET ZONING. -/
def Part.setZoning (p : Part) (a : ZoningArgs) : Part × Response :=
  match zonesOf? a with
  | none => p.refuse .badValue
  | some (m, zones) =>
    if p.storeBusy ∨ p.yard.jobs.size ≠ 0 then p.refuse .busy
    else ({ p with settings := { p.settings with zoning := m, laneZones := zones } }, .ok [])

/-- R42, R174: a trim of 0 means KEEP. -/
def keepTrim (trim : Nat) : Bool := trim == 0

/-- R42: SET SPECIES. -/
def Part.setSpecies (p : Part) (species density trim : Nat) : Part × Response :=
  if ¬ (species ≤ 7 ∧ densityInRange density ∧ (keepTrim trim ∨ trimInRange trim)) then
    p.refuse .badValue
  else if p.storeBusy then p.refuse .busy
  else
    ({ p with
      settings :=
        { p.settings with densities := p.settings.densities.setIfInBounds species density }
      trims := if keepTrim trim then p.trims else p.trims.setIfInBounds species trim }, .ok [])

/-- R46: the weather settings a SET WEATHER request gives, where every value is in its range. -/
def weatherOf? (a : WeatherArgs) : Option WeatherSettings :=
  match RainEdge.ofCode? a.edge with
  | some edge =>
    let w : WeatherSettings :=
      { edge := edge, prescale := a.prescale, depth := a.depth, retention := a.retention,
        capKg := a.capKg, interval := a.interval, percent := a.percent }
    if w.inRange then some w else none
  | none => none

/-- R46: SET WEATHER. -/
def Part.setWeatherRequest (p : Part) (a : WeatherArgs) : Part × Response :=
  match weatherOf? a with
  | none => p.refuse .badValue
  | some w => if p.storeBusy then p.refuse .busy else (p.setWeather w, .ok [])

/-- R75: the planning settings a SET PLANNING request gives, where every value is in its range. -/
def planningOf? (a : PlanningArgs) : Option PlanningSettings :=
  match flagOf? a.posted with
  | some posted =>
    let s : PlanningSettings :=
      { digLimit := a.digLimit, stockWait := a.stockWait, ageing := a.ageing,
        headroom := a.headroom, posted := posted }
    if s.inRange then some s else none
  | none => none

/-- R75: at least one truck is LOADING or PAUSED. -/
def Yard.someLoading (y : Yard) : Bool :=
  y.trucks.anyVal fun _ t => decide (t.state = .loading) || decide (t.state = .paused)

/-- R75, R114: new planning settings; a change of the posted mode judges every job afresh. -/
def Part.setPlanningTo (p : Part) (s : PlanningSettings) : Part :=
  let p' := { p with settings := { p.settings with planning := s } }
  if s.posted = p.settings.planning.posted then p' else p'.judgeAndServe

/-- R75: SET PLANNING. -/
def Part.setPlanning (p : Part) (a : PlanningArgs) : Part × Response :=
  match planningOf? a with
  | none => p.refuse .badValue
  | some s =>
    if p.storeBusy ∨ (s.headroom ≠ p.settings.planning.headroom ∧ p.yard.someLoading) then
      p.refuse .busy
    else (p.setPlanningTo s, .ok [])

/-- R125: SET LOADER LINK. -/
def Part.setLoaderLink (p : Part) (timeout retry probe : Nat) : Part × Response :=
  let l : LinkSettings := { timeoutMs := timeout, retryLimit := retry, probeInterval := probe }
  if ¬ l.inRange then p.refuse .badValue
  else if p.storeBusy then p.refuse .busy
  else ({ p with settings := { p.settings with link := l } }, .ok [])

/-- R145: the weighing settings a SET WEIGHING request gives, where every value is in its range. -/
def weighingOf? (a : WeighingArgs) : Option WeighSettings :=
  match Parity.ofCode? a.parity with
  | some parity =>
    let w : WeighSettings :=
      { parity := parity, endChar := a.endChar, offset1 := a.offset1, offset2 := a.offset2,
        timeout := a.timeout }
    if w.inRange then some w else none
  | none => none

/-- R145: new weighing settings; a change of the parity or the end character drops a record being
collected. -/
def Part.setWeighingTo (p : Part) (w : WeighSettings) : Part :=
  let old := p.settings.weighing
  { p with
    settings := { p.settings with weighing := w }
    weigh :=
      if w.parity = old.parity ∧ w.endChar = old.endChar then p.weigh
      else { p.weigh with receiver := .hunting } }

/-- R145: SET WEIGHING. -/
def Part.setWeighing (p : Part) (a : WeighingArgs) : Part × Response :=
  match weighingOf? a with
  | none => p.refuse .badValue
  | some w =>
    if p.weigh.arming.isSome ∨ p.storeBusy then p.refuse .busy else (p.setWeighingTo w, .ok [])

/-- R165: SET EVENT MASK. -/
def Part.setEventMask (p : Part) (mask : Nat) : Part × Response :=
  if 2 ^ 24 ≤ mask then p.refuse .badValue
  else if p.storeBusy then p.refuse .busy
  else ({ p with settings := { p.settings with mask := BitVec.ofNat 24 mask } }, .ok [])

/-! ### The store (R166, R167) -/

/-- R166: a STORE SETTINGS or RECALL SETTINGS is refused BUSY. -/
def Part.storeRefused (p : Part) : Bool :=
  decide (p.yard.loader.moves.size ≠ 0) || p.weigh.arming.isSome || p.storeBusy

/-- R166: STORE SETTINGS: the snapshot is taken and the first write clears the completion mark. -/
def Part.storeSettings (p : Part) : Part × Response :=
  if p.storeRefused then p.refuse .busy
  else
    ({ p with flight := .store p.settings p.trims, store := { p.store with complete := false } },
      .ok [])

/-- R166: the end of a store. The settings, trims and check word are written; where the read-back
agrees the completion mark is set, and otherwise it is cleared. Every zone queue is served. -/
def Part.storeEnds (p : Part) (agrees : Bool) : Part :=
  match p.flight with
  | .store s t =>
    (({ p with
      flight := .nothing
      store :=
        { settings := s, trims := t, checkWord := checkWordOf s t, complete := agrees } }).raise
      (if agrees then .storeDone else .storeFail)).serve
  | _ => p

/-- R167: the zoning and the lane table are kept while the job list holds a job (R17). -/
def Part.keepsZoning (p : Part) : Bool := decide (p.yard.jobs.size ≠ 0)

/-- R167: the headroom is kept while a truck is LOADING or PAUSED (R75). -/
def Part.keepsHeadroom (p : Part) : Bool := p.yard.someLoading

/-- R177: the kept bits of RECALL SETTINGS' reply. -/
def Part.keptBits (p : Part) : Byte :=
  byte ((if p.keepsZoning then 1 else 0) + (if p.keepsHeadroom then 2 else 0))

/-- R167: the planning settings a recall brings. -/
def Part.recalledPlanning (p : Part) : PlanningSettings :=
  if p.keepsHeadroom then
    { p.store.settings.planning with headroom := p.settings.planning.headroom }
  else p.store.settings.planning

/-- R167: the settings a recall copies that have no effect beyond their values. -/
def Part.recallPlain (p : Part) : Part :=
  let st := p.store.settings
  { p with
    settings :=
      { p.settings with
        windows := st.windows
        zoning := if p.keepsZoning then p.settings.zoning else st.zoning
        laneZones := if p.keepsZoning then p.settings.laneZones else st.laneZones
        densities := st.densities
        link := st.link
        mask := st.mask }
    trims := p.store.trims }

/-- R167: the copy of a recall, with the effects of the SET requests that give the copied values.
The jobs are judged afresh when the posted mode changes; the recall is in flight by then, so the
queues are served at its end only. -/
def Part.recallCopy (p : Part) : Part :=
  let planning := p.recalledPlanning
  (((({ p with flight := .recall }).recallPlain).setWeather p.store.settings.weather).setWeighingTo
    p.store.settings.weighing).setPlanningTo planning

/-- R167: RECALL SETTINGS. -/
def Part.recallSettings (p : Part) : Part × Response :=
  if p.storeRefused then p.refuse .busy
  else if ¬ p.store.good then p.refuse .wrongState
  else (p.recallCopy, .awaitRecall p.keptBits)

/-! ### Reads, clock and identity (R168, R169) -/

/-- R168: READ SETTINGS. -/
def Part.readSettings (p : Part) : Part × Response := (p, .ok p.settingsBody)

/-- R168: IDENTIFY. -/
def Part.identify (p : Part) : Part × Response := (p, .ok p.identityBody)

/-- R169: READ CLOCK. -/
def Part.readClock (p : Part) : Part × Response := (p, .ok (timeBytes p.clock))

/-- R169: SET CLOCK: the clock takes the value at once, and a deadline it reaches or passes expires. -/
def Part.setClock (p : Part) (clock : Nat) : Part × Response :=
  if Config.clockTop < clock then p.refuse .badValue
  else
    (({ p with clock := clock }).expireAll, .ok (timeBytes p.clock ++ timeBytes clock))

end Sys2Proof.Machine
end

