-- ==== Sys2Proof/Machine/Packs.lean ====
section
/-! DEFINITION. The pack requests of chapter 2: register, remove, hold, release, locate, read. -/

namespace Sys2Proof.Machine

/-- R175: a pack tag of 0, or one above 16,777,215, is refused BAD_VALUE. -/
def tagInRange (tag : Nat) : Bool := within 1 16777215 tag

/-! ### Register (R24, R25) -/

/-- R24: the value checks of REGISTER PACK. -/
def packInRange (a : PackArgs) : Bool :=
  tagInRange a.tag && decide (a.bay ≤ 255) && decide (a.grade ≤ 15) && decide (a.sectionCode ≤ 63)
    && decide (a.lengthClass ≤ 15) && decide (a.species ≤ 7) && within 100 9999 a.volume
    && within 6 80 a.moisture && within 20 999 a.footprint

/-- R25: the record a registered pack begins with; its place is set as it joins the bay. -/
def newPack (a : PackArgs) (clock : Nat) : Pack where
  grade := a.grade
  sectionCode := a.sectionCode
  lengthClass := a.lengthClass
  species := a.species
  volume := a.volume
  moisture := a.moisture
  measured := false
  footprint := a.footprint
  registeredAt := clock
  water := 0
  state := .free
  place := .nowhere
  prior := none
  assignment := none
  job := none
  loadedMass := none

/-- A pack record enters the table. -/
def Yard.addPack (y : Yard) (tag : Nat) (p : Pack) : Yard := { y with packs := y.packs.put tag p }

/-- A pack record leaves the table. -/
def Yard.dropPack (y : Yard) (tag : Nat) : Yard := { y with packs := y.packs.drop tag }

/-- R25: a pack is registered on top of a bay, as a freed pack. -/
def Act.registerPack (e : Env) (a : Act) (args : PackArgs) : Act :=
  ((a.on fun y => y.addPack args.tag (newPack args e.clock)).join args.bay args.tag).offerLater
    args.tag

/-- R24, R25: REGISTER PACK. -/
def Part.registerPack (p : Part) (a : PackArgs) : Part × Response :=
  if ¬ packInRange a then p.refuse .badValue
  else if (p.yard.pack? a.tag).isSome then p.refuse .duplicate
  else if Config.maxPacks ≤ p.yard.packs.size then p.refuse .tableFull
  else if p.yard.room p.settings a.bay = 0 then p.refuse .noRoom
  else (p.doAct fun e act => act.registerPack e a, .ok [byte (p.yard.height a.bay + 1)])

/-! ### Hold and release (R26 to R28) -/

/-- R26: HOLD PACK of a FREE pack: it becomes HELD, and nothing else changes. -/
def Part.holdFree (p : Part) (tag : Nat) : Part :=
  { p with yard := p.yard.modifyPack tag fun k => { k with state := .held } }

/-- R27: HOLD PACK of a RESERVED pack: its assignment is released, and it becomes HELD. -/
def Act.holdReserved (e : Env) (a : Act) (tag : Nat) : Act :=
  a.releaseAssignment e tag fun a => a.setPackState tag .held

/-- R26, R27: HOLD PACK. -/
def Part.holdPack (p : Part) (tag : Nat) : Part × Response :=
  if ¬ tagInRange tag then p.refuse .badValue
  else match p.yard.pack? tag with
    | none => p.refuse .notFound
    | some k =>
      match k.state with
      | .free => (p.holdFree tag, .ok [])
      | .held => (p, .ok [])
      | .reserved => (p.doAct fun e a => a.holdReserved e tag, .ok [])
      | .moving => p.refuse .inMotion
      | .onTruck => p.refuse .wrongState
      | .doubt => p.refuse .wrongState

/-- R28: a HELD pack becomes FREE, a freed pack. -/
def Act.releasePack (a : Act) (tag : Nat) : Act := (a.setPackState tag .free).offerLater tag

/-- R28: RELEASE PACK. -/
def Part.releasePack (p : Part) (tag : Nat) : Part × Response :=
  if ¬ tagInRange tag then p.refuse .badValue
  else match p.yard.pack? tag with
    | none => p.refuse .notFound
    | some k =>
      match k.state with
      | .free => (p, .ok [])
      | .held => (p.doAct fun _ a => a.releasePack tag, .ok [])
      | .reserved => p.refuse .wrongState
      | .moving => p.refuse .inMotion
      | .onTruck => p.refuse .wrongState
      | .doubt => p.refuse .wrongState

/-! ### What removal and GONE share (R30, R35) -/

/-- R30, R35: the assignment of a pack is released, unless its truck is UNLOADING. -/
def Act.releaseUnlessUnloading (e : Env) (a : Act) (tag : Nat) : Act :=
  match (a.yard.pack? tag).bind Pack.assignment with
  | none => a
  | some asg =>
    if a.yard.truckState? asg.truck = some .unloading then a
    else a.releaseAssignment e tag fun a => a

/-- R30, R35: the job of a pack is deleted, if it still has one. -/
def Act.endJobOf (a : Act) (tag : Nat) : Act :=
  match a.yard.jobOfPack? tag with
  | some (n, _) => a.endJob n
  | none => a

/-- R30 steps 2 and 3, R35: a pack is given up: a SUSPENDED OFFLOAD job ends its offload; otherwise the
assignment is released and a SUSPENDED LOAD or CLEAR job is deleted. -/
def Act.giveUp (e : Env) (a : Act) (tag : Nat) : Act :=
  match a.yard.jobOfPack? tag with
  | some (n, { work := .offload number _, .. }) => a.endOffload n number tag
  | _ => (a.releaseUnlessUnloading e tag).endJobOf tag

/-! ### Remove (R29, R30) -/

/-- R29: a FREE or HELD pack with no job, and a DOUBT pack, can be removed. -/
def Yard.removal (y : Yard) (tag : Nat) (k : Pack) : Result :=
  match k.state with
  | .moving => .inMotion
  | .reserved => .wrongState
  | .onTruck => .wrongState
  | _ =>
    match y.jobOfPack? tag with
    | some (_, j) => if j.state = .suspended then .ok else .wrongState
    | none => .ok

/-- R30: the removal: the pack leaves its stack, its SUSPENDED job is deleted, its assignment is
released, and its record leaves the table. -/
def Act.removePack (e : Env) (a : Act) (tag : Nat) : Act :=
  ((a.leave tag).giveUp e tag).on fun y => y.dropPack tag

/-- R29, R30: REMOVE PACK; the reply carries the state and place before the removal. -/
def Part.removePack (p : Part) (tag : Nat) : Part × Response :=
  if ¬ tagInRange tag then p.refuse .badValue
  else match p.yard.pack? tag with
    | none => p.refuse .notFound
    | some k =>
      match p.yard.removal tag k with
      | .ok => (p.doAct fun e a => a.removePack e tag, .ok (byte k.state.code :: k.place.bytes))
      | r => p.refuse r

/-! ### Locate (R32 to R35) -/

/-- R33: a pack found standing on top of a bay. -/
def Act.locateInBay (a : Act) (tag b : Nat) : Act :=
  let a := a.join b tag
  match a.yard.jobOfPack? tag with
  | some (n, j) =>
    match j.work with
    | .load .. => (a.setPackState tag .reserved).jobWaits n
    | .clear _ => ((a.setPackState tag .free).endJob n).offerLater tag
    | .offload number _ => ((a.setPackState tag .free).endOffload n number tag).offerLater tag
  | none =>
    if ((a.yard.pack? tag).bind Pack.assignment).isSome then a.setPackState tag .reserved
    else (a.setPackState tag .free).offerLater tag

/-- R34: a DOUBT pack with a SUSPENDED LOAD job can be located on its bed. -/
def Yard.loadLocatable (y : Yard) (number : Nat) (target : BedRef) : Bool :=
  match y.truck? number with
  | some t => (decide (t.state = .loading) || decide (t.state = .paused)) && t.tierOpen target
  | none => false

/-- R34: a DOUBT pack with a SUSPENDED OFFLOAD job can be set back at its position. -/
def Yard.offloadLocatable (y : Yard) (number : Nat) (source : BedRef) : Bool :=
  match y.truck? number with
  | some t =>
    (decide (t.state = .over) || decide (t.state = .unloading))
      && (t.pos source).plan.isNone && !(t.pos source).loaded && t.tierOpen source
  | none => false

/-- R34: a pack with a SUSPENDED LOAD job is found on its bed, as at the DONE of its TO_TRUCK move. -/
def Act.locateLoad (e : Env) (a : Act) (tag n number : Nat) (target : BedRef) : Act :=
  (a.setOnBed number target tag (a.yard.estimateOf e tag)).endLoad n number target tag

/-- R34: a pack with a SUSPENDED OFFLOAD job is found on its bed: it is set back at the source position
with its loaded mass, and the job returns to WAITING. -/
def Act.locateOffload (a : Act) (tag n number : Nat) (source : BedRef) : Act :=
  let mass := ((a.yard.pack? tag).bind Pack.loadedMass).getD 0
  ((a.setOnBed number source tag mass).on fun y =>
    y.modifyTruck number fun t =>
      t.modifyPos source fun _ => { plan := some (t.vacancyPlan source tag mass), loaded := true }).jobWaits n

/-- R32 to R35: LOCATE PACK of a DOUBT pack, by its finding (0 IN BAY, 1 ON BED, 2 GONE). -/
def Part.locateDoubt (p : Part) (tag finding bay : Nat) : Part × Response :=
  if finding = 0 then
    if p.yard.room p.settings bay = 0 then p.refuse .noRoom
    else (p.doAct fun _ a => a.locateInBay tag bay, .ok [])
  else if finding = 1 then
    match p.yard.jobOfPack? tag with
    | some (n, { work := .load number target, .. }) =>
      if p.yard.loadLocatable number target then
        (p.doAct fun e a => a.locateLoad e tag n number target, .ok [])
      else p.refuse .wrongState
    | some (n, { work := .offload number source, .. }) =>
      if p.yard.offloadLocatable number source then
        (p.doAct fun _ a => a.locateOffload tag n number source, .ok [])
      else p.refuse .wrongState
    | _ => p.refuse .wrongState
  else (p.doAct fun e a => a.giveUp e tag, .ok [])

/-- R32: LOCATE PACK. -/
def Part.locatePack (p : Part) (tag finding bay : Nat) : Part × Response :=
  if ¬ (tagInRange tag ∧ finding ≤ 2 ∧ (finding = 0 → bay ≤ 255)) then p.refuse .badValue
  else match p.yard.pack? tag with
    | none => p.refuse .notFound
    | some k => if k.state = .doubt then p.locateDoubt tag finding bay else p.refuse .wrongState

/-! ### Reads (R36, R37) -/

/-- R36: READ PACK. -/
def Part.readPack (p : Part) (tag : Nat) : Part × Response :=
  if ¬ tagInRange tag then p.refuse .badValue
  else match p.yard.pack? tag with
    | none => p.refuse .notFound
    | some k => (p, .ok (p.yard.packBody p.env tag k))

/-- R37: READ BAY. -/
def Part.readBay (p : Part) (b : Nat) : Part × Response :=
  if 255 < b then p.refuse .badValue else (p, .ok (p.yard.bayBody p.settings b))

end Sys2Proof.Machine
end

