-- ==== Sys2Proof/Machine/Trucks.lean ====
section
/-! DEFINITION. The truck and lane requests of chapter 4: announce, cancel, pause, resume, depart, read, open and close a lane. -/

namespace Sys2Proof.Machine

/-- R175: a truck number of 0 is refused BAD_VALUE; a number has two bytes. -/
def truckInRange (number : Nat) : Bool := within 1 65535 number

/-! ### Announce (R60) -/

/-- R60: the slot positions rise strictly and none is above W. -/
def positionsRise (wheelbase : Nat) : List Nat → Bool
  | [] => true
  | [x] => decide (x ≤ wheelbase)
  | x :: y :: rest => decide (x ≤ wheelbase) && decide (x < y) && positionsRise wheelbase (y :: rest)

/-- R60: the value checks of one order line; species 255 is ANY (R174). -/
def lineInRange (l : LineArgs) : Bool :=
  decide (l.grade ≤ 15) && decide (l.sectionCode ≤ 63) && decide (l.lengthClass ≤ 15)
    && (decide (l.species ≤ 7) || l.species == 255) && within 1 12 l.wanted

/-- R60: the value checks of ANNOUNCE TRUCK. -/
def announceInRange (a : TruckArgs) : Bool :=
  truckInRange a.number && decide (a.cls ≤ 3) && (ShortMode.ofCode? a.shortMode).isSome
    && within 1000 40000 a.frontLimit && within 1000 40000 a.rearLimit
    && within 2000 80000 a.grossLimit && within 200 1500 a.wheelbase
    && within 1 8 a.slots.length && positionsRise a.wheelbase a.slots
    && within 1 6 a.lines.length && a.lines.all lineInRange
    && decide ((a.lines.map LineArgs.wanted).sum ≤ 2 * a.slots.length)

/-- R58: a line as it is announced: nothing assigned, and every wanted pack stock short. -/
def newLine (l : LineArgs) : OrderLine where
  grade := l.grade
  sectionCode := l.sectionCode
  lengthClass := l.lengthClass
  species := if l.species = 255 then none else some l.species
  wanted := l.wanted
  assigned := []
  stockShort := l.wanted
  weightShort := 0

/-- R60: the record an announced truck begins with. -/
def newTruck (a : TruckArgs) (mode : ShortMode) (clock : Nat) : Truck where
  number := a.number
  announcedAt := clock
  cls := a.cls
  shortMode := mode
  frontLimit := a.frontLimit
  rearLimit := a.rearLimit
  grossLimit := a.grossLimit
  wheelbase := a.wheelbase
  slots := a.slots.map fun x => { x := x, one := BedPos.vacant, two := BedPos.vacant }
  tare := none
  lines := a.lines.map newLine
  lane := none
  grantedAt := none
  deadline := none
  state := .announced
  weighedOut := false
  measured := none

/-- A truck record enters the table at an index. -/
def Yard.addTruck (y : Yard) (index : Nat) (t : Truck) : Yard :=
  { y with trucks := y.trucks.put index t }

/-- R60: ANNOUNCE TRUCK. -/
def Part.announceTruck (p : Part) (a : TruckArgs) : Part × Response :=
  match ShortMode.ofCode? a.shortMode with
  | none => p.refuse .badValue
  | some mode =>
    if ¬ announceInRange a then p.refuse .badValue
    else if (p.yard.truck? a.number).isSome then p.refuse .duplicate
    else match p.yard.trucks.lowestFree Config.maxTrucks with
      | none => p.refuse .tableFull
      | some i =>
        ({ p with yard := p.yard.addTruck i (newTruck a mode p.clock) }, .ok [byte i])

/-! ### Cancel (R64, R65, R139) -/

/-- R64 step 1: a reserved pack of a cancelled truck becomes FREE, a freed pack. -/
def Act.freeReserved (a : Act) (tag : Nat) : Act :=
  ((a.on fun y => y.unassign tag).setPackState tag .free).offerLater tag

/-- R64: the cancel of a truck before loading: its packs are freed, its record leaves the table, the
freed packs are offered, and its lane is released. -/
def Act.cancelEarly (e : Env) (a : Act) (t : Truck) : Act :=
  let a := if t.state = .shortWait then t.assignedTags.foldl Act.freeReserved a else a
  let a := Act.offers e (a.on fun y => y.dropTruck t.number)
  match t.lane with
  | some l => a.on fun y => y.modifyLane l Lane.release
  | none => a

/-- R65 step 1: an assigned pack is released when it is neither ON_TRUCK nor MOVING and has no
OFFLOAD job. -/
def Yard.cancelReleases (y : Yard) (tag : Nat) : Bool :=
  (match y.pack? tag with
    | some k => !decide (k.state = .onTruck) && !decide (k.state = .moving)
    | none => false)
  && match y.jobOfPack? tag with
    | some (_, j) => !j.work.isOffload
    | none => true

/-- R65 step 1: the release of one pack: its job, assignment and planned position go, and a RESERVED
pack becomes FREE, a freed pack. -/
def Act.cancelPack (number : Nat) (a : Act) (tag : Nat) : Act :=
  if a.yard.cancelReleases tag then
    let a := (a.endJobOf tag).on fun y => (y.unassign tag).vacatePlanned number tag
    if (a.yard.pack? tag).map Pack.state = some .reserved then
      (a.setPackState tag .free).offerLater tag
    else a
  else a

/-- R65 step 2, R139: a withdraw is wanted for a LOAD job of the truck whose move is SENT or ACCEPTED:
an undelivered move ends at once as WITHDRAWN, a delivered one gets a WITHDRAW notice. -/
def Act.withdrawJob (number : Nat) (a : Act) (n : Nat) : Act :=
  match a.yard.job? n with
  | none => a
  | some j =>
    if j.work.isLoad ∧ j.work.truck? = some number ∧ (j.state = .sent ∨ j.state = .accepted) then
      match j.move with
      | none => a
      | some k =>
        match a.yard.move? k with
        | none => a
        | some m =>
          if m.delivered then a.on fun y => y.addWithdraw m.terminal k
          else (a.on fun y => y.dropMove k).unsend n j
    else a

/-- R65 step 4: every ON_TRUCK pack of the truck that has no job is given an OFFLOAD job. -/
def Act.offloadAll (a : Act) (number : Nat) : Act :=
  match a.yard.truck? number with
  | none => a
  | some t =>
    (a.yard.unloadingNeeds t).foldl (fun a c => a.createJob (.offload number c.1) c.2) a

/-- R65 step 1: the packs are released, and those it frees are offered before the steps that follow.
DESIGN CHOICE (log entry 38): all are released, then the clearance rule is applied at the bays touched and
the jobs are judged, and then the freed packs are offered one after another, in the order of the lines and
of their tags. -/
def Act.cancelStep1 (e : Env) (a : Act) (t : Truck) : Act :=
  (((t.assignedTags.foldl (Act.cancelPack t.number) a).clearDue).on (Yard.judgeAll e)).offers e

/-- R65: the cancel of a truck that loads or has loaded: it becomes UNLOADING, and the five steps are
done in order. A pack that step 2 frees, because its move was not delivered, is offered when the act
finishes (log entry 38). -/
def Act.cancelLate (e : Env) (a : Act) (t : Truck) : Act :=
  let a := a.on fun y => y.modifyTruck t.number fun t => { t with state := .unloading }
  let a := a.cancelStep1 e t
  let a := a.yard.jobs.keys.foldl (Act.withdrawJob t.number) a
  (a.offloadAll t.number).on fun y => y.testUnloaded t.number

/-- R64, R65: how a state is cancelled: before loading, during it, or not at all. -/
def TruckState.cancelEarly : TruckState → Option Bool
  | .announced => some true
  | .queued => some true
  | .shortWait => some true
  | .loading => some false
  | .paused => some false
  | .loaded => some false
  | .over => some false
  | .cleared => none
  | .unloading => none

/-- R65: the truck leaves the table within the cancel itself. -/
def Yard.cancelLeaves (e : Env) (y : Yard) (t : Truck) : Bool :=
  (((y.act.cancelLate e t).yard).truck? t.number).isNone

/-- R64, R65: CANCEL TRUCK; the reply carries the state before and whether the truck left the table. -/
def Part.cancelTruck (p : Part) (number : Nat) : Part × Response :=
  if ¬ truckInRange number then p.refuse .badValue
  else match p.yard.truck? number with
    | none => p.refuse .notFound
    | some t =>
      if p.weigh.arming.map Arming.truck = some number then p.refuse .busy
      else match t.state.cancelEarly with
        | none => p.refuse .wrongState
        | some true =>
          (p.doAct fun e a => a.cancelEarly e t, .ok [byte t.state.code, byte 0])
        | some false =>
          (p.doAct fun e a => a.cancelLate e t,
            .ok [byte t.state.code, if p.yard.cancelLeaves p.env t then byte 0 else byte 1])

/-! ### Pause, resume, depart (R62, R63, R68) -/

/-- A truck's state is written, and the jobs are judged afresh. -/
def Part.moveTruckTo (p : Part) (number : Nat) (st : TruckState) : Part :=
  (p.onYard fun _ y => y.modifyTruck number fun t => { t with state := st }).judgeAndServe

/-- R62: PAUSE TRUCK. -/
def Part.pauseTruck (p : Part) (number : Nat) : Part × Response :=
  if ¬ truckInRange number then p.refuse .badValue
  else match p.yard.truckState? number with
    | none => p.refuse .notFound
    | some .loading => (p.moveTruckTo number .paused, .ok [])
    | some .paused => (p, .ok [])
    | some _ => p.refuse .wrongState

/-- R63: RESUME TRUCK. -/
def Part.resumeTruck (p : Part) (number : Nat) : Part × Response :=
  if ¬ truckInRange number then p.refuse .badValue
  else match p.yard.truckState? number with
    | none => p.refuse .notFound
    | some .paused => (p.moveTruckTo number .loading, .ok [])
    | some .loading => (p, .ok [])
    | some _ => p.refuse .wrongState

/-- R68: an ON_TRUCK pack of a truck. -/
def Pack.departs (k : Pack) (number : Nat) : Bool :=
  decide (k.state = .onTruck) && decide (k.assignment.map Assignment.truck = some number)

/-- R68: the truck's ON_TRUCK packs leave the pack table, and its record the truck table. -/
def Yard.depart (y : Yard) (number : Nat) : Yard :=
  ({ y with packs := y.packs.keep fun _ k => !k.departs number }).dropTruck number

/-- R68: DEPART TRUCK; the reply carries the number of pack records deleted. -/
def Part.departTruck (p : Part) (number : Nat) : Part × Response :=
  if ¬ truckInRange number then p.refuse .badValue
  else match p.yard.truckState? number with
    | none => p.refuse .notFound
    | some .cleared =>
      ({ p with yard := p.yard.depart number },
        .ok [byte (p.yard.packs.pick fun _ k => k.departs number).length])
    | some _ => p.refuse .wrongState

/-! ### Reads (R69) -/

/-- R69, R175: READ TRUCK, one of its three parts. -/
def Part.readTruck (p : Part) (number part : Nat) : Part × Response :=
  if ¬ (truckInRange number ∧ part ≤ 2) then p.refuse .badValue
  else match p.yard.truckNo? number with
    | none => p.refuse .notFound
    | some (i, t) =>
      (p, .ok (if part = 0 then t.vehicleBody p.env i
        else if part = 1 then t.linesBody else t.bedBody))

/-- R69: LIST TRUCKS. -/
def Part.listTrucks (p : Part) : Part × Response := (p, .ok p.yard.trucksBody)

/-! ### Lanes (R71) -/

/-- R71: OPEN LANE's effect on a lane. -/
def Lane.opened (l : Lane) : Lane :=
  match l.state with
  | .closing => { l with state := .occupied }
  | .closed => { l with state := .free }
  | _ => l

/-- R71: CLOSE LANE's effect on a lane. -/
def Lane.shut (l : Lane) : Lane :=
  match l.state with
  | .free => { l with state := .closed }
  | .occupied => { l with state := .closing }
  | _ => l

/-- R71: OPEN LANE; a CLOSED lane becomes FREE and is reported to the arbiter, whose grants follow the
request. The reply carries the lane state as the request leaves it. -/
def Part.openLane (p : Part) (lane : Nat) : Part × Response :=
  if 5 < lane then p.refuse .badValue
  else
    (match (p.yard.lane lane).state with
      | .closed => p.doAct fun _ a => a.on fun y => y.modifyLane lane Lane.opened
      | _ => { p with yard := p.yard.modifyLane lane Lane.opened },
      .ok [byte (p.yard.lane lane).opened.state.code])

/-- R71: CLOSE LANE; the reply carries the lane state after the request. -/
def Part.closeLane (p : Part) (lane : Nat) : Part × Response :=
  if 5 < lane then p.refuse .badValue
  else
    ({ p with yard := p.yard.modifyLane lane Lane.shut },
      .ok [byte (p.yard.lane lane).shut.state.code])

/-- R71: READ LANES. -/
def Part.readLanes (p : Part) : Part × Response := (p, .ok (p.yard.lanesBody p.settings))

end Sys2Proof.Machine
end

