-- ==== Sys2Proof/Machine/Loaders.lean ====
section
/-! DEFINITION. The loader link controller (chapter 8): enrolment, turns and exchanges, and what each answer does. -/

namespace Sys2Proof.Machine

/-! ### Enrol, retire, read (R126, R127, R141, R142) -/

/-- The yard with its loader link changed. -/
def Yard.onLink (y : Yard) (f : LoaderLink → LoaderLink) : Yard := { y with loader := f y.loader }

/-- R126: an OFF terminal is set up, and its CLEAR ALL exchange joins the pending ones. -/
def Yard.enroll (y : Yard) (terminal credit : Nat) (silence : SilenceAction) : Yard :=
  (y.modifyTerminal terminal fun t =>
    { t with credit := credit, silence := silence, enrolling := true }).onLink fun l =>
    { l with clearAlls := l.clearAlls ++ [terminal] }

/-- R126: ENROLL LOADER. The reply waits for the end of the CLEAR ALL exchange. -/
def Part.enrollLoader (p : Part) (terminal credit silence : Nat) : Part × Response :=
  match SilenceAction.ofCode? silence with
  | none => p.refuse .badValue
  | some s =>
    if ¬ (terminal ≤ 7 ∧ within 1 4 credit) then p.refuse .badValue
    else if (p.yard.terminal terminal).enrolling then p.refuse .busy
    else if (p.yard.terminal terminal).state ≠ .off then p.refuse .wrongState
    else ({ p with yard := p.yard.enroll terminal credit s }, .awaitEnroll terminal)

/-- The late answers awaited but for those of a terminal. -/
def LoaderLink.lateBut (l : LoaderLink) (terminal : Nat) : List LateAnswer :=
  l.late.filter fun r => r.terminal != terminal

/-- Whether a late answer of a terminal is still awaited. -/
def LoaderLink.awaitsLate (l : LoaderLink) (terminal : Nat) : Bool :=
  l.late.any fun r => r.terminal == terminal

/-- R127 step 4: an exchange in flight with a terminal ends at once, and its answer is then late. -/
def LoaderLink.cutExchange (l : LoaderLink) (terminal : Nat) : LoaderLink :=
  match l.exchange with
  | some x =>
    if x.terminal = terminal then
      { l with
        exchange := none
        late := l.lateBut terminal ++ [{ terminal := terminal, timeoutMs := x.timeoutMs }] }
    else l
  | none => l

/-- R127: a terminal is retired: its moves are recalled, its notices discarded, it becomes OFF, and an
exchange in flight with it ends. -/
def Act.retire (e : Env) (a : Act) (terminal : Nat) : Act :=
  (a.recallAll e terminal).on fun y =>
    (y.modifyTerminal terminal fun t =>
      { t with notices := [], state := .off, nextProbe := none }).onLink fun l =>
      l.cutExchange terminal

/-- R127: RETIRE LOADER. -/
def Part.retireLoader (p : Part) (terminal : Nat) : Part × Response :=
  if 7 < terminal then p.refuse .badValue
  else if (p.yard.terminal terminal).enrolling then p.refuse .busy
  else if (p.yard.terminal terminal).state = .off then (p, .ok [])
  else (p.doAct fun e a => a.retire e terminal, .ok [])

/-- R142: READ LOADER. -/
def Part.readLoader (p : Part) (terminal : Nat) : Part × Response :=
  if 7 < terminal then p.refuse .badValue else (p, .ok (p.yard.loaderBody terminal))

/-- R141: the oldest entry leaves the text queue. -/
def Yard.dropText (y : Yard) : Yard := y.onLink fun l => { l with texts := l.texts.tail }

/-- R141: READ TEXT. -/
def Part.readText (p : Part) : Part × Response :=
  ({ p with yard := p.yard.dropText }, .ok (textBody p.yard.loader.texts.head?))

/-! ### Turns, probes and CLEAR ALL (R126, R128, R131) -/

/-- R128: a terminal that may be given a turn at a time. -/
def Terminal.qualifies (t : Terminal) (now : Nat) : Bool :=
  !t.enrolling && (decide (t.state = .active) || (decide (t.state = .silent) && due now t.nextProbe))

/-- R128: the terminal numbers in turn order after the one last served. -/
def turnOrder (last : Nat) : List Nat := (List.range 8).map fun i => (last + 1 + i) % 8

/-- R128: the terminal that has the next turn. -/
def Yard.nextTurn (y : Yard) (now : Nat) : Option Nat :=
  (turnOrder y.loader.lastServed).find? fun t => (y.terminal t).qualifies now

/-- R128: the line is free for a turn: no exchange is in flight and no CLEAR ALL is pending. -/
def Yard.lineFree (y : Yard) : Bool := y.loader.exchange.isNone && y.loader.clearAlls.isEmpty

/-- R128: the message of a notice. -/
def Notice.message : Notice → LinkMessage
  | .withdraw n => .withdraw n
  | .reject n => .reject n

/-- R128: the MOVE message of a move. -/
def Move.message (n : Nat) (m : Move) : LinkMessage := .move n m.kind m.tag m.source m.dest

/-- R128: the oldest outstanding move of a terminal that is not yet delivered. -/
def Yard.undelivered (y : Yard) (t : Terminal) : Option LinkMessage :=
  t.moves.findSome? fun n =>
    match y.move? n with
    | some m => if m.delivered then none else some (m.message n)
    | none => none

/-- R128, R140: the message of an ACTIVE terminal's turn. -/
def Yard.turnMessage (y : Yard) (halt : Bool) (t : Terminal) : LinkMessage :=
  match t.notices with
  | k :: _ => k.message
  | [] => if halt then .poll else (y.undelivered t).getD .poll

/-- R131: the message of a probe: the oldest notice, or a POLL. -/
def Terminal.probeMessage (t : Terminal) : LinkMessage :=
  match t.notices with
  | k :: _ => k.message
  | [] => .poll

/-- An exchange begins; an answer that was still awaited from that terminal is no longer told apart
(log entry 17). -/
def LoaderLink.begin (l : LoaderLink) (x : Exchange) : LoaderLink :=
  { l with exchange := some x, late := l.lateBut x.terminal }

/-- R128: a turn makes its terminal the terminal last served. -/
def Yard.serveTerminal (y : Yard) (x : Exchange) : Yard :=
  y.onLink fun l => { l.begin x with lastServed := x.terminal }

/-- R128: the exchange of an ACTIVE terminal's turn. -/
def Part.turnExchange (p : Part) (t : Nat) : Exchange where
  terminal := t
  message := p.yard.turnMessage p.halt (p.yard.terminal t)
  purpose := .turn
  resends := 0
  timeoutMs := p.settings.link.timeoutMs
  retryLimit := p.settings.link.retryLimit

/-- R131: the exchange of a probe, which is made without resends. -/
def Part.probeExchange (p : Part) (t : Nat) : Exchange where
  terminal := t
  message := (p.yard.terminal t).probeMessage
  purpose := .probe
  resends := 0
  timeoutMs := p.settings.link.timeoutMs
  retryLimit := 0

/-- R126: the CLEAR ALL exchange of a terminal. -/
def Part.clearExchange (p : Part) (t : Nat) : Exchange where
  terminal := t
  message := .clearAll
  purpose := .clearAll
  resends := 0
  timeoutMs := p.settings.link.timeoutMs
  retryLimit := p.settings.link.retryLimit

/-- The terminal whose turn comes next, if the line is free and that terminal is in a state. -/
def Part.turnOf (p : Part) (st : TerminalState) : Option Nat :=
  if p.yard.lineFree then
    match p.yard.nextTurn p.clock with
    | some t => if (p.yard.terminal t).state = st then some t else none
    | none => none
  else none

/-- R128: the next turn, where it falls to an ACTIVE terminal. -/
def Part.loaderTurn (p : Part) : Part :=
  match p.turnOf .active with
  | some t => { p with yard := p.yard.serveTerminal (p.turnExchange t) }
  | none => p

/-- R131: the next turn, where it falls to a SILENT terminal whose probe time has come. -/
def Part.probeTurn (p : Part) : Part :=
  match p.turnOf .silent with
  | some t => { p with yard := p.yard.serveTerminal (p.probeExchange t) }
  | none => p

/-- R126: the first pending CLEAR ALL exchange begins when no exchange is in flight. It is not a turn. -/
def Part.clearAllBegins (p : Part) : Part :=
  match p.yard.loader.exchange, p.yard.loader.clearAlls with
  | none, t :: rest =>
    { p with yard := p.yard.onLink fun l => { l.begin (p.clearExchange t) with clearAlls := rest } }
  | _, _ => p

/-! ### What an answer reports (R132 to R141) -/

/-- R132: the move a report names, when the terminal that sent it holds it. -/
def Yard.moveAt? (y : Yard) (terminal n : Nat) : Option Move :=
  match y.move? n with
  | some m => if m.terminal = terminal then some m else none
  | none => none

/-- R132: a stale report: STALE_DONE is set and nothing else changes. -/
def Act.stale (a : Act) : Act := a.on fun y => y.raise .staleDone

/-- R133: ACCEPT. -/
def Act.accept (a : Act) (n : Nat) (m : Move) : Act :=
  if m.state = .sent then
    a.on fun y =>
      (y.modifyMove n fun m => { m with state := .accepted }).modifyJob m.job fun j =>
        { j with state := .accepted }
  else a

/-- R134: LIFTED. -/
def Act.lifted (a : Act) (asked : Bool) (n : Nat) (m : Move) : Act :=
  if m.state = .lifted then a
  else if a.yard.liftAllowed m then a.lift asked n m
  else a.on fun y => y.addReject m.terminal n

/-- R135 step 1, R44: a measured moisture replaces the pack's, clamped to 6 to 80. -/
def Yard.measure (y : Yard) (tag : Nat) : Option Nat → Yard
  | none => y
  | some mc => y.modifyPack tag fun p => { p with moisture := max 6 (min 80 mc), measured := true }

/-- R136: the scanned pack of a mismatch: FREE, RESERVED or HELD, it becomes DOUBT; its job becomes
SUSPENDED, and a RESERVED pack with no job has its assignment released. -/
def Act.doubtScanned (e : Env) (a : Act) (tag : Nat) : Act :=
  match a.yard.pack? tag with
  | none => a
  | some k =>
    if k.state = .free ∨ k.state = .reserved ∨ k.state = .held then
      let a := a.toDoubt tag
      match k.job with
      | some n => a.suspendJob n
      | none => if k.state = .reserved then a.releaseAssignment e tag fun a => a else a
    else a

/-- The end of a move that leaves its pack lost (R31, R66). -/
def Act.loseMove (a : Act) (m : Move) : Act :=
  match a.yard.job? m.job with
  | some j => a.lose m.job j
  | none => a

/-- R136: a DONE with another tag ends the move as a fault. -/
def Act.mismatch (e : Env) (a : Act) (n : Nat) (m : Move) (scanned : Nat) : Act :=
  (((a.on fun y => (y.dropMove n).raise .moveFault).loseMove m).doubtScanned e scanned)

/-- R135: a DONE of a lifted move. -/
def Act.doneLifted (e : Env) (a : Act) (n : Nat) (m : Move) (tag moisture : Option Nat) : Act :=
  if tag.isSome ∧ tag ≠ some m.tag then a.mismatch e n m (tag.getD 0)
  else (a.on fun y => y.measure m.tag moisture).land e n m

/-- R135: DONE, first judged as LIFTED where the move is not lifted. -/
def Act.done (e : Env) (a : Act) (asked : Bool) (n : Nat) (m : Move) (tag moisture : Option Nat) : Act :=
  if m.state = .lifted then a.doneLifted e n m tag moisture
  else if a.yard.liftAllowed m then (a.lift asked n m).doneLifted e n m tag moisture
  else a.on fun y => y.addReject m.terminal n

/-- R137: DAMAGED before lift. From a stack the pack becomes HELD and its job is deleted, with its
assignment released and refilled, or as R66 gives; from a bed it becomes DOUBT and its offload ends. -/
def Act.damaged (e : Env) (a : Act) (m : Move) (j : Job) : Act :=
  match j.work with
  | .offload number _ => ((a.leaveSource m).toDoubt m.tag).endOffload m.job number m.tag
  | .clear _ => (a.setPackState m.tag .held).endJob m.job
  | .load .. =>
    match a.yard.cancelledLoad? j with
    | some number => (a.setPackState m.tag .held).dropCancelled m.job number m.tag
    | none => a.releaseAssignment e m.tag fun a => a.setPackState m.tag .held

/-- R137: FAULT of a move that is not lifted. -/
def Act.faultUnlifted (e : Env) (a : Act) (m : Move) (j : Job) : FaultReason → Act
  | .notFound => (a.leaveSource m).lose m.job j
  | .lost => (a.leaveSource m).lose m.job j
  | .damaged => a.damaged e m j
  | .declined => a.unsend m.job j

/-- R137: FAULT ends the move with MOVE_FAULT. -/
def Act.faulted (e : Env) (a : Act) (n : Nat) (m : Move) (r : FaultReason) : Act :=
  let a := a.on fun y => (y.dropMove n).raise .moveFault
  match a.yard.job? m.job with
  | none => a
  | some j => if m.state = .lifted then a.lose m.job j else a.faultUnlifted e m j r

/-- R139, R66: WITHDRAWN of a move that a cancel asked for: the move ends and its pack is FREE. For
any other move it changes nothing (log entry 16). -/
def Act.withdrawn (a : Act) (n : Nat) (m : Move) : Act :=
  match a.yard.job? m.job with
  | none => a
  | some j =>
    if m.state ≠ .lifted ∧ (a.yard.cancelledLoad? j).isSome then
      (a.on fun y => y.dropMove n).unsend m.job j
    else a

/-- R139: TOO_LATE: the move goes on, and its WITHDRAW notice is removed. -/
def Act.tooLate (a : Act) (n : Nat) (m : Move) : Act :=
  a.on fun y => y.dropNotice m.terminal (.withdraw n)

/-- R141: TEXT joins the text queue, or is discarded on a full queue. -/
def Yard.takeText (y : Yard) (terminal now : Nat) (chars : List Byte) : Yard :=
  if y.loader.texts.length < 8 then
    (y.onLink fun l =>
      { l with texts := l.texts ++ [{ terminal := terminal, time := now, chars := chars }] }).raise
      .textWaiting
  else y.raise .textLost

/-- R132: the move a report names is found, or the report is stale. -/
def Act.onMove (a : Act) (terminal n : Nat) (f : Move → Act) : Act :=
  match a.yard.moveAt? terminal n with
  | some m => f m
  | none => a.stale

/-- R132: a well-formed answer to an exchange is taken. -/
def Act.report (e : Env) (a : Act) (x : Exchange) : Answer → Act
  | .idle => a
  | .accept n => a.onMove x.terminal n fun m => a.accept n m
  | .lifted n => a.onMove x.terminal n fun m => a.lifted (x.message.asks n) n m
  | .done n tag moisture => a.onMove x.terminal n fun m => a.done e (x.message.asks n) n m tag moisture
  | .fault n r => a.onMove x.terminal n fun m => a.faulted e n m r
  | .withdrawn n => a.onMove x.terminal n fun m => a.withdrawn n m
  | .tooLate n => a.onMove x.terminal n fun m => a.tooLate n m
  | .text chars => a.on fun y => y.takeText x.terminal e.clock chars

/-- R127: whether an answer carries a report of a move. -/
def Answer.isReport : Answer → Bool
  | .idle => false
  | .text _ => false
  | _ => true

/-! ### Exchanges succeed and fail (R126, R129 to R131) -/

/-- R129, R132, R134: the message of a successful exchange: a MOVE is delivered, and a REJECT notice
leaves the pending ones. -/
def Yard.messageTaken (y : Yard) (terminal : Nat) : LinkMessage → Yard
  | .move n .. =>
    match y.moveAt? terminal n with
    | some _ => y.modifyMove n fun m => { m with delivered := true }
    | none => y
  | .reject n => y.dropNotice terminal (.reject n)
  | _ => y

/-- R126, R131: what the purpose of a successful exchange adds. -/
def Yard.purposeMet (y : Yard) (terminal : Nat) : Purpose → Yard
  | .turn => y
  | .probe =>
    (y.modifyTerminal terminal fun t => { t with state := .active, nextProbe := none }).raise
      .loaderBack
  | .clearAll => y.modifyTerminal terminal fun t => { t with state := .active, enrolling := false }

/-- R129: an exchange succeeds: last heard is set to now, and its message and purpose are done with. -/
def Yard.exchangeDone (y : Yard) (now : Nat) (x : Exchange) : Yard :=
  (((y.onLink fun l => { l with exchange := none }).modifyTerminal x.terminal fun t =>
    { t with lastHeard := some now }).messageTaken x.terminal x.message).purposeMet x.terminal
    x.purpose

/-- R126, R160: the waiting ENROLL LOADER reply of a terminal becomes ready. -/
def HostLink.waitOver (h : HostLink) (w : Wait) (body : List Byte) : HostLink :=
  { h with
    awaiting := h.awaiting.filter fun a => !decide (a.what = w)
    ready := h.ready ++ (h.awaiting.filter fun a => decide (a.what = w)).map fun a =>
      { reply :=
          { kind := a.kind + 128#8, seq := a.seq, result := .ok, body := body, check := a.check }
        holder := .buffer } }

/-- R126: the end of a CLEAR ALL exchange readies the reply to its ENROLL LOADER. -/
def Part.enrollEnds (p : Part) (x : Exchange) : Part :=
  match x.purpose with
  | .clearAll =>
    { p with host :=
      p.host.waitOver (.enroll x.terminal) [byte (p.yard.terminal x.terminal).state.code] }
  | _ => p

/-- R129, R132: a well-formed answer to the exchange in flight. -/
def Part.exchangeSucceeds (p : Part) (x : Exchange) (ans : Answer) : Part :=
  (p.doAct fun e a =>
    (a.on fun y => y.exchangeDone e.clock x).report e x ans).enrollEnds x

/-- R127: an answer that reaches a retired terminal is discarded, and a report sets STALE_DONE. -/
def Part.lateAnswer (p : Part) (terminal : Nat) (ans : Answer) : Part :=
  let p := { p with yard := p.yard.onLink fun l =>
    { l with late := l.lateBut terminal } }
  if ans.isReport then p.raise .staleDone else p

/-- An answer arrives on the loader link. From a terminal that the part has no exchange with, and
awaits no late answer of, it is passed over (R179). -/
def Part.answered (p : Part) (terminal : Nat) (ans : Answer) : Part :=
  match p.yard.loader.exchange with
  | some x =>
    if x.terminal = terminal then p.exchangeSucceeds x ans
    else if p.yard.loader.awaitsLate terminal then p.lateAnswer terminal ans else p
  | none => if p.yard.loader.awaitsLate terminal then p.lateAnswer terminal ans else p

/-- The terminals whose answer is awaited: the one addressed, and those whose answer may be late. -/
def LoaderLink.listensTo (l : LoaderLink) : List Nat :=
  (l.exchange.map Exchange.terminal).toList ++ l.late.map LateAnswer.terminal

/-- R129, R179: characters arrive. Where they are a well-formed answer of a terminal whose answer is
awaited, it is taken; otherwise they are garbled, which is no answer, or are passed over. -/
def Part.charsArrive (p : Part) (chars : List LinkChar) : Part :=
  match p.yard.loader.listensTo.findSome? fun t => (hearAnswer t chars).map fun a => (t, a) with
  | some (t, a) => p.answered t a
  | none => p

/-- R129: the same message is sent again, and the retry total rises by 1. -/
def Yard.resend (y : Yard) (x : Exchange) : Yard :=
  (y.onLink fun l => { l with exchange := some { x with resends := x.resends + 1 } }).modifyTerminal
    x.terminal fun t => { t with retries := (t.retries + 1) % 65536 }

/-- R126, R130: a terminal becomes SILENT, with its next probe set and LOADER_SILENT. -/
def Yard.goSilent (y : Yard) (terminal probeAt : Nat) : Yard :=
  (y.modifyTerminal terminal fun t =>
    { t with state := .silent, enrolling := false, nextProbe := some probeAt }).raise .loaderSilent

/-- R125: when a terminal is next probed. DESIGN CHOICE (log entry 41): the probe interval is the setting
at the moment the probe deadline is set, also where SET LOADER LINK changed it while the exchange that now
fails was in flight. -/
def Env.probeAt (e : Env) : Nat := deadlineAt e.clock e.settings.link.probeInterval

/-- R130: silence with RECALL: the moves are recalled and the notices discarded. -/
def Act.silenced (e : Env) (a : Act) (terminal : Nat) : Act :=
  let a := a.on fun y => y.goSilent terminal e.probeAt
  match (a.yard.terminal terminal).silence with
  | .report => a
  | .recall =>
    (a.recallAll e terminal).on fun y => y.modifyTerminal terminal fun t => { t with notices := [] }

/-- R126, R130, R131: the failure of an exchange, by its purpose. -/
def Act.exchangeFailed (e : Env) (a : Act) (x : Exchange) : Act :=
  let a := a.on fun y => y.onLink fun l => { l with exchange := none }
  match x.purpose with
  | .turn => a.silenced e x.terminal
  | .probe =>
    a.on fun y => y.modifyTerminal x.terminal fun t => { t with nextProbe := some e.probeAt }
  | .clearAll => a.on fun y => y.goSilent x.terminal e.probeAt

/-- R179: when an answer timeout ends after a message, the late answers awaited no longer than that count
as missing. The message of an exchange in flight was sent after every exchange that was cut, so its
timeout covers theirs where it is at least as long; with no exchange in flight the timeout of the cut
exchanges themselves has ended (log entry 17). -/
def LoaderLink.lateExpires (l : LoaderLink) : LoaderLink :=
  { l with late := match l.exchange with
    | some x => l.late.filter fun r => decide (x.timeoutMs < r.timeoutMs)
    | none => [] }

/-- R129: the exchange in flight was not answered in time: its message is sent again, or it fails. -/
def Part.notAnswered (p : Part) : Part :=
  match p.yard.loader.exchange with
  | none => p
  | some x =>
    if x.resends < x.retryLimit then { p with yard := p.yard.resend x }
    else (p.doAct fun e a => a.exchangeFailed e x).enrollEnds x

/-- R129, R179: the answer timeout ends with no well-formed answer: late answers awaited no longer count
as missing, and the exchange in flight was not answered. -/
def Part.answerTimeout (p : Part) : Part :=
  { p with yard := p.yard.onLink LoaderLink.lateExpires }.notAnswered

end Sys2Proof.Machine
end

