-- ==== Sys2Proof/Machine/Weighing.lean ====
section
/-! DEFINITION. The weighbridge (chapter 9): the line receiver, arming, completions, the trim update and the judgement. -/

namespace Sys2Proof.Machine

/-! ### The requests (R146, R148, R154) -/

/-- R146: the states of a truck that each direction can be armed for. -/
def Direction.arms : Direction → TruckState → Bool
  | .weighIn, .announced => true
  | .weighIn, .queued => true
  | .weighOut, .loaded => true
  | _, _ => false

/-- R146: WEIGH IN and WEIGH OUT; the reply carries the deadline. -/
def Part.arm (p : Part) (number : Nat) (d : Direction) : Part × Response :=
  if ¬ truckInRange number then p.refuse .badValue
  else match p.yard.truckState? number with
    | none => p.refuse .notFound
    | some st =>
      if p.weigh.arming.isSome then p.refuse .busy
      else if ¬ d.arms st then p.refuse .wrongState
      else
        let deadline := deadlineAt p.clock p.settings.weighing.timeout
        let a : Arming :=
          { truck := number, direction := d, deadline := deadline, deck1 := none, deck2 := none }
        ({ p with weigh := { p.weigh with arming := some a } }, .ok (timeBytes deadline))

/-- R146: WEIGH IN. -/
def Part.weighIn (p : Part) (number : Nat) : Part × Response := p.arm number .weighIn

/-- R146: WEIGH OUT. -/
def Part.weighOut (p : Part) (number : Nat) : Part × Response := p.arm number .weighOut

/-- R148: ABORT WEIGHING; the reply carries the truck and direction that were armed. -/
def Part.abortWeighing (p : Part) : Part × Response :=
  match p.weigh.arming with
  | none => p.refuse .wrongState
  | some a =>
    ({ p with weigh := { p.weigh with arming := none } },
      .ok (twoBytes a.truck ++ [byte a.direction.code]))

/-- R154: READ WEIGHBRIDGE; the discard counter is cleared as the reply is built. -/
def Part.readWeighbridge (p : Part) : Part × Response :=
  ({ p with weigh := { p.weigh with discards := 0 } }, .ok p.weigh.body)

/-! ### The trim update (R151) -/

/-- R151: the ON_TRUCK packs of a truck. -/
def Yard.bedPacks (y : Yard) (number : Nat) : List Pack :=
  (y.packs.pick fun _ k => k.departs number).map (·.2)

/-- R151: the species all packs of a list have, if there is one. -/
def commonSpecies : List Pack → Option Nat
  | [] => none
  | k :: rest => if rest.all fun j => decide (j.species = k.species) then some k.species else none

/-- R151: Pest, the sum of the loaded masses. -/
def loadedSum (packs : List Pack) : Nat := (packs.map fun k => k.loadedMass.getD 0).sum

/-- R151: the error e, truncated toward zero and clamped to -200 to 200. -/
def trimError (measured estimated : Int) : Int :=
  max (-200) (min 200 (((measured - estimated) * 1000).tdiv estimated))

/-- R151: the trim after an update, clamped to 850 to 1,150. -/
def trimAfter (trim : Nat) (error : Int) : Nat :=
  (max 850 (min 1150 ((trim : Int) + error.tdiv 4))).toNat

/-- R151: Pmeas, the measured payload. -/
def Truck.payload (t : Truck) (front rear : Nat) : Int :=
  (front : Int) + rear - t.tareFront - t.tareRear

/-- R151: the trims after a truck's first weigh-out. -/
def Part.trimsAfter (p : Part) (t : Truck) (front rear : Nat) : Vector Nat 8 :=
  let packs := p.yard.bedPacks t.number
  match commonSpecies packs with
  | none => p.trims
  | some sp =>
    if 1000 ≤ loadedSum packs ∧ 0 < t.payload front rear then
      p.trims.setIfInBounds sp
        (trimAfter (trimOf p.trims sp) (trimError (t.payload front rear) (loadedSum packs)))
    else p.trims

/-! ### Completions (R149, R150, R152) -/

/-- R152: the truck fails a weigh-out: one pack is chosen, the truck becomes OVER and the pack gets an
OFFLOAD job while a record is free; with no candidate the truck stays LOADED. TRUCK_OVER is set. -/
def Act.judgedOver (a : Act) (t : Truck) : Act :=
  let a := match a.yard.chooseOffload t with
    | some (r, tag) =>
      (a.on fun y => y.modifyTruck t.number fun t => { t with state := .over }).createJob
        (.offload t.number r) tag
    | none => a
  a.on fun y => y.raise .truckOver

/-- R150 step 4: the truck passes: its lane is released and it becomes CLEARED. -/
def Act.judgedClear (a : Act) (t : Truck) : Act :=
  a.on fun y =>
    ((y.releaseLane t.number).modifyTruck t.number fun t => { t with state := .cleared }).raise
      .truckCleared

/-- R150: the measurements and the judgement of an OUT weighing. -/
def Act.weighedOut (a : Act) (number front rear : Nat) : Act :=
  let a := a.on fun y => y.modifyTruck number fun t =>
    { t with measured := some { front := front, rear := rear }, weighedOut := true }
  match a.yard.truck? number with
  | none => a
  | some t =>
    (if t.overload.any then a.judgedOver t else a.judgedClear t).on fun y => y.raise .weighDone

/-- R149: the completion of an IN weighing. -/
def Act.weighedIn (a : Act) (number front rear : Nat) : Act :=
  match a.yard.truckState? number with
  | some st =>
    if st = .announced ∨ st = .queued then
      a.on fun y =>
        (y.modifyTruck number fun t =>
          { t with tare := some { front := front, rear := rear }, state := .queued }).raise .weighDone
    else a.on fun y => y.raise .weighFail
  | none => a.on fun y => y.raise .weighFail

/-- R150 step 2: the trim update of a first weigh-out. -/
def Part.learn (p : Part) (number front rear : Nat) : Part :=
  match p.yard.truck? number with
  | some t => if t.weighedOut then p else { p with trims := p.trimsAfter t front rear }
  | none => p

/-- R147: a weighing completes: the arming record is dropped and its direction's completion follows. -/
def Part.weighed (p : Part) (a : Arming) (front rear : Nat) : Part :=
  let p := { p with weigh := { p.weigh with arming := none } }
  match a.direction with
  | .weighIn => p.doAct fun _ act => act.weighedIn a.truck front rear
  | .weighOut => (p.learn a.truck front rear).doAct fun _ act => act.weighedOut a.truck front rear

/-- R147: a stable reading is written into the arming record of its deck. -/
def Arming.put (a : Arming) (deck value : Nat) : Arming :=
  if deck = 1 then { a with deck1 := some value } else { a with deck2 := some value }

/-- R147: a stable reading is handed to the arming record; with both readings the weighing completes. -/
def Part.handReading (p : Part) (deck value : Nat) : Part :=
  match p.weigh.arming with
  | none => p
  | some a =>
    let a := a.put deck value
    match a.deck1, a.deck2 with
    | some f, some r => p.weighed a f r
    | _, _ => { p with weigh := { p.weigh with arming := some a } }

/-! ### The line receiver (R143, R144) -/

/-- R143: the line parity of a character's eight data bits: the number of ones, modulo 2. -/
def onesOdd (data : Nat) : Bool :=
  decide ((((List.range 8).map fun i => (data / 2 ^ i) % 2).sum) % 2 = 1)

/-- R143: the parity bit agrees with the setting. -/
def parityRight : Parity → LineChar → Bool
  | .none, _ => true
  | .even, c => onesOdd c.data == c.parity
  | .odd, c => onesOdd c.data != c.parity

/-- R143: a character arrived without a parity or stop-bit error. -/
def charGood (parity : Parity) (c : LineChar) : Bool := c.stop && parityRight parity c

/-- A decimal digit's value. -/
def digit? (c : Nat) : Option Nat := if within 48 57 c then some (c - 48) else none

/-- The number of decimal digits, most significant first, if each character is one. -/
def digits? : List Nat → Nat → Option Nat
  | [], acc => some acc
  | c :: rest, acc =>
    match digit? c with
    | some d => digits? rest (10 * acc + d)
    | none => none

/-- R144: a well-formed record: deck, raw value and stable mark. -/
def parseRecord : List Nat → Option (Nat × Int × Bool)
  | [d, s1, sign, a, b, c, e, f, g, s2, mark] =>
    match digits? [a, b, c, e, f, g] 0 with
    | some n =>
      if (d = 49 ∨ d = 50) ∧ s1 = 32 ∧ (sign = 43 ∨ sign = 45) ∧ s2 = 32 ∧ (mark = 83 ∨ mark = 85) then
        some (d - 48, if sign = 45 then -(n : Int) else n, mark == 83)
      else none
    | none => none
  | _ => none

/-- R144: the deck value: the raw value plus the offset of the deck, clamped to 0 to 60,000 kg. -/
def deckValue (raw offset : Int) : Nat := (max 0 (min 60000 (raw + offset))).toNat

/-- R145: the offset of a deck. -/
def WeighSettings.offset (w : WeighSettings) (deck : Nat) : Int :=
  if deck = 1 then w.offset1 else w.offset2

/-- R143: a discard: the counter rises, unless it holds 255, and WEIGH_LINE is set. -/
def Part.discard (p : Part) : Part :=
  ({ p with weigh :=
    { p.weigh with receiver := .hunting, discards := min 255 (p.weigh.discards + 1) } }).raise
    .weighLine

/-- R144: the last reading of a deck is written. -/
def WeighUnit.putLast (w : WeighUnit) (deck : Nat) (r : Reading) : WeighUnit :=
  if deck = 1 then { w with last1 := some r } else { w with last2 := some r }

/-- R144: a record ended by its end character is parsed. -/
def Part.recordEnds (p : Part) (chars : List Nat) : Part :=
  match parseRecord chars with
  | none => p.discard
  | some (deck, raw, stable) =>
    let value := deckValue raw (p.settings.weighing.offset deck)
    let last : Reading := { raw := raw, value := value, stable := stable, time := p.clock }
    let p := { p with weigh := ({ p.weigh with receiver := .hunting }).putLast deck last }
    if stable then p.handReading deck value else p

/-- R143: the receiver takes one character. -/
def Part.lineChar (p : Part) (c : LineChar) : Part :=
  let good := charGood p.settings.weighing.parity c
  match p.weigh.receiver with
  | .hunting =>
    if good ∧ (c.data = 49 ∨ c.data = 50) then
      { p with weigh := { p.weigh with receiver := .collecting [c.data] } }
    else p
  | .collecting chars =>
    if ¬ good then p.discard
    else if c.data = p.settings.weighing.endChar then p.recordEnds chars
    else if 16 ≤ chars.length + 1 then p.discard
    else { p with weigh := { p.weigh with receiver := .collecting (chars ++ [c.data]) } }

/-- The receiver takes characters in the order they arrive. -/
def Part.lineChars (p : Part) (cs : List LineChar) : Part := cs.foldl Part.lineChar p

end Sys2Proof.Machine
end

