-- ==== Sys2Proof/Machine/Restart.lean ====
section
/-! DEFINITION. The audit (R172), the restart sequence with its fix-ups (R123, R171), and the supplies and the RESET pin (R170). -/

namespace Sys2Proof.Machine

/-! ### The seven checks (R172). Which item is reported of several is the model's (log entry 20) -/

/-- The elements of a list with their places, counted from 1. -/
def numbered {α : Type} (xs : List α) : List (Nat × α) := xs.zipIdx.map fun e => (e.2 + 1, e.1)

/-- Check 1, from a bay on: a stack above six tags, or one with a tag seen before, fails. DESIGN CHOICE (log
entry 20): of two bays that hold one tag, the later in bay order is the one reported. -/
def auditStacks : List Nat → List (Nat × List Nat) → Option AuditItem
  | _, [] => none
  | seen, (b, tags) :: rest =>
    if Config.maxHeight < tags.length ∨ ¬ tags.Nodup ∨ tags.any seen.contains then some (.bay b)
    else auditStacks (seen ++ tags) rest

/-- Check 1: every stack holds 0 to 6 tags, and no tag appears twice in the yard. -/
def Yard.audit1 (y : Yard) : Option AuditItem := auditStacks [] y.stack.entries

/-- Check 2: every tag in a stack names a pack whose place is that bay and tier. -/
def Yard.audit2 (y : Yard) : Option AuditItem :=
  y.stack.entries.findSome? fun en =>
    (numbered en.2).findSome? fun t =>
      if (y.pack? t.2).map Pack.place = some (.bay en.1 t.1) then none
      else some (.bayTier en.1 t.1)

/-- Check 3: a pack that should stand in a stack. -/
def Yard.shouldStand (y : Yard) (tag : Nat) (p : Pack) : Bool :=
  match p.state with
  | .free => true
  | .reserved => true
  | .held => true
  | .moving =>
    match y.jobOfPack? tag with
    | some (_, j) => !j.work.isOffload && !decide (j.state = .lifted)
    | none => false
  | _ => false

/-- Check 3: a pack stands at its place. -/
def Yard.standsAt (y : Yard) (tag : Nat) (p : Pack) : Bool :=
  match p.place with
  | .bay b tier => decide (0 < tier) && decide ((y.stackOf b)[tier - 1]? = some tag)
  | _ => false

/-- Check 3: every pack that should stand in a stack stands at its place. -/
def Yard.audit3 (y : Yard) : Option AuditItem :=
  (y.packs.first? fun tag p => y.shouldStand tag p && !y.standsAt tag p).map fun en => .tag en.1

/-- Check 4: an assignment names an existing truck and line, and the line lists the tag. -/
def Yard.assignmentHolds (y : Yard) (tag : Nat) (a : Assignment) : Bool :=
  match (y.truck? a.truck).bind fun t => t.line? a.line with
  | some l => l.assigned.contains tag
  | none => false

/-- Check 4: the assignments of the packs. -/
def Yard.audit4Packs (y : Yard) : Option AuditItem :=
  y.packs.entries.findSome? fun en =>
    match en.2.assignment with
    | some a => if y.assignmentHolds en.1 a then none else some (.truckLine a.truck a.line)
    | none => none

/-- R58: a line's assigned count plus stock short plus weight short is its wanted count. -/
def OrderLine.addsUp (l : OrderLine) : Bool :=
  decide (l.assigned.length + l.stockShort + l.weightShort = l.wanted)

/-- Check 4: a line lists packs assigned to it, and adds up unless its truck is UNLOADING. -/
def Yard.lineHolds (y : Yard) (t : Truck) (line : Nat) (l : OrderLine) : Bool :=
  (l.assigned.all fun tag =>
    decide ((y.pack? tag).bind Pack.assignment = some { truck := t.number, line := line }))
  && (decide (t.state = .unloading) || l.addsUp)

/-- Check 4: the lines of the trucks. -/
def Yard.audit4Lines (y : Yard) : Option AuditItem :=
  y.trucks.entries.findSome? fun en =>
    (numbered en.2.lines).findSome? fun l =>
      if y.lineHolds en.2 l.1 l.2 then none else some (.truckLine en.2.number l.1)

/-- Check 4. DESIGN CHOICE (log entry 20): where both a pack's assignment and an order line fail, the
assignment is reported. -/
def Yard.audit4 (y : Yard) : Option AuditItem :=
  match y.audit4Packs with
  | some i => some i
  | none => y.audit4Lines

/-- Check 5: a pack is ON_TRUCK, or MOVING there with an OFFLOAD job that is not LIFTED. -/
def Yard.ridesOn (y : Yard) (tag : Nat) (p : Pack) : Bool :=
  match p.state with
  | .onTruck => true
  | .moving =>
    match y.jobOfPack? tag with
    | some (_, j) => j.work.isOffload && !decide (j.state = .lifted)
    | none => false
  | _ => false

/-- Check 5: a place is a bed position of a truck. A CLEARED truck holds no lane, and its packs keep
the lane they were loaded at (R68). -/
def Truck.placeIs (t : Truck) (r : BedRef) : Place → Bool
  | .bed l s => decide (s = r) && (t.lane.isNone || decide (t.lane = some l))
  | _ => false

/-- Check 5: a bed position that is loaded names a pack that rides there. -/
def Yard.positionHolds (y : Yard) (t : Truck) (r : BedRef) (ps : BedPos) : Bool :=
  !ps.loaded || match ps.tag? with
    | some tag =>
      match y.pack? tag with
      | some p => y.ridesOn tag p && t.placeIs r p.place
      | none => false
    | none => false

/-- Check 5: a loaded tier 2 stands over a loaded tier 1. -/
def Truck.tierHolds (t : Truck) (r : BedRef) (ps : BedPos) : Bool := !ps.loaded || t.tierOpen r

/-- Check 5. -/
def Yard.audit5 (y : Yard) : Option AuditItem :=
  y.trucks.entries.findSome? fun en =>
    en.2.positions.findSome? fun ps =>
      if y.positionHolds en.2 ps.1 ps.2 && en.2.tierHolds ps.1 ps.2 then none
      else some (.truckPos en.2.number ps.1)

/-- R59: the states in which a truck holds a lane. -/
def TruckState.holdsLane : TruckState → Bool
  | .shortWait => true
  | .loading => true
  | .paused => true
  | .loaded => true
  | .over => true
  | .unloading => true
  | _ => false

/-- Check 6: a lane record agrees with the truck table. -/
def Yard.laneHolds (y : Yard) (l : Nat) : Bool :=
  let r := y.lane l
  match r.state with
  | .free => r.holder.isNone
  | .closed => r.holder.isNone
  | _ =>
    match r.holder with
    | some n => decide ((y.truck? n).bind Truck.lane = some l)
    | none => false

/-- Check 6: a truck in a lane-holding state holds a lane, which names it back; any other holds none. -/
def Yard.truckLaneHolds (y : Yard) (t : Truck) : Bool :=
  if t.state.holdsLane then
    match t.lane with
    | some l => decide ((y.lane l).holder = some t.number)
    | none => false
  else t.lane.isNone

/-- Check 6. -/
def Yard.audit6 (y : Yard) : Option AuditItem :=
  match (List.range 6).find? fun l => !y.laneHolds l with
  | some l => some (.lane l)
  | none => (y.trucks.first? fun _ t => !y.truckLaneHolds t).map fun en => .truck en.2.number

/-- Check 7: every job's pack exists and names the job back; every pack's job names the pack. -/
def Yard.audit7 (y : Yard) : Option AuditItem :=
  match y.jobs.first? fun n j => !decide ((y.pack? j.tag).bind Pack.job = some n) with
  | some en => some (.job en.1)
  | none =>
    (y.packs.first? fun tag p =>
      match p.job with
      | some n => !decide ((y.job? n).map Job.tag = some tag)
      | none => false).map fun en => .tag en.1

/-- R172: the checks in order, with their numbers. -/
def Yard.audits (y : Yard) : List (Nat × Option AuditItem) :=
  [(1, y.audit1), (2, y.audit2), (3, y.audit3), (4, y.audit4), (5, y.audit5), (6, y.audit6),
    (7, y.audit7)]

/-- R172: the audit stops at the first failing check, and gives its number and item. -/
def Yard.audit (y : Yard) : AuditResult :=
  match y.audits.findSome? fun c => c.2.map fun i => (c.1, i) with
  | some (n, i) => .fails n i
  | none => .pass

/-- R173: RUN AUDIT. -/
def Part.runAudit (p : Part) : Part × Response :=
  if p.storeRefused then p.refuse .busy
  else (p, .ok (p.yard.audit.bytes ++ p.lastAudit.bytes))

/-! ### Step 1 to 4 of the restart (R171) -/

/-- R171 step 1: the volatile state is cleared, and RESTART is set. -/
def Part.clearVolatile (p : Part) : Part :=
  { p with
    yard :=
      ({ p.yard with
        claims := ⟨[]⟩
        queues := Vector.replicate 4 []
        loader := LoaderLink.initial
        events := 0#24 }).raise .restart
    weather := { p.weather with prescaleCount := 0 }
    weigh := WeighUnit.initial
    host := HostLink.initial p.host.baud
    flight := .nothing
    halt := false }

/-- R171 step 2: the working settings are loaded from a good store; from a bad one come the factory
defaults, trims of 1,000 and STORE_FAIL. DESIGN CHOICE (log entry 32): the packs keep their surface water
even where the cap so loaded is lower than the one held before; no clamp is made at a restart. -/
def Part.loadSettings (p : Part) : Part :=
  if p.store.good then { p with settings := p.store.settings }
  else ({ p with settings := Settings.factory, trims := factoryTrims }).raise .storeFail

/-- R171 step 3, R41: the trims when the retained tables are cleared. -/
def Part.clearedTrims (p : Part) : Vector Nat 8 :=
  if p.store.good then p.store.trims else factoryTrims

/-- R171: the retained tables are cleared. -/
def Part.clearTables (p : Part) : Part :=
  { p with
    yard :=
      { p.yard with
        stack := ⟨[]⟩
        claims := ⟨[]⟩
        packs := ⟨[]⟩
        trucks := ⟨[]⟩
        lanes := Vector.replicate 6 Lane.initial
        jobs := ⟨[]⟩ }
    trims := p.clearedTrims }

/-- R171 step 3: the latch is found set: the tables, the clock and the latch are cleared. -/
def Part.retainLost (p : Part) : Part :=
  ({ p.clearTables with
    clock := 0
    power := { p.power with latch := false }
    lastAudit := .notRun }).raise .retainLost

/-- R171 step 4: the audit runs; a failure clears the tables and keeps the clock. -/
def Part.restartAudit (p : Part) : Part :=
  match p.yard.audit with
  | .fails n i => ({ p.clearTables with lastAudit := .fails n i }).raise .auditFail
  | r => { p with lastAudit := r }

/-! ### Step 5: the fix-ups (R123) -/

/-- R123 step 1: a job in SENT or ACCEPTED goes back, as at a recall before lift. -/
def Act.fixSent (a : Act) (n : Nat) : Act :=
  match a.yard.job? n with
  | some j => if j.state = .sent ∨ j.state = .accepted then a.unsend n j else a
  | none => a

/-- R123 step 2: a job in LIFTED is lost, as at a recall after lift. -/
def Act.fixLifted (a : Act) (n : Nat) : Act :=
  match a.yard.job? n with
  | some j => if j.state = .lifted then a.lose n j else a
  | none => a

/-- R123 step 2: the end of unloading is tested for each UNLOADING truck. -/
def Act.testUnloading (a : Act) : Act :=
  ((a.yard.trucks.entries.map fun en => en.2.number)).foldl
    (fun a n => a.on fun y => y.testUnloaded n) a

/-- R123 steps 3 and 6: move numbers and bindings are made absent, and a job that was queued waits to
be judged afresh. -/
def Job.afterRestart (j : Job) : Job :=
  { j with
    bound := none
    move := none
    state := if j.state.judged then .waiting else j.state }

/-- R123 step 4, R56: a truck that was LOADING is PAUSED. -/
def Truck.afterRestart (t : Truck) : Truck :=
  { t with state := if t.state = .loading then .paused else t.state }

/-- R123 steps 3 and 4, over all jobs and trucks. -/
def Yard.pauseAll (y : Yard) : Yard :=
  { y with
    jobs := y.jobs.mapVal fun _ j => j.afterRestart
    trucks := y.trucks.mapVal fun _ t => t.afterRestart
    claims := ⟨[]⟩ }

/-- R123 steps 1 to 4. DESIGN CHOICE (log entry 39): steps 1 and 2 each take their jobs in job-number
order, so the packs that they free (R66) are offered in that order. -/
def Act.fixUps (a : Act) : Act :=
  let a := a.yard.jobs.keys.foldl Act.fixSent a
  let a := a.yard.jobs.keys.foldl Act.fixLifted a
  (a.testUnloading).on Yard.pauseAll

/-- R123 step 5: the clearance rule at every bay, and the pass over job needs. -/
def Act.fixNeeds (a : Act) : Act :=
  (({ a with bays := allBays }).clearDue).serveNeeds Config.maxJobs

/-- R171, R74: the stock waits already passed expire, one at a time, each taken whole with all that it
causes but a grant of the arbiter and the service of the queues, which end the restart. -/
def Yard.restartExpiries (e : Env) : Nat → Yard → Yard
  | 0, y => y
  | fuel + 1, y =>
    match y.expiredWait e.clock with
    | some n => Yard.restartExpiries e fuel ((y.act.endStockWait e n).settled e).yard
    | none => y

/-- R123: the fix-ups, with the zone queues rebuilt at step 6, and the offers of the packs they freed.
DESIGN CHOICE (log entry 39): the manual gives no place to the offers of the packs that steps 1 and 2 free
(R66, R83); they are made after step 6, and before the stock waits that have passed expire. -/
def Yard.fixedUp (e : Env) (y : Yard) : Yard :=
  ((((y.act.fixUps).fixNeeds).on (Yard.judgeAll e)).offers e).yard

/-- R123 and the end of R171: the fix-ups with the rebuilt queues, the expired stock waits, and the grants
of the arbiter. The order is the model's choice where log entries 29 and 39 say so. -/
def Yard.restarted (e : Env) (y : Yard) : Yard :=
  (((((y.fixedUp e).restartExpiries e Config.maxTrucks).act).grants e 6).yard).serveAll e

/-! ### The restart sequence (R171) -/

/-- R171: the levels taken at the end of the sequence, with HALT_ON when HALT is asserted, and the
drying deadline set afresh. -/
def Part.takePins (p : Part) (pins : Pins) : Part :=
  let p := { p with
    host := HostLink.initial (pins.baud % 4)
    weather :=
      { p.weather with
        rainLevel := pins.rain
        deadline := dryingFrom p.settings.weather p.clock }
    halt := pins.halt }
  if pins.halt then p.raise .haltOn else p

/-- R171: the restart sequence, taken whole. -/
def Part.restart (p : Part) (pins : Pins) : Part :=
  let p := (p.clearVolatile).loadSettings
  let p := if p.power.latch then p.retainLost else p.restartAudit
  (p.takePins pins).onYard Yard.restarted

/-! ### Supplies and RESET (R170, R171) -/

/-- R171: VDD reaches its working level; the restart sequence runs unless RESET is asserted. -/
def Part.powerOn (p : Part) (pins : Pins) : Part :=
  if p.power.vdd then p
  else
    let p := { p with power := { p.power with vdd := true } }
    if p.power.resetPin then p else p.restart pins

/-- R170, R166: VDD is lost; a store in flight ends with no event. -/
def Part.powerFail (p : Part) : Part :=
  { p with power := { p.power with vdd := false }, flight := .nothing }

/-- R170: VBAT falls below the retention level while VDD is absent. -/
def Part.latchSet (p : Part) : Part :=
  if p.power.vdd then p else { p with power := { p.power with latch := true } }

/-- R171, R166: the RESET pin is asserted; a store in flight ends with no event. -/
def Part.resetAsserted (p : Part) : Part :=
  { p with power := { p.power with resetPin := true }, flight := .nothing }

/-- R171: the RESET pin is released; the restart sequence runs while VDD is present. -/
def Part.resetReleased (p : Part) (pins : Pins) : Part :=
  if p.power.resetPin then
    let p := { p with power := { p.power with resetPin := false } }
    if p.power.vdd then p.restart pins else p
  else p

end Sys2Proof.Machine
end

