-- ==== Sys2Proof/Machine/HostLink.lean ====
section
/-! DEFINITION. The host link controller (chapter 10): the requests carried out, frames taken, replies, and the receiver. -/

namespace Sys2Proof.Machine

/-! ### Status requests (R161, R164) -/

/-- R164: READ EVENTS: the flags read are cleared; TEXT_WAITING is set again while text waits. -/
def Part.readEvents (p : Part) : Part × Response :=
  let cleared := { p with yard := { p.yard with events := 0#24 } }
  (if p.yard.loader.texts.isEmpty then cleared else cleared.raise .textWaiting,
    .ok (flagsBytes p.yard.events ++ flagsBytes p.settings.mask))

/-- R161: RESTART: from its taking no further frame is taken. -/
def Part.takeRestart (p : Part) : Part × Response :=
  ({ p with host := { p.host with closing := true } }, .ok [])

/-! ### A request is carried out (R159) -/

/-- R159 checks 4 and 5 and the effect of each request, with what its reply buffer gets. -/
def Part.perform (p : Part) : Request → Part × Response
  | .setWindow a => p.setWindow a
  | .setZoning a => p.setZoning a
  | .setSpecies sp d t => p.setSpecies sp d t
  | .setWeather a => p.setWeatherRequest a
  | .setPlanning a => p.setPlanning a
  | .setLoaderLink t r i => p.setLoaderLink t r i
  | .setWeighing a => p.setWeighing a
  | .setEventMask m => p.setEventMask m
  | .readSettings => p.readSettings
  | .storeSettings => p.storeSettings
  | .recallSettings => p.recallSettings
  | .setClock c => p.setClock c
  | .readClock => p.readClock
  | .identify => p.identify
  | .registerPack a => p.registerPack a
  | .removePack t => p.removePack t
  | .holdPack t => p.holdPack t
  | .releasePack t => p.releasePack t
  | .locatePack t f b => p.locatePack t f b
  | .readPack t => p.readPack t
  | .readBay b => p.readBay b
  | .announceTruck a => p.announceTruck a
  | .cancelTruck n => p.cancelTruck n
  | .pauseTruck n => p.pauseTruck n
  | .resumeTruck n => p.resumeTruck n
  | .departTruck n => p.departTruck n
  | .readTruck n k => p.readTruck n k
  | .listTrucks => p.listTrucks
  | .openLane l => p.openLane l
  | .closeLane l => p.closeLane l
  | .readLanes => p.readLanes
  | .enrollLoader t c s => p.enrollLoader t c s
  | .retireLoader t => p.retireLoader t
  | .readLoader t => p.readLoader t
  | .readText => p.readText
  | .weighIn n => p.weighIn n
  | .weighOut n => p.weighOut n
  | .abortWeighing => p.abortWeighing
  | .readWeighbridge => p.readWeighbridge
  | .readEvents => p.readEvents
  | .runAudit => p.runAudit
  | .restart => p.takeRestart

/-! ### Buffers and replies (R158 to R161) -/

/-- A ready or leaving reply that a reply buffer holds. -/
def ReadyReply.inBuffer (r : ReadyReply) : Bool := !decide (r.holder = .refusal)

/-- R160: the reply buffers that are occupied. -/
def HostLink.occupied (h : HostLink) : Nat :=
  h.awaiting.length + (h.ready.filter ReadyReply.inBuffer).length
    + (h.leaving.toList.filter ReadyReply.inBuffer).length

/-- R158: the refusal slot is empty. -/
def HostLink.slotEmpty (h : HostLink) : Bool :=
  h.ready.all ReadyReply.inBuffer && h.leaving.all ReadyReply.inBuffer

/-- R159, R161: a frame can be taken: a reply buffer is free, and no RESTART has been taken. -/
def HostLink.canTake (h : HostLink) : Bool := decide (h.occupied < 2) && !h.closing

/-- R160: a reply becomes ready. -/
def HostLink.putReady (h : HostLink) (r : ReadyReply) : HostLink := { h with ready := h.ready ++ [r] }

/-- R155: the KIND of the reply to a request kind. DESIGN CHOICE (log entry 37): the sum is modulo 256, so
the reply to a KIND of 0x80 to 0xFF (UNKNOWN_KIND or FULL) has a KIND of 0x00 to 0x7F. -/
def replyKind (kind : Byte) : Byte := kind + 0x80#8

/-- R161: the RESTART reply is held as such; any other reply in a plain reply buffer. -/
def holderOf (kind : Byte) (r : Result) : Holder :=
  if kind = 0x2E#8 ∧ r = .ok then .restart else .buffer

/-- R160: the reply buffer of a taken request gets its reply, or waits for it. -/
def HostLink.respond (h : HostLink) (kind seq : Byte) (check : Bool) : Response → HostLink
  | .reply r body =>
    h.putReady
      { reply := { kind := replyKind kind, seq := seq, result := r, body := body, check := check }
        holder := holderOf kind r }
  | .awaitEnroll t =>
    { h with awaiting := h.awaiting ++ [{ kind := kind, seq := seq, check := check, what := .enroll t }] }
  | .awaitRecall k =>
    { h with awaiting := h.awaiting ++ [{ kind := kind, seq := seq, check := check, what := .recall k }] }

/-- The outcome of a taken request goes to its reply buffer. -/
def Part.answer (r : Part × Response) (kind seq : Byte) (check : Bool) : Part :=
  { r.1 with host := r.1.host.respond kind seq check r.2 }

/-- R157: a frame carries a CHECK that differs from the CRC over it. -/
def Frame.checkFails (f : Frame) : Bool :=
  match f.check with
  | some c => c != crc f.covered
  | none => false

/-- R159: the checks of a frame in order, and the request carried out when all pass. -/
def Part.judgeFrame (p : Part) (f : Frame) : Part × Response :=
  if f.checkFails then p.refuse .checkFail
  else match decodeRequest f.kind.toNat f.body with
    | .unknownKind => p.refuse .unknownKind
    | .badLength => p.refuse .badLength
    | .request r => if f.flags &&& 0xFE#8 = 0#8 then p.perform r else p.refuse .badValue

/-- R159: a frame is taken: judged whole, and its reply buffer filled. -/
def Part.takeFrame (p : Part) (f : Frame) : Part :=
  Part.answer (p.judgeFrame f) f.kind f.seq (f.flags.getLsbD 0)

/-- R159: the oldest frames are taken while a reply buffer is free. -/
def Part.takeFrames : Nat → Part → Part
  | 0, p => p
  | fuel + 1, p =>
    match p.host.inbound with
    | [] => p
    | f :: rest =>
      if p.host.canTake then
        Part.takeFrames fuel
          (({ p with host := { p.host with inbound := rest } }).takeFrame f)
      else p

/-- R158: the FULL reply that a frame gets in the refusal slot. -/
def fullReply (f : Frame) : ReadyReply where
  reply :=
    { kind := replyKind f.kind, seq := f.seq, result := .full, body := [],
      check := f.flags.getLsbD 0 }
  holder := .refusal

/-- R158: a complete frame is stored in a free inbound buffer, answered FULL, or discarded with
LINK_ERROR; a stored frame is taken as soon as a reply buffer is free. -/
def Part.frameArrives (p : Part) (f : Frame) : Part :=
  if p.host.inbound.length < 2 then
    Part.takeFrames 2 { p with host := { p.host with inbound := p.host.inbound ++ [f] } }
  else if p.host.slotEmpty then { p with host := p.host.putReady (fullReply f) }
  else p.raise .linkError

/-- A request frame of the host completes. With a reply buffer free and no frame before it, it is
taken at once; otherwise it waits as R158 gives (log entry 5). DESIGN CHOICE (log entry 36): the row brings
its frame whole, so the receiver of R156, IN FRAME or not, keeps its state and the bytes it collected. -/
def Part.request (p : Part) (h : Header) (r : Request) : Part :=
  if !p.running then p
  else if p.host.canTake && p.host.inbound.isEmpty then
    Part.answer (p.perform r) (byte (requestKind r)) h.seq h.check
  else p.frameArrives (frameOf h r)

/-- A frame of any KIND completes (R159); the receiver keeps its state (log entry 36). -/
def Part.anyFrame (p : Part) (f : Frame) : Part := if p.running then p.frameArrives f else p

/-! ### The receiver (R156) -/

/-- R156: a frame ends early: its bytes are discarded and LINK_ERROR is set. -/
def Part.cutFrame (p : Part) : Part :=
  ({ p with host := { p.host with receiver := .hunting } }).raise .linkError

/-- R156: the frame collected is complete. -/
def Part.frameEnds (p : Part) (bytes : List Byte) : Part :=
  let p := { p with host := { p.host with receiver := .hunting } }
  match frameIn bytes with
  | some f => p.frameArrives f
  | none => p

/-- R156: whether the bytes collected are LEN alone, above 120. -/
def lenTooLong : List Byte → Bool
  | [len] => decide (120 < len.toNat)
  | _ => false

/-- R156: the receiver takes one byte. -/
def Part.hostByte (p : Part) (b : Byte) (stopError : Bool) : Part :=
  match p.host.receiver with
  | .hunting =>
    if b = 0xC3#8 ∧ ¬ stopError then { p with host := { p.host with receiver := .inFrame [] } }
    else p
  | .inFrame bytes =>
    if stopError ∨ lenTooLong (bytes ++ [b]) then p.cutFrame
    else if frameWhole (bytes ++ [b]) then p.frameEnds (bytes ++ [b])
    else { p with host := { p.host with receiver := .inFrame (bytes ++ [b]) } }

/-- The receiver takes bytes in their order, the last one with a stop-bit error or without. -/
def Part.hostBytes (p : Part) (stopError : Bool) : List Byte → Part
  | [] => p
  | [b] => p.hostByte b stopError
  | b :: c :: rest => (p.hostByte b false).hostBytes stopError (c :: rest)

/-- R156: a gap of more than 20 ms, and the byte that ends it: a frame ends early, and the byte is
judged afresh in HUNTING. -/
def Part.hostGap (p : Part) (b : Byte) (stopError : Bool) : Part :=
  match p.host.receiver with
  | .hunting => p.hostByte b stopError
  | .inFrame _ => p.cutFrame.hostByte b stopError

/-! ### Replies leave (R160, R161) -/

/-- R160: HRDY is sampled, and while it is high the oldest ready reply begins to leave. DESIGN CHOICE (log
entry 35): once the RESTART reply has left no other reply begins to leave, a FULL reply in the refusal
slot included. -/
def HostLink.start (h : HostLink) (hrdy : Bool) : HostLink :=
  let h := { h with hrdy := hrdy }
  match h.leaving, h.ready with
  | none, r :: rest =>
    if hrdy ∧ ¬ h.restartDue then { h with leaving := some r, ready := rest } else h
  | _, _ => h

/-- R160, R161: the last byte of a reply has left: its buffer is freed, and after the RESTART reply the
restart sequence is due. -/
def HostLink.sent (h : HostLink) (r : ReadyReply) : HostLink :=
  { h with leaving := none, restartDue := h.restartDue || decide (r.holder = .restart) }

/-- R160: a reply has left, and the next frames are taken. -/
def Part.replySent (p : Part) : Part :=
  match p.host.leaving with
  | some r => Part.takeFrames 2 { p with host := p.host.sent r }
  | none => p

/-! ### The ends of a recall and the restart that follows a RESTART reply -/

/-- R167: a recall ends: its reply becomes ready with the kept bits, and every zone queue is served. -/
def HostLink.recallOver (h : HostLink) : HostLink :=
  match h.awaiting.findSome? fun a =>
    match a.what with
    | .recall k => some k
    | .enroll _ => none with
  | some k => h.waitOver (.recall k) [k]
  | none => h

/-- R167: RECALL_END. -/
def Part.recallEnds (p : Part) : Part :=
  match p.flight with
  | .recall => ({ p with flight := .nothing, host := p.host.recallOver }).serve
  | _ => p

/-- R161, R166: the restart sequence begins: the RESTART reply has left and no store is in flight. -/
def Part.restartReady (p : Part) : Bool :=
  p.running && p.host.restartDue && match p.flight with
    | .store .. => false
    | _ => true

end Sys2Proof.Machine
end

