-- ==== Sys2Proof/Machine/Requests.lean ====
section
/-! DEFINITION. The meanings of the 42 host requests and of a frame of unknown KIND, one definition a command. -/

namespace Sys2Proof.Machine

/-- A command that ends in a next state: its effect on the part, with the queue of commands as it was. -/
def State.onPart (s : State) (f : Part → Part) : Host.Outcome State Fault Refusal :=
  .next { s with part := f s.part }

/-- A host request arrives at the part (R155 to R159; log entry 5). -/
def State.request (s : State) (h : Header) (r : Request) : Host.Outcome State Fault Refusal :=
  s.onPart fun p => p.request h r

/-- SET WINDOW (R12). -/
def execSetWindow (h : Header) (a : WindowArgs) (s : State) :
    Host.Outcome State Fault Refusal := s.request h (.setWindow a)

/-- SET ZONING (R16). -/
def execSetZoning (h : Header) (a : ZoningArgs) (s : State) :
    Host.Outcome State Fault Refusal := s.request h (.setZoning a)

/-- SET SPECIES (R42). -/
def execSetSpecies (h : Header) (species density trim : Nat) (s : State) :
    Host.Outcome State Fault Refusal := s.request h (.setSpecies species density trim)

/-- SET WEATHER (R46). -/
def execSetWeather (h : Header) (a : WeatherArgs) (s : State) :
    Host.Outcome State Fault Refusal := s.request h (.setWeather a)

/-- SET PLANNING (R75). -/
def execSetPlanning (h : Header) (a : PlanningArgs) (s : State) :
    Host.Outcome State Fault Refusal := s.request h (.setPlanning a)

/-- SET LOADER LINK (R125). -/
def execSetLoaderLink (h : Header) (timeout retry probe : Nat) (s : State) :
    Host.Outcome State Fault Refusal := s.request h (.setLoaderLink timeout retry probe)

/-- SET WEIGHING (R145). -/
def execSetWeighing (h : Header) (a : WeighingArgs) (s : State) :
    Host.Outcome State Fault Refusal := s.request h (.setWeighing a)

/-- SET EVENT MASK (R165). -/
def execSetEventMask (h : Header) (mask : Nat) (s : State) :
    Host.Outcome State Fault Refusal := s.request h (.setEventMask mask)

/-- READ SETTINGS (R168). -/
def execReadSettings (h : Header) (s : State) :
    Host.Outcome State Fault Refusal := s.request h .readSettings

/-- STORE SETTINGS (R166). -/
def execStoreSettings (h : Header) (s : State) :
    Host.Outcome State Fault Refusal := s.request h .storeSettings

/-- RECALL SETTINGS (R167). -/
def execRecallSettings (h : Header) (s : State) :
    Host.Outcome State Fault Refusal := s.request h .recallSettings

/-- SET CLOCK (R169). -/
def execSetClock (h : Header) (clock : Nat) (s : State) :
    Host.Outcome State Fault Refusal := s.request h (.setClock clock)

/-- READ CLOCK (R169). -/
def execReadClock (h : Header) (s : State) :
    Host.Outcome State Fault Refusal := s.request h .readClock

/-- IDENTIFY (R168). -/
def execIdentify (h : Header) (s : State) :
    Host.Outcome State Fault Refusal := s.request h .identify

/-- REGISTER PACK (R24, R25). -/
def execRegisterPack (h : Header) (a : PackArgs) (s : State) :
    Host.Outcome State Fault Refusal := s.request h (.registerPack a)

/-- REMOVE PACK (R29, R30). -/
def execRemovePack (h : Header) (tag : Nat) (s : State) :
    Host.Outcome State Fault Refusal := s.request h (.removePack tag)

/-- HOLD PACK (R26, R27). -/
def execHoldPack (h : Header) (tag : Nat) (s : State) :
    Host.Outcome State Fault Refusal := s.request h (.holdPack tag)

/-- RELEASE PACK (R28). -/
def execReleasePack (h : Header) (tag : Nat) (s : State) :
    Host.Outcome State Fault Refusal := s.request h (.releasePack tag)

/-- LOCATE PACK (R32 to R35). -/
def execLocatePack (h : Header) (tag finding bay : Nat) (s : State) :
    Host.Outcome State Fault Refusal := s.request h (.locatePack tag finding bay)

/-- READ PACK (R36). -/
def execReadPack (h : Header) (tag : Nat) (s : State) :
    Host.Outcome State Fault Refusal := s.request h (.readPack tag)

/-- READ BAY (R37). -/
def execReadBay (h : Header) (bay : Nat) (s : State) :
    Host.Outcome State Fault Refusal := s.request h (.readBay bay)

/-- ANNOUNCE TRUCK (R60). -/
def execAnnounceTruck (h : Header) (a : TruckArgs) (s : State) :
    Host.Outcome State Fault Refusal := s.request h (.announceTruck a)

/-- CANCEL TRUCK (R64, R65). -/
def execCancelTruck (h : Header) (number : Nat) (s : State) :
    Host.Outcome State Fault Refusal := s.request h (.cancelTruck number)

/-- PAUSE TRUCK (R62). -/
def execPauseTruck (h : Header) (number : Nat) (s : State) :
    Host.Outcome State Fault Refusal := s.request h (.pauseTruck number)

/-- RESUME TRUCK (R63). -/
def execResumeTruck (h : Header) (number : Nat) (s : State) :
    Host.Outcome State Fault Refusal := s.request h (.resumeTruck number)

/-- DEPART TRUCK (R68). -/
def execDepartTruck (h : Header) (number : Nat) (s : State) :
    Host.Outcome State Fault Refusal := s.request h (.departTruck number)

/-- READ TRUCK (R69). -/
def execReadTruck (h : Header) (number part : Nat) (s : State) :
    Host.Outcome State Fault Refusal := s.request h (.readTruck number part)

/-- LIST TRUCKS (R69). -/
def execListTrucks (h : Header) (s : State) :
    Host.Outcome State Fault Refusal := s.request h .listTrucks

/-- OPEN LANE (R71). -/
def execOpenLane (h : Header) (lane : Nat) (s : State) :
    Host.Outcome State Fault Refusal := s.request h (.openLane lane)

/-- CLOSE LANE (R71). -/
def execCloseLane (h : Header) (lane : Nat) (s : State) :
    Host.Outcome State Fault Refusal := s.request h (.closeLane lane)

/-- READ LANES (R71). -/
def execReadLanes (h : Header) (s : State) :
    Host.Outcome State Fault Refusal := s.request h .readLanes

/-- ENROLL LOADER (R126). -/
def execEnrollLoader (h : Header) (terminal credit silence : Nat) (s : State) :
    Host.Outcome State Fault Refusal := s.request h (.enrollLoader terminal credit silence)

/-- RETIRE LOADER (R127). -/
def execRetireLoader (h : Header) (terminal : Nat) (s : State) :
    Host.Outcome State Fault Refusal := s.request h (.retireLoader terminal)

/-- READ LOADER (R142). -/
def execReadLoader (h : Header) (terminal : Nat) (s : State) :
    Host.Outcome State Fault Refusal := s.request h (.readLoader terminal)

/-- READ TEXT (R141). -/
def execReadText (h : Header) (s : State) :
    Host.Outcome State Fault Refusal := s.request h .readText

/-- WEIGH IN (R146). -/
def execWeighIn (h : Header) (number : Nat) (s : State) :
    Host.Outcome State Fault Refusal := s.request h (.weighIn number)

/-- WEIGH OUT (R146). -/
def execWeighOut (h : Header) (number : Nat) (s : State) :
    Host.Outcome State Fault Refusal := s.request h (.weighOut number)

/-- ABORT WEIGHING (R148). -/
def execAbortWeighing (h : Header) (s : State) :
    Host.Outcome State Fault Refusal := s.request h .abortWeighing

/-- READ WEIGHBRIDGE (R154). -/
def execReadWeighbridge (h : Header) (s : State) :
    Host.Outcome State Fault Refusal := s.request h .readWeighbridge

/-- READ EVENTS (R164). -/
def execReadEvents (h : Header) (s : State) :
    Host.Outcome State Fault Refusal := s.request h .readEvents

/-- RUN AUDIT (R173). -/
def execRunAudit (h : Header) (s : State) :
    Host.Outcome State Fault Refusal := s.request h .runAudit

/-- RESTART (R161). -/
def execRestart (h : Header) (s : State) :
    Host.Outcome State Fault Refusal := s.request h .restart

/-- A request frame whose KIND names no request (R159): it is refused UNKNOWN_KIND as it is taken. -/
def execUnknownKind (h : Header) (kind : Byte) (body : List Byte) (s : State) :
    Host.Outcome State Fault Refusal := s.onPart fun p => p.anyFrame (frameWith h kind body)

end Sys2Proof.Machine
end

