-- ==== Sys2Proof/Machine/Arrivals.lean ====
section
/-! DEFINITION. The meanings of the arrivals and of the part's own steps: host link, supplies, time, weather, weighbridge line and loader link. -/

namespace Sys2Proof.Machine

/-- A step of the part that it takes only while it runs: VDD present and RESET released (R171). -/
def Part.whileRunning (p : Part) (f : Part → Part) : Part := if p.running then f p else p

/-- An arrival that the part takes only while it runs. -/
def State.whileRunning (s : State) (f : Part → Part) : Host.Outcome State Fault Refusal :=
  s.onPart fun p => p.whileRunning f

/-- A step that is taken only while its occasion holds; otherwise nothing changes (log entry 1). -/
def State.ifThen (s : State) (test : Part → Bool) (f : Part → Part) :
    Host.Outcome State Fault Refusal :=
  s.whileRunning fun p => if test p then f p else p

/-- An answer arrives on the loader link (R129, R132). Clear, it is taken as its terminal sent it, unless
its fields are out of range; changed on the line, the characters that arrive decide (R179). -/
def State.answered (s : State) (line : AnswerLine) (a : Option Answer) :
    Host.Outcome State Fault Refusal :=
  match line, a with
  | .clear terminal, some a =>
    s.ifThen (fun _ => decide (terminal ≤ 7) && a.wf) fun p => p.answered terminal a
  | .clear _, none => .next s
  | .changed chars, _ => s.whileRunning fun p => p.charsArrive chars

/-! ### The host link (R155 to R161) -/

/-- HOST FRAME BEGIN (R156): the lead byte 0xC3 arrives without a stop-bit error. -/
def execHostFrameBegin (s : State) : Host.Outcome State Fault Refusal :=
  s.whileRunning fun p => p.hostByte 0xC3#8 false

/-- HOST FRAME COMPLETE (R156, R158): the bytes after the lead byte arrive, the last one ending the frame. -/
def execHostFrameComplete (rest : List Byte) (s : State) : Host.Outcome State Fault Refusal :=
  s.whileRunning fun p => p.hostBytes false rest

/-- HOST FRAME CUT SHORT (R156): bytes after the lead byte arrive, the last one a LEN above 120 or with a
stop-bit error. -/
def execHostFrameCutShort (rest : List Byte) (stopError : Bool) (s : State) : Host.Outcome State Fault Refusal :=
  s.whileRunning fun p => p.hostBytes stopError rest

/-- HOST FRAME GAP (R156): more than 20 ms pass between two bytes of a frame, and a byte ends the gap. -/
def execHostFrameGap (byte : Byte) (stopError : Bool) (s : State) : Host.Outcome State Fault Refusal :=
  s.whileRunning fun p => p.hostGap byte stopError

/-- REPLY START (R160): HRDY is sampled before the lead byte of a reply. -/
def execReplyStart (hrdy : Bool) (s : State) : Host.Outcome State Fault Refusal :=
  s.whileRunning fun p => { p with host := p.host.start hrdy }

/-- REPLY SENT (R160, R161): the last byte of the leaving reply has left. -/
def execReplySent (s : State) : Host.Outcome State Fault Refusal :=
  s.whileRunning Part.replySent

/-! ### Supplies, RESET and the store (R166, R167, R170, R171) -/

/-- POWER ON (R171): VDD reaches its working level. -/
def execPowerOn (pins : Pins) (s : State) : Host.Outcome State Fault Refusal :=
  s.onPart fun p => p.powerOn pins

/-- POWER FAIL (R170): VDD is lost. -/
def execPowerFail (s : State) : Host.Outcome State Fault Refusal :=
  s.onPart Part.powerFail

/-- RETENTION LATCH SET (R170): VBAT falls below the retention level while VDD is absent. -/
def execRetentionLatchSet (s : State) : Host.Outcome State Fault Refusal :=
  s.onPart Part.latchSet

/-- RESET ASSERT (R171): the RESET pin is asserted. -/
def execResetAssert (s : State) : Host.Outcome State Fault Refusal :=
  s.onPart Part.resetAsserted

/-- RESET RELEASE (R171): the RESET pin is released. -/
def execResetRelease (pins : Pins) (s : State) : Host.Outcome State Fault Refusal :=
  s.onPart fun p => p.resetReleased pins

/-- RESTART SEQUENCE (R161, R171): the sequence that follows a RESTART reply begins. -/
def execRestartSequence (pins : Pins) (s : State) : Host.Outcome State Fault Refusal :=
  s.ifThen Part.restartReady fun p => p.restart pins

/-- STORE END (R166): the write and its read-back finish. -/
def execStoreEnd (agrees : Bool) (s : State) : Host.Outcome State Fault Refusal :=
  s.whileRunning fun p => p.storeEnds agrees

/-- RECALL END (R167): the reply of a recall is ready, and the recall ends. -/
def execRecallEnd (s : State) : Host.Outcome State Fault Refusal :=
  s.whileRunning Part.recallEnds

/-! ### The clock and its deadlines (R52, R86, R147, R169) -/

/-- CLOCK TICK (R169): the yard clock rises by one second, under either supply. -/
def execClockTick (s : State) : Host.Outcome State Fault Refusal :=
  s.onPart fun p => { p with clock := tick p.clock }

/-- DRYING EXPIRY (R52, R53): the drying deadline has been reached or passed. -/
def execDryingExpiry (s : State) : Host.Outcome State Fault Refusal :=
  s.ifThen (fun p => due p.clock p.weather.deadline) Part.dryingExpiry

/-- STOCK WAIT EXPIRY (R74, R86): the first stock-wait deadline that has been reached or passed expires. -/
def execStockWaitExpiry (s : State) : Host.Outcome State Fault Refusal :=
  s.whileRunning fun p =>
      match p.yard.expiredWait p.clock with
      | some n => p.stockExpiry n
      | none => p

/-- WEIGH DEADLINE EXPIRY (R147): the deadline of the armed weighing has been reached or passed. -/
def execWeighDeadlineExpiry (s : State) : Host.Outcome State Fault Refusal :=
  s.ifThen (fun p => due p.clock (p.weigh.arming.map Arming.deadline)) Part.weighExpiry

/-! ### RAIN and HALT (R47 to R49, R140) -/

/-- RAIN PULSE (R47, R48): an edge of the selected kind. -/
def execRainPulse (s : State) : Host.Outcome State Fault Refusal :=
  s.ifThen Part.pulseComes Part.rainPulse

/-- RAIN STEP (R48, R49): an edge of the selected kind with which the prescale count reaches the prescale. -/
def execRainStep (s : State) : Host.Outcome State Fault Refusal :=
  s.ifThen (fun p =>
      p.pulseComes && decide (p.settings.weather.prescale ≤ p.weather.prescaleCount + 1)) Part.rainPulse

/-- RAIN OTHER EDGE (R47): an edge of the kind that is not selected. -/
def execRainOtherEdge (s : State) : Host.Outcome State Fault Refusal :=
  s.ifThen (fun p => p.weather.rainLevel == p.settings.weather.edge.target) Part.rainOtherEdge

/-- HALT ASSERT (R140): HALT changes to its asserted level. -/
def execHaltAssert (s : State) : Host.Outcome State Fault Refusal :=
  s.ifThen (fun p => !p.halt) Part.haltOn

/-- HALT RELEASE (R140, R120): HALT changes to its released level. -/
def execHaltRelease (s : State) : Host.Outcome State Fault Refusal :=
  s.ifThen (fun p => p.halt) Part.haltOff

/-! ### The weighbridge line (R143, R144) -/

/-- WEIGH RECORD BEGIN (R143): a character arrives that begins a record in HUNTING. -/
def execWeighRecordBegin (digit : LineChar) (s : State) : Host.Outcome State Fault Refusal :=
  s.whileRunning fun p => p.lineChar digit

/-- WEIGH RECORD (R143, R144): characters of a record arrive, the last one its end character. -/
def execWeighRecord (chars : List LineChar) (s : State) : Host.Outcome State Fault Refusal :=
  s.whileRunning fun p => p.lineChars chars

/-- WEIGH DISCARD (R143): characters of a record arrive that end it as a discard. -/
def execWeighDiscard (chars : List LineChar) (s : State) : Host.Outcome State Fault Refusal :=
  s.whileRunning fun p => p.lineChars chars

/-! ### The loader link (R126 to R141) -/

/-- LOADER TURN (R128): the next turn of an ACTIVE terminal. -/
def execLoaderTurn (s : State) : Host.Outcome State Fault Refusal :=
  s.whileRunning Part.loaderTurn

/-- PROBE (R131): the next turn, of a SILENT terminal whose probe time has come. -/
def execProbe (s : State) : Host.Outcome State Fault Refusal :=
  s.whileRunning Part.probeTurn

/-- CLEAR ALL EXCHANGE (R126): the first pending CLEAR ALL exchange begins. -/
def execClearAllExchange (s : State) : Host.Outcome State Fault Refusal :=
  s.whileRunning Part.clearAllBegins

/-- ANSWER TIMEOUT (R129 to R131): no well-formed answer came within the answer timeout. -/
def execAnswerTimeout (s : State) : Host.Outcome State Fault Refusal :=
  s.whileRunning Part.answerTimeout

/-- IDLE (R132). -/
def execIdle (line : AnswerLine) (s : State) : Host.Outcome State Fault Refusal :=
  s.answered line (some .idle)

/-- ACCEPT (R133). -/
def execAccept (line : AnswerLine) (move : Nat) (s : State) : Host.Outcome State Fault Refusal :=
  s.answered line (some (.accept move))

/-- LIFTED (R134). -/
def execLifted (line : AnswerLine) (move : Nat) (s : State) : Host.Outcome State Fault Refusal :=
  s.answered line (some (.lifted move))

/-- DONE (R135, R136). -/
def execDone (line : AnswerLine) (move : Nat) (tag moisture : Option Nat) (s : State) :
    Host.Outcome State Fault Refusal :=
  s.answered line (some (.done move tag moisture))

/-- FAULT (R137); a reason outside 1 to 4 is garbled (R179). -/
def execFault (line : AnswerLine) (move reason : Nat) (s : State) : Host.Outcome State Fault Refusal :=
  s.answered line ((FaultReason.ofCode? reason).map fun r => .fault move r)

/-- WITHDRAWN (R139, R66). -/
def execWithdrawn (line : AnswerLine) (move : Nat) (s : State) : Host.Outcome State Fault Refusal :=
  s.answered line (some (.withdrawn move))

/-- TOO LATE (R139). -/
def execTooLate (line : AnswerLine) (move : Nat) (s : State) : Host.Outcome State Fault Refusal :=
  s.answered line (some (.tooLate move))

/-- TEXT (R141). -/
def execText (line : AnswerLine) (chars : List Byte) (s : State) : Host.Outcome State Fault Refusal :=
  s.answered line (some (.text chars))

end Sys2Proof.Machine
end

