-- ==== Sys2Proof/Machine/Dispatch.lean ====
section
/-! DEFINITION. The dispatch: one arm for each command, each one direct call of its meaning. -/

namespace Sys2Proof.Machine

def exec (i : Instr) (s : State) : Host.Outcome State Fault Refusal :=
  match i with
  | .setWindow h a => Sys2Proof.Machine.execSetWindow h a s
  | .setZoning h a => Sys2Proof.Machine.execSetZoning h a s
  | .setSpecies h species density trim => Sys2Proof.Machine.execSetSpecies h species density trim s
  | .setWeather h a => Sys2Proof.Machine.execSetWeather h a s
  | .setPlanning h a => Sys2Proof.Machine.execSetPlanning h a s
  | .setLoaderLink h timeout retry probe => Sys2Proof.Machine.execSetLoaderLink h timeout retry probe s
  | .setWeighing h a => Sys2Proof.Machine.execSetWeighing h a s
  | .setEventMask h mask => Sys2Proof.Machine.execSetEventMask h mask s
  | .readSettings h => Sys2Proof.Machine.execReadSettings h s
  | .storeSettings h => Sys2Proof.Machine.execStoreSettings h s
  | .recallSettings h => Sys2Proof.Machine.execRecallSettings h s
  | .setClock h clock => Sys2Proof.Machine.execSetClock h clock s
  | .readClock h => Sys2Proof.Machine.execReadClock h s
  | .identify h => Sys2Proof.Machine.execIdentify h s
  | .registerPack h a => Sys2Proof.Machine.execRegisterPack h a s
  | .removePack h tag => Sys2Proof.Machine.execRemovePack h tag s
  | .holdPack h tag => Sys2Proof.Machine.execHoldPack h tag s
  | .releasePack h tag => Sys2Proof.Machine.execReleasePack h tag s
  | .locatePack h tag finding bay => Sys2Proof.Machine.execLocatePack h tag finding bay s
  | .readPack h tag => Sys2Proof.Machine.execReadPack h tag s
  | .readBay h bay => Sys2Proof.Machine.execReadBay h bay s
  | .announceTruck h a => Sys2Proof.Machine.execAnnounceTruck h a s
  | .cancelTruck h number => Sys2Proof.Machine.execCancelTruck h number s
  | .pauseTruck h number => Sys2Proof.Machine.execPauseTruck h number s
  | .resumeTruck h number => Sys2Proof.Machine.execResumeTruck h number s
  | .departTruck h number => Sys2Proof.Machine.execDepartTruck h number s
  | .readTruck h number part => Sys2Proof.Machine.execReadTruck h number part s
  | .listTrucks h => Sys2Proof.Machine.execListTrucks h s
  | .openLane h lane => Sys2Proof.Machine.execOpenLane h lane s
  | .closeLane h lane => Sys2Proof.Machine.execCloseLane h lane s
  | .readLanes h => Sys2Proof.Machine.execReadLanes h s
  | .enrollLoader h terminal credit silence => Sys2Proof.Machine.execEnrollLoader h terminal credit silence s
  | .retireLoader h terminal => Sys2Proof.Machine.execRetireLoader h terminal s
  | .readLoader h terminal => Sys2Proof.Machine.execReadLoader h terminal s
  | .readText h => Sys2Proof.Machine.execReadText h s
  | .weighIn h number => Sys2Proof.Machine.execWeighIn h number s
  | .weighOut h number => Sys2Proof.Machine.execWeighOut h number s
  | .abortWeighing h => Sys2Proof.Machine.execAbortWeighing h s
  | .readWeighbridge h => Sys2Proof.Machine.execReadWeighbridge h s
  | .readEvents h => Sys2Proof.Machine.execReadEvents h s
  | .runAudit h => Sys2Proof.Machine.execRunAudit h s
  | .restart h => Sys2Proof.Machine.execRestart h s
  | .unknownKind h kind body => Sys2Proof.Machine.execUnknownKind h kind body s
  | .hostFrameComplete rest => Sys2Proof.Machine.execHostFrameComplete rest s
  | .hostFrameCutShort rest stopError => Sys2Proof.Machine.execHostFrameCutShort rest stopError s
  | .hostFrameGap byte stopError => Sys2Proof.Machine.execHostFrameGap byte stopError s
  | .replyStart hrdy => Sys2Proof.Machine.execReplyStart hrdy s
  | .replySent => Sys2Proof.Machine.execReplySent s
  | .powerOn pins => Sys2Proof.Machine.execPowerOn pins s
  | .powerFail => Sys2Proof.Machine.execPowerFail s
  | .retentionLatchSet => Sys2Proof.Machine.execRetentionLatchSet s
  | .resetAssert => Sys2Proof.Machine.execResetAssert s
  | .resetRelease pins => Sys2Proof.Machine.execResetRelease pins s
  | .restartSequence pins => Sys2Proof.Machine.execRestartSequence pins s
  | .storeEnd agrees => Sys2Proof.Machine.execStoreEnd agrees s
  | .recallEnd => Sys2Proof.Machine.execRecallEnd s
  | .clockTick => Sys2Proof.Machine.execClockTick s
  | .dryingExpiry => Sys2Proof.Machine.execDryingExpiry s
  | .stockWaitExpiry => Sys2Proof.Machine.execStockWaitExpiry s
  | .weighDeadlineExpiry => Sys2Proof.Machine.execWeighDeadlineExpiry s
  | .rainPulse => Sys2Proof.Machine.execRainPulse s
  | .rainStep => Sys2Proof.Machine.execRainStep s
  | .haltAssert => Sys2Proof.Machine.execHaltAssert s
  | .haltRelease => Sys2Proof.Machine.execHaltRelease s
  | .weighRecord chars => Sys2Proof.Machine.execWeighRecord chars s
  | .weighDiscard chars => Sys2Proof.Machine.execWeighDiscard chars s
  | .loaderTurn => Sys2Proof.Machine.execLoaderTurn s
  | .probe => Sys2Proof.Machine.execProbe s
  | .clearAllExchange => Sys2Proof.Machine.execClearAllExchange s
  | .answerTimeout => Sys2Proof.Machine.execAnswerTimeout s
  | .idle line => Sys2Proof.Machine.execIdle line s
  | .accept line move => Sys2Proof.Machine.execAccept line move s
  | .lifted line move => Sys2Proof.Machine.execLifted line move s
  | .done line move tag moisture => Sys2Proof.Machine.execDone line move tag moisture s
  | .fault line move reason => Sys2Proof.Machine.execFault line move reason s
  | .withdrawn line move => Sys2Proof.Machine.execWithdrawn line move s
  | .tooLate line move => Sys2Proof.Machine.execTooLate line move s
  | .text line chars => Sys2Proof.Machine.execText line chars s
  | .hostFrameBegin => Sys2Proof.Machine.execHostFrameBegin s
  | .weighRecordBegin digit => Sys2Proof.Machine.execWeighRecordBegin digit s
  | .rainOtherEdge => Sys2Proof.Machine.execRainOtherEdge s

end Sys2Proof.Machine
end

