-- ==== Sys2Proof/Safety.lean ====
section
/-! DEFINITION. The terms claims are made in: a request taken at once and its reply, what every act leaves alone, and the invariant of the part. -/

namespace Sys2Proof.Machine

/-! ### Requests and replies -/

/-- The host request row that carries a request under a header. -/
def commandOf (h : Header) : Request → Instr
  | .setWindow a => .setWindow h a
  | .setZoning a => .setZoning h a
  | .setSpecies sp d t => .setSpecies h sp d t
  | .setWeather a => .setWeather h a
  | .setPlanning a => .setPlanning h a
  | .setLoaderLink t r p => .setLoaderLink h t r p
  | .setWeighing a => .setWeighing h a
  | .setEventMask m => .setEventMask h m
  | .readSettings => .readSettings h
  | .storeSettings => .storeSettings h
  | .recallSettings => .recallSettings h
  | .setClock c => .setClock h c
  | .readClock => .readClock h
  | .identify => .identify h
  | .registerPack a => .registerPack h a
  | .removePack t => .removePack h t
  | .holdPack t => .holdPack h t
  | .releasePack t => .releasePack h t
  | .locatePack t f b => .locatePack h t f b
  | .readPack t => .readPack h t
  | .readBay b => .readBay h b
  | .announceTruck a => .announceTruck h a
  | .cancelTruck n => .cancelTruck h n
  | .pauseTruck n => .pauseTruck h n
  | .resumeTruck n => .resumeTruck h n
  | .departTruck n => .departTruck h n
  | .readTruck n p => .readTruck h n p
  | .listTrucks => .listTrucks h
  | .openLane l => .openLane h l
  | .closeLane l => .closeLane h l
  | .readLanes => .readLanes h
  | .enrollLoader t c s => .enrollLoader h t c s
  | .retireLoader t => .retireLoader h t
  | .readLoader t => .readLoader h t
  | .readText => .readText h
  | .weighIn n => .weighIn h n
  | .weighOut n => .weighOut h n
  | .abortWeighing => .abortWeighing h
  | .readWeighbridge => .readWeighbridge h
  | .readEvents => .readEvents h
  | .runAudit => .runAudit h
  | .restart => .restart h

/-- R159: a request that arrives now is taken at once: the part runs, a reply buffer is free, no RESTART
has been taken, and no frame waits before it. -/
abbrev State.takesNow (s : State) : Prop :=
  s.part.running = true ∧ s.part.host.canTake = true ∧ s.part.host.inbound = []

/-- The state after a request was taken with a result and a body: the part `p` that the request leaves,
with the reply ready behind those that were ready before (R160). -/
def State.replied (s : State) (h : Header) (kind : Byte) (r : Result) (body : List Byte) (p : Part) :
    State :=
  let reply : Reply :=
    { kind := replyKind kind, seq := h.seq, result := r, body := body, check := h.check }
  { s with part := { p with host := p.host.putReady { reply := reply, holder := holderOf kind r } } }

/-- The state in which a part stands in place of the state's own; the queue of commands is kept. -/
def State.withPart (s : State) (p : Part) : State := { s with part := p }

/-- No store and no recall is in flight. -/
abbrev State.storeIdle (s : State) : Prop := s.part.flight = .nothing

/-- R159: a request taken is refused with a result: the reply has no body, and nothing else changes. -/
def State.refused (s : State) (h : Header) (kind : Byte) (r : Result) : State :=
  s.replied h kind r [] s.part

/-- The state in which an act of the yard has been taken whole, with all that follows from it. -/
def State.settledAs (s : State) (a : Act) : State :=
  s.withPart { s.part with yard := a.finish s.part.env }

/-- R171: the rows that the part takes only while it runs: all but the supplies, the RESET pin and the
clock. -/
def needsRunning : Instr → Bool
  | .powerOn _ => false
  | .powerFail => false
  | .retentionLatchSet => false
  | .resetAssert => false
  | .resetRelease _ => false
  | .clockTick => false
  | _ => true

/-! ### The loader link -/

/-- The row of an answer whose frame comes over a line (R178). -/
def answerRow (line : AnswerLine) : Answer → Instr
  | .idle => .idle line
  | .accept n => .accept line n
  | .lifted n => .lifted line n
  | .done n tag moisture => .done line n tag moisture
  | .fault n r => .fault line n r.code
  | .withdrawn n => .withdrawn line n
  | .tooLate n => .tooLate line n
  | .text chars => .text line chars

/-- R178: the characters of the frame of an answer of a terminal, each with a right stop bit. -/
def Answer.chars (terminal : Nat) (a : Answer) : List LinkChar :=
  (a.frame terminal).map fun b => { data := b, stop := true }

/-- R128, R129: the exchange of a turn is in flight with a terminal, whose answer is awaited. -/
abbrev State.inTurn (s : State) (t : Nat) (x : Exchange) : Prop :=
  s.part.running = true ∧ s.part.yard.loader.exchange = some x ∧ x.terminal = t ∧ x.purpose = .turn
    ∧ t ≤ 7

/-- R129: the yard once a well-formed answer has come: the exchange is over, last heard is set to now,
and the message sent is done with. -/
def State.heard (s : State) (x : Exchange) : Yard := s.part.yard.exchangeDone s.part.clock x

/-- The rows of the loader link (R126 to R141). -/
def onLoaderLink : Instr → Bool
  | .loaderTurn => true
  | .probe => true
  | .clearAllExchange => true
  | .answerTimeout => true
  | .idle _ => true
  | .accept .. => true
  | .lifted .. => true
  | .done .. => true
  | .fault .. => true
  | .withdrawn .. => true
  | .tooLate .. => true
  | .text .. => true
  | _ => false

/-- The rows of rain and drying (R47 to R53). -/
def ofWeather : Instr → Bool
  | .rainPulse => true
  | .rainStep => true
  | .rainOtherEdge => true
  | .dryingExpiry => true
  | _ => false

/-! ### What the operands of a SET request name, in the words of its rule -/

/-- R12: the operands of SET WINDOW are in range, and name the five fields of a window. -/
abbrev windowNamed (a : WindowArgs) (w : Window) : Prop :=
  a.window ≤ 7 ∧ a.enable = (if w.enable then 1 else 0) ∧ a.kind = w.kind.code
    ∧ a.base = w.base.toNat ∧ a.mask = w.mask.toNat ∧ a.limit = w.limit ∧ 1 ≤ a.limit ∧ a.limit ≤ 6

/-- R16: the operands of SET ZONING are in range, and name a mode and six zones. -/
abbrev zoningNamed (a : ZoningArgs) (m : ZoningMode) (z : Vector Nat 6) : Prop :=
  a.mode = m.code ∧ z = #v[a.lane0, a.lane1, a.lane2, a.lane3, a.lane4, a.lane5]
    ∧ a.lane0 ≤ 3 ∧ a.lane1 ≤ 3 ∧ a.lane2 ≤ 3 ∧ a.lane3 ≤ 3 ∧ a.lane4 ≤ 3 ∧ a.lane5 ≤ 3

/-- R42: the operands of SET SPECIES are in range; a trim of 0 is KEEP (R174). -/
abbrev speciesNamed (species density trim : Nat) : Prop :=
  species ≤ 7 ∧ 250 ≤ density ∧ density ≤ 900 ∧ (trim = 0 ∨ (850 ≤ trim ∧ trim ≤ 1150))

/-- R46: the operands of SET WEATHER name seven settings in their ranges. -/
abbrev weatherNamed (a : WeatherArgs) (w : WeatherSettings) : Prop :=
  a.edge = w.edge.code ∧ a.prescale = w.prescale ∧ a.depth = w.depth ∧ a.retention = w.retention
    ∧ a.capKg = w.capKg ∧ a.interval = w.interval ∧ a.percent = w.percent
    ∧ (w.prescale = 1 ∨ w.prescale = 2 ∨ w.prescale = 4 ∨ w.prescale = 8)
    ∧ 1 ≤ w.depth ∧ w.depth ≤ 20 ∧ w.retention ≤ 100 ∧ w.capKg ≤ 200
    ∧ (w.interval = 0 ∨ (10 ≤ w.interval ∧ w.interval ≤ 240)) ∧ 1 ≤ w.percent ∧ w.percent ≤ 50

/-- R75: the operands of SET PLANNING name five settings in their ranges. -/
abbrev planningNamed (a : PlanningArgs) (q : PlanningSettings) : Prop :=
  a.digLimit = q.digLimit ∧ a.stockWait = q.stockWait ∧ a.ageing = q.ageing
    ∧ a.headroom = q.headroom ∧ a.posted = (if q.posted then 1 else 0)
    ∧ q.digLimit ≤ 5 ∧ q.stockWait ≤ 240 ∧ q.ageing ≤ 240 ∧ q.headroom ≤ 10

/-- R125: the operands of SET LOADER LINK are in their sets. -/
abbrev linkNamed (timeout retry probe : Nat) : Prop :=
  20 ≤ timeout ∧ timeout ≤ 200 ∧ retry ≤ 3 ∧ (probe = 1 ∨ probe = 2 ∨ probe = 5 ∨ probe = 10)

/-- R145: a code that a record uses cannot be the end character. -/
abbrev recordChar (c : Nat) : Prop :=
  (48 ≤ c ∧ c ≤ 57) ∨ c = 32 ∨ c = 43 ∨ c = 45 ∨ c = 83 ∨ c = 85

/-- R145: the operands of SET WEIGHING name five settings in their sets. -/
abbrev weighingNamed (a : WeighingArgs) (w : WeighSettings) : Prop :=
  a.parity = w.parity.code ∧ a.endChar = w.endChar ∧ a.offset1 = w.offset1 ∧ a.offset2 = w.offset2
    ∧ a.timeout = w.timeout ∧ 1 ≤ w.endChar ∧ w.endChar ≤ 127 ∧ ¬ recordChar w.endChar
    ∧ -500 ≤ w.offset1 ∧ w.offset1 ≤ 500 ∧ -500 ≤ w.offset2 ∧ w.offset2 ≤ 500
    ∧ 5 ≤ w.timeout ∧ w.timeout ≤ 120

/-! ### What every act leaves alone -/

/-- A pack without what allocation and dispatch may change in it: state, prior state, assignment and
job. Its product, size, place, surface water, moisture and loaded mass stay. -/
def Pack.still (p : Pack) : Pack :=
  { p with state := .free, prior := none, assignment := none, job := none }

/-- A slot without its bed positions. -/
def Slot.still (sl : Slot) : Slot := { sl with one := BedPos.vacant, two := BedPos.vacant }

/-- An order line without what allocation may change in it. -/
def OrderLine.still (l : OrderLine) : OrderLine :=
  { l with assigned := [], stockShort := 0, weightShort := 0 }

/-- A truck without what the lane arbiter, allocation and placement may change in it. -/
def Truck.still (t : Truck) : Truck :=
  { t with
    slots := t.slots.map Slot.still
    lines := t.lines.map OrderLine.still
    lane := none
    grantedAt := none
    deadline := none
    state := .announced }

/-- The loader link without what the dispatcher may change in it: the moves and the move counter. -/
def LoaderLink.still (l : LoaderLink) : LoaderLink :=
  { l with
    terminals := l.terminals.map fun t => { t with moves := [] }
    moves := ⟨[]⟩
    counter := 1 }

/-- The flags that what follows an act may set: LANE_GRANTED, TRUCK_SHORT, TRUCK_LOADED. -/
def settleFlags : Flags24 := 0xE0#24

/-- The yard without what allocation, placement, the lane arbiter, the job list and the dispatcher may
change. What is left is every stack, every pack's product, place and water, every truck's vehicle,
tares and measurements, every terminal's state, and every event flag but three. -/
def Yard.still (y : Yard) : Yard where
  stack := y.stack
  claims := ⟨[]⟩
  packs := y.packs.mapVal fun _ p => p.still
  trucks := y.trucks.mapVal fun _ t => t.still
  lanes := Vector.replicate 6 Lane.initial
  jobs := ⟨[]⟩
  queues := Vector.replicate 4 []
  loader := y.loader.still
  events := y.events &&& ~~~ settleFlags

/-! ### The canonical form of the tables -/

/-- The tables of the yard are in canonical form and within their capacities: keys strictly rise, a bay
that is listed holds a pack or a claim, and there are at most 1,024 packs (R19), 24 trucks (R56) and
256 jobs (R106). -/
structure Yard.Tables (y : Yard) : Prop where
  stack : y.stack.wf = true
  stackListed : y.stack.allVal (fun _ tags => !tags.isEmpty) = true
  claims : y.claims.wf = true
  claimsListed : y.claims.allVal (fun _ n => decide (0 < n)) = true
  packs : y.packs.wf = true
  packCount : y.packs.size ≤ 1024
  trucks : y.trucks.wf = true
  truckIndex : y.trucks.allVal (fun i _ => decide (i < 24)) = true
  jobs : y.jobs.wf = true
  jobIndex : y.jobs.allVal (fun n _ => decide (n < 256)) = true
  moves : y.loader.moves.wf = true

/-! ### What the tables say of one another -/

/-- The moves outstanding to a staging bay, each of which holds a claim there (R7). -/
def Yard.movesTo (y : Yard) (b : Nat) : Nat :=
  y.loader.moves.entries.countP fun en => decide (en.2.dest = .bay b)

/-- Moves, terminals, claims and heights agree: a terminal's list names the moves outstanding at it and
no others, each once (R124, R132); it is no longer than the credit limit, at most 4, and empty while the
terminal is OFF (R117, R124); a bay has one claim for each move outstanding to it (R7, R8); and its
height and its claims are together at most 6 (R1). -/
structure Yard.Staging (y : Yard) : Prop where
  listed : ∀ t n : Nat, n ∈ (y.terminal t).moves → (y.moveAt? t n).isSome = true
  held : ∀ (n : Nat) (m : Move), y.move? n = some m → n ∈ (y.terminal m.terminal).moves
  once : ∀ t : Nat, (y.terminal t).moves.Nodup
  credit : ∀ t : Nat, (y.terminal t).moves.length ≤ (y.terminal t).credit ∧ (y.terminal t).credit ≤ 4
  off : ∀ t : Nat, (y.terminal t).state = .off → (y.terminal t).moves = []
  claims : ∀ b : Nat, y.claimsOf b = y.movesTo b
  height : ∀ b : Nat, y.height b + y.claimsOf b ≤ 6

/-- Lanes and trucks agree: no two truck records have one number; lanes and trucks name each other, and a
truck holds a lane exactly in the states of R59 (check 6 of R172); and a weigh-out is armed for a LOADED
truck alone (R146). -/
structure Part.Lanes (p : Part) : Prop where
  numbers : (p.yard.trucks.entries.map fun en => en.2.number).Nodup
  agree : p.yard.audit6 = none
  armed : ∀ a : Arming, p.weigh.arming = some a → a.direction = .weighOut →
    p.yard.truckState? a.truck = some .loaded

/-- Stacks and places agree (R1, R21): a tag stands at a tier of a bay exactly when its pack record has
that place. -/
def Yard.Placed (y : Yard) : Prop :=
  ∀ b i tag : Nat, (y.stackOf b)[i]? = some tag ↔
    (y.pack? tag).map Pack.place = some (.bay b (i + 1))

/-- R115: whether a job belongs in the queue of a zone: it is READY or ASIDE_READY, and that is its zone. -/
def Yard.belongsIn (e : Env) (y : Yard) (n zone : Nat) : Bool :=
  match y.job? n with
  | some j =>
    (decide (j.state = .ready) || decide (j.state = .asideReady)) && decide (y.zoneOfJob e j = zone)
  | none => false

/-- R115: the zone queues agree with the jobs: a queue lists each job that belongs in it once, and no
other. -/
def Yard.Queued (e : Env) (y : Yard) : Prop :=
  ∀ n zone : Nat, zone < 4 → (y.queue zone).count n = if y.belongsIn e n zone then 1 else 0

/-! ### The invariant of the part -/

/-- R41: every trim lies in 850 to 1,150. -/
def trimsInRange (t : Vector Nat 8) : Bool := t.toList.all trimInRange

/-- R143: the receiver is HUNTING, or holds 1 to 15 characters, the first one a deck digit. (A sixteenth
character ends the record.) -/
def LineReceiver.inRange : LineReceiver → Bool
  | .hunting => true
  | .collecting chars => within 1 15 chars.length

/-- R166: the snapshot of a store in flight is of settings and trims in their ranges. -/
def Flight.inRange : Flight → Bool
  | .store s t => s.inRange && trimsInRange t
  | _ => true

/-- The invariant of the part: the working settings, the trims, the stored copies and the snapshot of a
store lie in their ranges (R10, R15, R40, R41, R45, R75, R125, R145); the yard clock is a count of 32
bits (R169); the prescale count is below the prescale (R48); the discard counter is at most 255 and the
receiver holds at most 15 characters (R143); and at most two inbound frames and two reply buffers are
occupied (R158, R160). -/
structure Part.Inv (p : Part) : Prop where
  settings : p.settings.inRange = true
  trims : trimsInRange p.trims = true
  stored : p.store.settings.inRange = true
  storedTrims : trimsInRange p.store.trims = true
  flight : p.flight.inRange = true
  clock : p.clock ≤ Config.clockTop
  prescale : p.weather.prescaleCount < p.settings.weather.prescale
  discards : p.weigh.discards ≤ 255
  receiver : p.weigh.receiver.inRange = true
  inbound : p.host.inbound.length ≤ 2
  buffers : p.host.occupied ≤ 2

end Sys2Proof.Machine
end

