-- ==== Sys2Proof/WellFormed.lean ====
section
/-! DEFINITION. Well-formed commands: each operand fits the field or the line it arrives on. -/

namespace Sys2Proof

open Machine

/-- A number fits in `width` bytes (R174). -/
def fits (width n : Nat) : Bool := decide (n < 256 ^ width)

/-- R145, R174: a deck offset fits in two bytes, two's complement. -/
def fitsOffset (i : Int) : Bool := decide (-32768 ≤ i) && decide (i < 32768)

/-- R176: the fields of SET WINDOW fit. -/
def WindowArgs.wf (a : WindowArgs) : Bool :=
  fits 1 a.window && fits 1 a.enable && fits 1 a.kind && fits 1 a.base && fits 1 a.mask && fits 1 a.limit

/-- R176: the fields of SET ZONING fit. -/
def ZoningArgs.wf (a : ZoningArgs) : Bool :=
  fits 1 a.mode && fits 1 a.lane0 && fits 1 a.lane1 && fits 1 a.lane2 && fits 1 a.lane3
    && fits 1 a.lane4 && fits 1 a.lane5

/-- R176: the fields of SET WEATHER fit. -/
def WeatherArgs.wf (a : WeatherArgs) : Bool :=
  fits 1 a.edge && fits 1 a.prescale && fits 1 a.depth && fits 1 a.retention && fits 1 a.capKg
    && fits 1 a.interval && fits 1 a.percent

/-- R176: the fields of SET PLANNING fit. -/
def PlanningArgs.wf (a : PlanningArgs) : Bool :=
  fits 1 a.digLimit && fits 1 a.stockWait && fits 1 a.ageing && fits 1 a.headroom && fits 1 a.posted

/-- R176: the fields of SET WEIGHING fit. -/
def WeighingArgs.wf (a : WeighingArgs) : Bool :=
  fits 1 a.parity && fits 1 a.endChar && fitsOffset a.offset1 && fitsOffset a.offset2
    && fits 1 a.timeout

/-- R176: the fields of REGISTER PACK fit. -/
def PackArgs.wf (a : PackArgs) : Bool :=
  fits 3 a.tag && fits 1 a.bay && fits 1 a.grade && fits 1 a.sectionCode && fits 1 a.lengthClass
    && fits 1 a.species && fits 2 a.volume && fits 1 a.moisture && fits 2 a.footprint

/-- R176: the fields of an order line fit. -/
def LineArgs.wf (l : LineArgs) : Bool :=
  fits 1 l.grade && fits 1 l.sectionCode && fits 1 l.lengthClass && fits 1 l.species && fits 1 l.wanted

/-- R155, R176: the fields of ANNOUNCE TRUCK fit, and its body is at most 120 bytes. -/
def TruckArgs.wf (a : TruckArgs) : Bool :=
  fits 2 a.number && fits 1 a.cls && fits 1 a.shortMode && fits 3 a.frontLimit && fits 3 a.rearLimit
    && fits 3 a.grossLimit && fits 2 a.wheelbase && a.slots.all (fits 2) && a.lines.all LineArgs.wf
    && decide (17 + 2 * a.slots.length + 5 * a.lines.length ≤ 120)

/-- R176: the fields of a request fit the widths its body gives them. -/
def Request.wf : Request → Bool
  | .setWindow a => a.wf
  | .setZoning a => a.wf
  | .setSpecies sp d t => fits 1 sp && fits 2 d && fits 2 t
  | .setWeather a => a.wf
  | .setPlanning a => a.wf
  | .setLoaderLink t r p => fits 1 t && fits 1 r && fits 1 p
  | .setWeighing a => a.wf
  | .setEventMask m => fits 3 m
  | .readSettings => true
  | .storeSettings => true
  | .recallSettings => true
  | .setClock c => fits 4 c
  | .readClock => true
  | .identify => true
  | .registerPack a => a.wf
  | .removePack t => fits 3 t
  | .holdPack t => fits 3 t
  | .releasePack t => fits 3 t
  | .locatePack t f b => fits 3 t && fits 1 f && fits 1 b
  | .readPack t => fits 3 t
  | .readBay b => fits 1 b
  | .announceTruck a => a.wf
  | .cancelTruck n => fits 2 n
  | .pauseTruck n => fits 2 n
  | .resumeTruck n => fits 2 n
  | .departTruck n => fits 2 n
  | .readTruck n p => fits 2 n && fits 1 p
  | .listTrucks => true
  | .openLane l => fits 1 l
  | .closeLane l => fits 1 l
  | .readLanes => true
  | .enrollLoader t c s => fits 1 t && fits 1 c && fits 1 s
  | .retireLoader t => fits 1 t
  | .readLoader t => fits 1 t
  | .readText => true
  | .weighIn n => fits 2 n
  | .weighOut n => fits 2 n
  | .abortWeighing => true
  | .readWeighbridge => true
  | .readEvents => true
  | .runAudit => true
  | .restart => true

/-- R171: the straps give one of four rates. -/
def Pins.wf (p : Pins) : Bool := decide (p.baud ≤ 3)

/-- R143: a character has eight data bits. -/
def LineChar.wf (c : LineChar) : Bool := fits 1 c.data

/-- R155, R159: a frame of a KIND that names no request has a body of at most 120 bytes. -/
def unknownWf (kind : Byte) (body : List Byte) : Bool :=
  decide (decodeRequest kind.toNat [] = .unknownKind) && decide (body.length ≤ 120)

/-- R178: the terminal that an answer comes from is one of 0 to 7, and its fields are in range; the
characters of a frame changed on the line may be any. -/
def AnswerLine.wf (line : AnswerLine) (fields : Bool) : Bool :=
  match line with
  | .clear t => decide (t ≤ 7) && fields
  | .changed _ => true

/-- A command whose operands fit the fields, the lines and the pins they arrive on. -/
def Instr.wf : Instr → Bool
  | .setWindow _ a => (Request.setWindow a).wf
  | .setZoning _ a => (Request.setZoning a).wf
  | .setSpecies _ sp d t => (Request.setSpecies sp d t).wf
  | .setWeather _ a => (Request.setWeather a).wf
  | .setPlanning _ a => (Request.setPlanning a).wf
  | .setLoaderLink _ t r p => (Request.setLoaderLink t r p).wf
  | .setWeighing _ a => (Request.setWeighing a).wf
  | .setEventMask _ m => (Request.setEventMask m).wf
  | .readSettings _ => true
  | .storeSettings _ => true
  | .recallSettings _ => true
  | .setClock _ c => (Request.setClock c).wf
  | .readClock _ => true
  | .identify _ => true
  | .registerPack _ a => (Request.registerPack a).wf
  | .removePack _ t => (Request.removePack t).wf
  | .holdPack _ t => (Request.holdPack t).wf
  | .releasePack _ t => (Request.releasePack t).wf
  | .locatePack _ t f b => (Request.locatePack t f b).wf
  | .readPack _ t => (Request.readPack t).wf
  | .readBay _ b => (Request.readBay b).wf
  | .announceTruck _ a => (Request.announceTruck a).wf
  | .cancelTruck _ n => (Request.cancelTruck n).wf
  | .pauseTruck _ n => (Request.pauseTruck n).wf
  | .resumeTruck _ n => (Request.resumeTruck n).wf
  | .departTruck _ n => (Request.departTruck n).wf
  | .readTruck _ n p => (Request.readTruck n p).wf
  | .listTrucks _ => true
  | .openLane _ l => (Request.openLane l).wf
  | .closeLane _ l => (Request.closeLane l).wf
  | .readLanes _ => true
  | .enrollLoader _ t c s => (Request.enrollLoader t c s).wf
  | .retireLoader _ t => (Request.retireLoader t).wf
  | .readLoader _ t => (Request.readLoader t).wf
  | .readText _ => true
  | .weighIn _ n => (Request.weighIn n).wf
  | .weighOut _ n => (Request.weighOut n).wf
  | .abortWeighing _ => true
  | .readWeighbridge _ => true
  | .readEvents _ => true
  | .runAudit _ => true
  | .restart _ => true
  | .unknownKind _ kind body => unknownWf kind body
  | .hostFrameComplete rest => decide (rest.length ≤ 125)
  | .hostFrameCutShort rest _ => decide (rest.length ≤ 125)
  | .hostFrameGap _ _ => true
  | .replyStart _ => true
  | .replySent => true
  | .powerOn pins => pins.wf
  | .powerFail => true
  | .retentionLatchSet => true
  | .resetAssert => true
  | .resetRelease pins => pins.wf
  | .restartSequence pins => pins.wf
  | .storeEnd _ => true
  | .recallEnd => true
  | .clockTick => true
  | .dryingExpiry => true
  | .stockWaitExpiry => true
  | .weighDeadlineExpiry => true
  | .rainPulse => true
  | .rainStep => true
  | .haltAssert => true
  | .haltRelease => true
  | .weighRecord chars => chars.all LineChar.wf
  | .weighDiscard chars => chars.all LineChar.wf
  | .loaderTurn => true
  | .probe => true
  | .clearAllExchange => true
  | .answerTimeout => true
  | .idle l => l.wf true
  | .accept l n => l.wf (Answer.accept n).wf
  | .lifted l n => l.wf (Answer.lifted n).wf
  | .done l n tag mc => l.wf (Answer.done n tag mc).wf
  | .fault l n r => l.wf ((Answer.lifted n).wf && (FaultReason.ofCode? r).isSome)
  | .withdrawn l n => l.wf (Answer.withdrawn n).wf
  | .tooLate l n => l.wf (Answer.tooLate n).wf
  | .text l chars => l.wf (Answer.text chars).wf
  | .hostFrameBegin => true
  | .weighRecordBegin digit => digit.wf
  | .rainOtherEdge => true

end Sys2Proof
end

