-- ==== Sys2Proof/Certificates/Slice0/Obligations.lean ====
section
/-! DEFINITION. The statements for the provers: what the commands do, by the numbered rules of the spec. -/

open Sys2Proof Sys2Proof.Machine

/-- A step carries out the command at the front of the queue, and every command answers a next state.
Step of a state with command c at the front of its queue is exec of c on the state with the rest of
the queue. For every command and every state exec answers a next state in which only the part may
differ: no command faults, none is refused, and none touches the queue. On an empty queue the block
idles: step answers the same state. The queue and the idling are the model's choice (log entries 2
and 3).
(00_scope, R159) -/
def Obligations.StepRunsFront : Prop :=
  (∀ (s : State) (c : Instr) (rest : List Instr), s.pending = c :: rest →
    step s = exec c { s with pending := rest })
  ∧ (∀ s : State, s.pending = [] → step s = .next s)
  ∧ ∀ (c : Instr) (s : State), ∃ p : Part, exec c s = .next (s.withPart p)

/-- A request that the part can take is judged, carried out and answered at once.
While the part runs, a reply buffer is free, no RESTART has been taken and no frame waits, each of
the 42 request rows answers the state in which the request has been performed and its outcome put
into the reply buffer under its KIND, its SEQ and its CHECK flag.
(R155, R159, R160) -/
def Obligations.RequestTaken : Prop :=
  ∀ (h : Header) (r : Request) (s : State), s.takesNow →
    exec (commandOf h r) s
      = .next (s.withPart (Part.answer (s.part.perform r) (byte (requestKind r)) h.seq h.check))

/-- A request that cannot be taken waits in an inbound buffer, is answered FULL, or is lost with
LINK_ERROR.
A request that completes while the part runs and no frame can be taken: with an inbound buffer free
its frame joins the inbound buffers and nothing else changes. With both full and the refusal slot
empty, a FULL reply with its KIND, SEQ and CHECK flag becomes ready and nothing else changes. With
the slot occupied as well, LINK_ERROR is set and nothing else changes. That a request row stands for
the completing of its frame is the model's reading (log entry 5).
(R158, R159) -/
def Obligations.RequestWaits : Prop :=
  ∀ (h : Header) (r : Request) (s : State), s.part.running = true → s.part.host.canTake = false →
    (s.part.host.inbound.length < 2 →
      exec (commandOf h r) s = .next (s.withPart { s.part with
        host := { s.part.host with inbound := s.part.host.inbound ++ [frameOf h r] } }))
    ∧ (2 ≤ s.part.host.inbound.length → s.part.host.slotEmpty = true →
      exec (commandOf h r) s = .next (s.withPart { s.part with
        host := { s.part.host with
          ready := s.part.host.ready ++ [
            { reply :=
                { kind := byte (requestKind r) + 0x80#8, seq := h.seq, result := .full, body := [],
                  check := h.check }
              holder := .refusal }] } }))
    ∧ (2 ≤ s.part.host.inbound.length → s.part.host.slotEmpty = false →
      exec (commandOf h r) s = .next (s.withPart (s.part.raise .linkError)))

/-- A part without VDD or held in RESET takes nothing on its links and inputs.
While VDD is absent or RESET is asserted, every row but the supply rows, the RESET pin rows and the
clock tick leaves the state as it is.
(R171) -/
def Obligations.StoppedPartIgnores : Prop :=
  ∀ (c : Instr) (s : State), s.part.running = false → needsRunning c = true → exec c s = .next s

/-- A refused request changes nothing and its reply has no body.
For every request and every state of the part: if carrying it out gives a reply with a result other
than OK, the part is as it was and the reply has no body.
(R159, R175) -/
def Obligations.RefusalChangesNothing : Prop :=
  ∀ (p q : Part) (r : Request) (res : Result) (body : List Byte),
    p.perform r = (q, .reply res body) → res ≠ .ok → q = p ∧ body = []

/-- A taken frame is judged in the order CHECK, KIND, length, FLAGS.
The judgement of a taken frame: a CHECK that differs from the CRC gives CHECK_FAIL; otherwise a KIND
of no request gives UNKNOWN_KIND; otherwise a body of the wrong length gives BAD_LENGTH; otherwise a
FLAGS bit other than bit 0 gives BAD_VALUE; in each case the part is unchanged. Otherwise the
request is performed. On a part that can take it, a frame of an unknown KIND completes as the row
UNKNOWN KIND with its UNKNOWN_KIND reply. The KIND byte of that reply to a KIND of 0x80 to 0xFF, for
which R157 gives none, is the model's choice: the sum modulo 256 (log entry 37).
(R157, R159, R175) -/
def Obligations.FrameChecks : Prop :=
  (∀ (p : Part) (f : Frame),
    (f.check.any (fun c => c != crc f.covered) = true → p.judgeFrame f = (p, .reply .checkFail []))
    ∧ (f.check.any (fun c => c != crc f.covered) = false →
      (decodeRequest f.kind.toNat f.body = .unknownKind → p.judgeFrame f = (p, .reply .unknownKind []))
      ∧ (decodeRequest f.kind.toNat f.body = .badLength → p.judgeFrame f = (p, .reply .badLength []))
      ∧ ∀ r : Request, decodeRequest f.kind.toNat f.body = .request r →
        (f.flags &&& 0xFE#8 ≠ 0#8 → p.judgeFrame f = (p, .reply .badValue []))
        ∧ (f.flags &&& 0xFE#8 = 0#8 → p.judgeFrame f = p.perform r)))
  ∧ ∀ (h : Header) (kind : Byte) (body : List Byte) (s : State), s.takesNow →
    decodeRequest kind.toNat body = .unknownKind →
    exec (.unknownKind h kind body) s = .next (s.refused h kind .unknownKind)

/-- Decoding the body of a well-formed request gives the request back, for all 42 kinds.
For every request whose operands fit the fields of its body (R176), the KIND and the body that
encode it decode to that request, with every operand at every value the encoding admits.
(R174, R175, R176) -/
def Obligations.RequestCodec : Prop :=
  ∀ r : Request, r.wf = true → decodeRequest (requestKind r) (requestBody r) = .request r

/-- The bytes of a request frame, taken by the receiver, do what the request row does.
On a part that can take a request and whose receiver is HUNTING: the lead byte, then the bytes of
the frame of a well-formed request, with its CHECK where its FLAGS ask for one, lead to the same
outcome as the request row itself. It ties the byte receiver, the framing, the CRC, the decoding and
the taking to the request rows. That a request row stands for the completing of its frame is the
model's reading (log entry 5).
(R155, R156, R157, R158, R159, R176) -/
def Obligations.FrameTaken : Prop :=
  ∀ (h : Header) (r : Request) (s : State), s.takesNow → s.part.host.receiver = .hunting →
    r.wf = true →
    ∃ t u : State, exec .hostFrameBegin s = .next t
      ∧ exec (.hostFrameComplete (frameOf h r).rest) t = .next u
      ∧ exec (commandOf h r) s = .next u

/-- An answer of a terminal is read back from its frame, and taken from its characters; garbled ones
change nothing.
For every terminal 0 to 7 and every answer in range, the loader link frame of the answer decodes,
for the terminal addressed, to that answer; for any other terminal addressed it is garbled. The
characters of that frame, arriving with right stop bits while that terminal's answer is awaited, do
exactly what the row of the answer does. A character with a wrong stop bit makes the characters
garbled, and characters that are no answer of an awaited terminal change nothing. That an answer row
carries the characters that its frame became on the line, and that a retired terminal's answer is
awaited, are the model's readings (log entries 25 and 17).
(R129, R178, R179) -/
def Obligations.AnswerCodec : Prop :=
  (∀ (t : Nat) (a : Answer), t ≤ 7 → a.wf = true →
    decodeAnswer t (a.frame t) = some a
    ∧ ∀ u : Nat, u ≤ 7 → u ≠ t → decodeAnswer u (a.frame t) = none)
  ∧ (∀ (t : Nat) (a b : Answer) (s : State), t ≤ 7 → a.wf = true → s.part.running = true →
    ((∃ x : Exchange, s.part.yard.loader.exchange = some x ∧ x.terminal = t)
      ∨ (s.part.yard.loader.exchange = none
        ∧ ∃ (r : LateAnswer) (rest : List LateAnswer), s.part.yard.loader.late = r :: rest
          ∧ r.terminal = t)) →
    exec (answerRow (.changed (a.chars t)) b) s = exec (answerRow (.clear t) a) s)
  ∧ (∀ (t : Nat) (chars : List LinkChar), (∃ c ∈ chars, c.stop = false) → hearAnswer t chars = none)
  ∧ ∀ (chars : List LinkChar) (b : Answer) (s : State), s.part.running = true →
    (∀ t ∈ s.part.yard.loader.listensTo, hearAnswer t chars = none) →
    exec (answerRow (.changed chars) b) s = .next s

/-- The reset state meets the invariants of the part and of its tables.
After reset the working settings, trims and stored copies lie in their ranges, the counters and
buffers are within their bounds, the tables are in canonical form, moves, claims, terminals, lanes
and trucks agree, RESTART and RETAIN_LOST are pending and no other event is, and ATTN is high. That
reset is the first power-on of a part as delivered, with the latch found set, is the model's choice
(log entry 3).
(R10, R41, R45, R75, R125, R145, R162, R163, R166, R171) -/
def Obligations.ResetMeetsInvariants : Prop :=
  State.reset.part.Inv ∧ State.reset.part.yard.Tables
    ∧ State.reset.part.yard.Staging ∧ State.reset.part.Lanes ∧ State.reset.part.yard.Placed
    ∧ State.reset.part.yard.Queued State.reset.part.env
    ∧ State.reset.part.yard.events = 0x3#24 ∧ State.reset.part.attn = true

/-- Every step keeps the settings, trims, stored copies, counters and buffers within their bounds.
From every state that meets it, a step that answers a next state keeps the invariant of the part:
working settings and the stored copy in their ranges, trims and stored trims in 850 to 1,150, the
snapshot of a store in flight in range, the clock below 2^32, the prescale count below the prescale,
at most 255 discards, 1 to 15 characters collected while COLLECTING, at most two inbound frames and
at most two occupied reply buffers.
(R10, R41, R45, R48, R75, R125, R143, R145, R158, R160, R166, R169) -/
def Obligations.StepKeepsInv : Prop :=
  ∀ s t : State, s.part.Inv → step s = .next t → t.part.Inv

/-- Every step keeps the tables of the yard in canonical form, and heights, claims, moves, credits,
lanes and trucks in agreement.
From every state whose tables are in canonical form, a step that answers a next state leaves them
so: the keys of the stack, claim, pack, truck, job and move tables strictly rise, no empty stack and
no zero claim is listed, and there are at most 1,024 packs, 24 truck indices and 256 job numbers.
With the tables in that form, a step keeps two more laws. Of moves and claims: a terminal lists the
moves outstanding at it and no others, each once, at most its credit limit, at most 4, and none
while it is OFF; each bay has one claim for each move outstanding to it, and its height and claims
are together at most 6. Of lanes and trucks: no two trucks have one number, a truck holds a lane
exactly in the states of R59, lanes and trucks name each other, and a weigh-out is armed for a
LOADED truck alone.
(R1, R7, R8, R19, R56, R59, R70, R106, R117, R124, R132, R146) -/
def Obligations.StepKeepsTables : Prop :=
  ∀ s t : State, s.part.yard.Tables → step s = .next t →
    t.part.yard.Tables
    ∧ (s.part.yard.Staging → t.part.yard.Staging)
    ∧ (s.part.Lanes → t.part.Lanes)

/-- A row of the loader link changes the yard and the waiting replies and nothing else.
Whatever a loader link row does (a turn, a probe, a CLEAR ALL, a timeout, any answer), the clock,
the settings, the trims, the weather unit, the weighbridge unit, the store, the supplies, HALT, the
audit result and the queue of commands are as before; so are the inbound frames, the leaving reply
and the receiver of the host link. A reply that already was ready stays ready in its place.
(R126, R129, R130, R131, R132) -/
def Obligations.LoaderRowsFrame : Prop :=
  ∀ (c : Instr) (s t : State), onLoaderLink c = true → exec c s = .next t →
    t = s.withPart { s.part with yard := t.part.yard, host :=
      { s.part.host with awaiting := t.part.host.awaiting, ready := t.part.host.ready } }
    ∧ ∃ more, t.part.host.ready = s.part.host.ready ++ more

/-- Rain and drying change surface water and the weather unit and nothing else.
Whatever a rain pulse, a rain step, another edge or a drying expiry does, only the weather unit and
the pack table may differ after it, and each pack record differs at most in its surface water. No
stack, no pack state, no job, no event flag and no other register changes.
(R49, R51, R53) -/
def Obligations.WeatherRowsFrame : Prop :=
  ∀ (c : Instr) (s t : State), ofWeather c = true → exec c s = .next t →
    t = s.withPart { s.part with yard := { s.part.yard with packs := t.part.yard.packs },
                                 weather := t.part.weather }
    ∧ ∀ tag : Nat, (t.part.yard.pack? tag).map (fun k => { k with water := 0 })
        = (s.part.yard.pack? tag).map (fun k => { k with water := 0 })

/-- SET WINDOW writes the five fields of one window, or is refused.
On a part that can take it with no store or recall in flight, SET WINDOW with operands in range
answers OK with no body: the window named takes the five fields together, every other window stays,
and the zone queues are served under the new windows. Operands out of range are refused BAD_VALUE;
in range during a store or recall it is refused BUSY.
(R12, R9, R116) -/
def Obligations.SetWindowWrites : Prop :=
  ∀ (h : Header) (a : WindowArgs) (s : State), s.takesNow →
    (∀ w : Window, windowNamed a w → s.storeIdle →
      exec (.setWindow h a) s = .next (s.replied h 0x01#8 .ok []
        ({ s.part with settings := { s.part.settings with
            windows := s.part.settings.windows.setIfInBounds a.window w } }).serve))
    ∧ ((¬ ∃ w, windowNamed a w) → exec (.setWindow h a) s = .next (s.refused h 0x01#8 .badValue))
    ∧ ((∃ w, windowNamed a w) → ¬ s.storeIdle →
      exec (.setWindow h a) s = .next (s.refused h 0x01#8 .busy))

/-- SET ZONING writes the mode and the lane-to-zone table, or is refused.
With the job list empty and nothing in flight at the store, SET ZONING with operands in range
answers OK and writes the mode and all six entries together; nothing else changes. Out of range it
is refused BAD_VALUE, even while jobs exist; in range it is refused BUSY while a job exists or a
store or recall is in flight.
(R16) -/
def Obligations.SetZoningWrites : Prop :=
  ∀ (h : Header) (a : ZoningArgs) (s : State), s.takesNow →
    (∀ (m : ZoningMode) (z : Vector Nat 6), zoningNamed a m z → s.storeIdle →
      s.part.yard.jobs.size = 0 →
      exec (.setZoning h a) s = .next (s.replied h 0x02#8 .ok []
        { s.part with settings := { s.part.settings with zoning := m, laneZones := z } }))
    ∧ ((¬ ∃ m z, zoningNamed a m z) → exec (.setZoning h a) s = .next (s.refused h 0x02#8 .badValue))
    ∧ ((∃ m z, zoningNamed a m z) → (¬ s.storeIdle ∨ s.part.yard.jobs.size ≠ 0) →
      exec (.setZoning h a) s = .next (s.refused h 0x02#8 .busy))

/-- SET SPECIES writes one density and, unless KEEP, one trim, or is refused.
With nothing in flight at the store, SET SPECIES with operands in range answers OK: the density of
the species takes its value; a trim value is written too, and KEEP (0) leaves the trims. Nothing
else changes. Out of range it is refused BAD_VALUE; in range during a store or recall it is refused
BUSY.
(R42, R174) -/
def Obligations.SetSpeciesWrites : Prop :=
  ∀ (h : Header) (sp d t : Nat) (s : State), s.takesNow →
    (speciesNamed sp d t → s.storeIdle →
      exec (.setSpecies h sp d t) s = .next (s.replied h 0x03#8 .ok []
        { s.part with
          settings := { s.part.settings with
            densities := s.part.settings.densities.setIfInBounds sp d }
          trims := if t = 0 then s.part.trims else s.part.trims.setIfInBounds sp t }))
    ∧ (¬ speciesNamed sp d t → exec (.setSpecies h sp d t) s = .next (s.refused h 0x03#8 .badValue))
    ∧ (speciesNamed sp d t → ¬ s.storeIdle →
      exec (.setSpecies h sp d t) s = .next (s.refused h 0x03#8 .busy))

/-- SET WEATHER writes the seven weather settings with its three further effects, or is refused.
With nothing in flight at the store, SET WEATHER with operands in range answers OK. The seven
settings take their values together. A changed edge or prescale clears the prescale count; a changed
interval sets the drying deadline to now plus the interval in seconds, or makes it absent for 0; a
lowered cap clamps every pack's surface water to the new cap, in every state and place. Nothing else
changes. Out of range: BAD_VALUE; in range during a store or recall: BUSY.
(R46, R54, R52) -/
def Obligations.SetWeatherWrites : Prop :=
  ∀ (h : Header) (a : WeatherArgs) (s : State), s.takesNow →
    (∀ w : WeatherSettings, weatherNamed a w → s.storeIdle →
      ∃ y : Yard,
        exec (.setWeather h a) s = .next (s.replied h 0x04#8 .ok []
          { s.part with
            settings := { s.part.settings with weather := w }
            yard := { s.part.yard with packs := y.packs }
            weather :=
              { prescaleCount := if w.edge = s.part.settings.weather.edge
                  ∧ w.prescale = s.part.settings.weather.prescale
                  then s.part.weather.prescaleCount else 0
                deadline := if w.interval = s.part.settings.weather.interval
                  then s.part.weather.deadline
                  else if w.interval = 0 then none
                  else some (min (s.part.clock + w.interval * 60) 4294967295)
                rainLevel := s.part.weather.rainLevel } })
        ∧ ∀ tag : Nat, y.pack? tag = (s.part.yard.pack? tag).map fun k =>
            if w.capKg < s.part.settings.weather.capKg
              then { k with water := min k.water (w.capKg * 1000) } else k)
    ∧ ((¬ ∃ w, weatherNamed a w) → exec (.setWeather h a) s = .next (s.refused h 0x04#8 .badValue))
    ∧ ((∃ w, weatherNamed a w) → ¬ s.storeIdle →
      exec (.setWeather h a) s = .next (s.refused h 0x04#8 .busy))

/-- SET PLANNING writes the five planning settings, or is refused.
With nothing in flight at the store and the headroom unchanged or no truck LOADING or PAUSED, SET
PLANNING with operands in range answers OK and writes the five settings together; a change of the
posted mode judges every job afresh and serves the queues. Out of range: BAD_VALUE. In range during
a store or recall, or with another headroom while a truck is LOADING or PAUSED: BUSY.
(R75, R114) -/
def Obligations.SetPlanningWrites : Prop :=
  ∀ (h : Header) (a : PlanningArgs) (s : State), s.takesNow →
    (∀ q : PlanningSettings, planningNamed a q → s.storeIdle →
      (q.headroom = s.part.settings.planning.headroom ∨ s.part.yard.someLoading = false) →
      exec (.setPlanning h a) s = .next (s.replied h 0x05#8 .ok []
        (let p : Part := { s.part with settings := { s.part.settings with planning := q } }
         if q.posted = s.part.settings.planning.posted then p else p.judgeAndServe)))
    ∧ ((¬ ∃ q, planningNamed a q) → exec (.setPlanning h a) s = .next (s.refused h 0x05#8 .badValue))
    ∧ (∀ q : PlanningSettings, planningNamed a q →
      (¬ s.storeIdle
        ∨ (q.headroom ≠ s.part.settings.planning.headroom ∧ s.part.yard.someLoading = true)) →
      exec (.setPlanning h a) s = .next (s.refused h 0x05#8 .busy))

/-- SET LOADER LINK, SET WEIGHING and SET EVENT MASK write their settings, or are refused.
Each writes its settings together, answers OK and changes nothing else but this: SET WEIGHING with
another parity or end character drops a record being collected. Values outside their sets are
refused BAD_VALUE. All three are refused BUSY during a store or recall, SET WEIGHING also while a
weighing is armed.
(R125, R145, R165) -/
def Obligations.LinkWeighingAndMaskWrite : Prop :=
  ∀ (h : Header) (s : State), s.takesNow →
    (∀ tm re pr : Nat,
      (linkNamed tm re pr → s.storeIdle →
        exec (.setLoaderLink h tm re pr) s = .next (s.replied h 0x06#8 .ok []
          { s.part with settings := { s.part.settings with
              link := { timeoutMs := tm, retryLimit := re, probeInterval := pr } } }))
      ∧ (¬ linkNamed tm re pr →
        exec (.setLoaderLink h tm re pr) s = .next (s.refused h 0x06#8 .badValue))
      ∧ (linkNamed tm re pr → ¬ s.storeIdle →
        exec (.setLoaderLink h tm re pr) s = .next (s.refused h 0x06#8 .busy)))
    ∧ (∀ a : WeighingArgs,
      (∀ w : WeighSettings, weighingNamed a w → s.storeIdle → s.part.weigh.arming = none →
        exec (.setWeighing h a) s = .next (s.replied h 0x07#8 .ok []
          { s.part with
            settings := { s.part.settings with weighing := w }
            weigh := { s.part.weigh with
              receiver := if w.parity = s.part.settings.weighing.parity
                ∧ w.endChar = s.part.settings.weighing.endChar
                then s.part.weigh.receiver else .hunting } }))
      ∧ ((¬ ∃ w, weighingNamed a w) →
        exec (.setWeighing h a) s = .next (s.refused h 0x07#8 .badValue))
      ∧ ((∃ w, weighingNamed a w) → (¬ s.storeIdle ∨ s.part.weigh.arming ≠ none) →
        exec (.setWeighing h a) s = .next (s.refused h 0x07#8 .busy)))
    ∧ ∀ m : Nat, m < 2 ^ 24 →
      (s.storeIdle →
        exec (.setEventMask h m) s = .next (s.replied h 0x08#8 .ok []
          { s.part with settings := { s.part.settings with mask := BitVec.ofNat 24 m } }))
      ∧ (¬ s.storeIdle → exec (.setEventMask h m) s = .next (s.refused h 0x08#8 .busy))

/-- STORE SETTINGS takes a snapshot and clears the mark; its end writes the store.
With no move outstanding, no weighing armed and nothing in flight, STORE SETTINGS answers OK at
once: the store is in flight with the settings and trims as they stand, and its completion mark is
clear. Otherwise it is refused BUSY. When the store ends, the store holds the snapshot with its
check word; it is good exactly when the read-back agreed; STORE_DONE or STORE_FAIL is set, nothing
is in flight, and the queues are served. That a store whose read-back differs holds the snapshot all
the same, and what the check word is taken over, are the model's choices (log entries 13 and 12).
(R166) -/
def Obligations.StoreSettingsWrites : Prop :=
  (∀ (h : Header) (s : State), s.takesNow →
    (s.storeIdle → s.part.yard.loader.moves.size = 0 → s.part.weigh.arming = none →
      exec (.storeSettings h) s = .next (s.replied h 0x0A#8 .ok []
        { s.part with
          flight := .store s.part.settings s.part.trims
          store := { s.part.store with complete := false } }))
    ∧ ((¬ s.storeIdle ∨ s.part.yard.loader.moves.size ≠ 0 ∨ s.part.weigh.arming ≠ none) →
      exec (.storeSettings h) s = .next (s.refused h 0x0A#8 .busy)))
  ∧ ∀ (s : State) (st : Settings) (tr : Vector Nat 8) (agrees : Bool), s.part.running = true →
    s.part.flight = .store st tr →
    let written : Store :=
      { settings := st, trims := tr, checkWord := ((storeBytes st tr).map BitVec.toNat).sum % 65536,
        complete := agrees }
    exec (.storeEnd agrees) s = .next (s.withPart
      (({ s.part with flight := .nothing, store := written }).raise
        (if agrees then .storeDone else .storeFail)).serve)
    ∧ written.good = agrees

/-- RECALL SETTINGS copies the store, keeping zoning and headroom where it must; its end frees dispatch.
With no move outstanding, no weighing armed, nothing in flight and a good store, RECALL SETTINGS is
carried out: the working settings become the stored ones, except that the zoning mode and lane table
are kept while a job exists and the headroom while a truck is LOADING or PAUSED; the trims become
the stored trims; a lowered cap clamps every pack's surface water; no stack, truck, terminal or flag
changes; the reply waits in its buffer with the kept bits, and the recall is in flight. A bad store
gives WRONG_STATE, the other cases BUSY. At its end the waiting reply becomes ready with the kept
bits, nothing is in flight, and the queues are served.
(R167, R17, R54, R75, R177) -/
def Obligations.RecallSettingsCopies : Prop :=
  (∀ (h : Header) (s : State), s.takesNow →
    (s.storeIdle → s.part.yard.loader.moves.size = 0 → s.part.weigh.arming = none →
      s.part.store.good = true →
      ∃ p : Part,
        exec (.recallSettings h) s = .next (s.withPart { p with
          host := { s.part.host with awaiting := s.part.host.awaiting ++
            [{ kind := 0x0B#8, seq := h.seq, check := h.check,
               what := .recall (byte ((if s.part.yard.jobs.size ≠ 0 then 1 else 0)
                 + (if s.part.yard.someLoading then 2 else 0))) }] } })
        ∧ p.flight = .recall ∧ p.trims = s.part.store.trims ∧ p.store = s.part.store
        ∧ p.clock = s.part.clock ∧ p.halt = s.part.halt ∧ p.power = s.part.power
        ∧ p.lastAudit = s.part.lastAudit ∧ p.yard.stack = s.part.yard.stack
        ∧ p.yard.trucks = s.part.yard.trucks ∧ p.yard.loader = s.part.yard.loader
        ∧ p.yard.events = s.part.yard.events
        ∧ (∀ tag : Nat, p.yard.pack? tag = (s.part.yard.pack? tag).map fun k =>
            if s.part.store.settings.weather.capKg < s.part.settings.weather.capKg
              then { k with water := min k.water (s.part.store.settings.weather.capKg * 1000) }
              else k)
        ∧ p.settings = { s.part.store.settings with
            zoning := if s.part.yard.jobs.size ≠ 0 then s.part.settings.zoning
              else s.part.store.settings.zoning
            laneZones := if s.part.yard.jobs.size ≠ 0 then s.part.settings.laneZones
              else s.part.store.settings.laneZones
            planning := { s.part.store.settings.planning with
              headroom := if s.part.yard.someLoading then s.part.settings.planning.headroom
                else s.part.store.settings.planning.headroom } })
    ∧ (s.storeIdle → s.part.yard.loader.moves.size = 0 → s.part.weigh.arming = none →
      s.part.store.good = false →
      exec (.recallSettings h) s = .next (s.refused h 0x0B#8 .wrongState))
    ∧ ((¬ s.storeIdle ∨ s.part.yard.loader.moves.size ≠ 0 ∨ s.part.weigh.arming ≠ none) →
      exec (.recallSettings h) s = .next (s.refused h 0x0B#8 .busy)))
  ∧ ∀ (s : State) (seq kept : Byte) (chk : Bool), s.part.running = true → s.part.flight = .recall →
    s.part.host.awaiting = [{ kind := 0x0B#8, seq := seq, check := chk, what := .recall kept }] →
    let reply : Reply :=
      { kind := 0x8B#8, seq := seq, result := .ok, body := [kept], check := chk }
    let ended : ReadyReply := { reply := reply, holder := .buffer }
    exec .recallEnd s = .next (s.withPart
      (({ s.part with
        flight := .nothing
        host := { s.part.host with
          awaiting := []
          ready := s.part.host.ready ++ [ended] } } : Part).serve))

/-- SET CLOCK writes the clock and takes each deadline reached; a tick adds one second.
SET CLOCK with a value of four bytes answers OK with the clock before and after. The clock takes the
value at once, and the deadlines it reaches or passes expire; where it reaches none, nothing else
changes. Each tick raises the clock by 1, and after 4,294,967,295 makes it 0, in every state of the
supplies. That the expiries of SET CLOCK come in the order drying, weighing, stock waits is the
model's choice (log entry 10), and that a tick counts in every state of the supplies its reading
(log entry 21).
(R169, R52, R74, R147) -/
def Obligations.ClockCommands : Prop :=
  (∀ (h : Header) (c : Nat) (s : State), s.takesNow → c ≤ 4294967295 →
    exec (.setClock h c) s = .next (s.replied h 0x0C#8 .ok (timeBytes s.part.clock ++ timeBytes c)
      ({ s.part with clock := c }).expireAll)
    ∧ (due c s.part.weather.deadline = false → due c (s.part.weigh.arming.map Arming.deadline) = false →
      s.part.yard.expiredWait c = none →
      exec (.setClock h c) s = .next (s.replied h 0x0C#8 .ok (timeBytes s.part.clock ++ timeBytes c)
        { s.part with clock := c })))
  ∧ ∀ s : State, exec .clockTick s = .next (s.withPart { s.part with
      clock := if s.part.clock < 4294967295 then s.part.clock + 1 else 0 })

/-- The reads answer OK with their bodies and change nothing.
Each of READ SETTINGS, READ CLOCK, IDENTIFY, READ PACK, READ BAY, READ TRUCK (parts 0, 1, 2), LIST
TRUCKS, READ LANES, READ LOADER and RUN AUDIT, on a part that can take it and naming an item that
exists, answers OK with the body that R177 gives for the state as it stands, and changes nothing.
RUN AUDIT needs no move outstanding, no weighing armed and nothing in flight. The body of READ
SETTINGS has 120 bytes. The revisions of IDENTIFY and the tier byte of a bay in READ LOADER are free
values (log entries 14, 15). Which item an audit result of RUN AUDIT reports, and the order and
filling of its four item bytes, are the model's choice (log entry 20); so are the zeros sent for the
mass and the shares of a vacant bed position in READ TRUCK part 2 (log entry 27). The refusals of
these requests (NOT_FOUND, BAD_VALUE, BUSY) are not stated here.
(R36, R37, R69, R71, R142, R168, R169, R173, R177) -/
def Obligations.ReadsAnswer : Prop :=
  ∀ (h : Header) (s : State), s.takesNow →
    (exec (.readSettings h) s = .next (s.replied h 0x09#8 .ok s.part.settingsBody s.part)
      ∧ s.part.settingsBody.length = 120)
    ∧ exec (.readClock h) s = .next (s.replied h 0x0D#8 .ok (timeBytes s.part.clock) s.part)
    ∧ exec (.identify h) s = .next (s.replied h 0x0E#8 .ok s.part.identityBody s.part)
    ∧ (∀ (tag : Nat) (k : Pack), 1 ≤ tag → tag ≤ 16777215 → s.part.yard.pack? tag = some k →
      exec (.readPack h tag) s
        = .next (s.replied h 0x15#8 .ok (s.part.yard.packBody s.part.env tag k) s.part))
    ∧ (∀ b : Nat, b ≤ 255 →
      exec (.readBay h b) s
        = .next (s.replied h 0x16#8 .ok (s.part.yard.bayBody s.part.settings b) s.part))
    ∧ (∀ (n i : Nat) (t : Truck), 1 ≤ n → n ≤ 65535 → s.part.yard.truckNo? n = some (i, t) →
      exec (.readTruck h n 0) s
        = .next (s.replied h 0x1D#8 .ok (t.vehicleBody s.part.env i) s.part)
      ∧ exec (.readTruck h n 1) s = .next (s.replied h 0x1D#8 .ok t.linesBody s.part)
      ∧ exec (.readTruck h n 2) s = .next (s.replied h 0x1D#8 .ok t.bedBody s.part))
    ∧ exec (.listTrucks h) s = .next (s.replied h 0x1E#8 .ok s.part.yard.trucksBody s.part)
    ∧ exec (.readLanes h) s
        = .next (s.replied h 0x22#8 .ok (s.part.yard.lanesBody s.part.settings) s.part)
    ∧ (∀ t : Nat, t ≤ 7 →
      exec (.readLoader h t) s = .next (s.replied h 0x26#8 .ok (s.part.yard.loaderBody t) s.part))
    ∧ (s.part.yard.loader.moves.size = 0 → s.part.weigh.arming = none → s.storeIdle →
      exec (.runAudit h) s
        = .next (s.replied h 0x2D#8 .ok (s.part.yard.audit.bytes ++ s.part.lastAudit.bytes) s.part))

/-- READ TEXT, READ WEIGHBRIDGE and READ EVENTS answer OK and take out what they return.
READ TEXT returns the oldest text entry, which leaves the queue, or an absent entry on an empty
queue; that the absent entry is seven bytes of zero, its presence byte included, is the model's
choice (log entry 27). READ WEIGHBRIDGE returns the weighbridge unit and clears the discard counter.
READ EVENTS returns the pending set and the mask and clears every flag, except that TEXT_WAITING is
set again while the text queue holds an entry. Nothing else changes.
(R141, R154, R164, R177) -/
def Obligations.DrainingReads : Prop :=
  ∀ (h : Header) (s : State), s.takesNow →
    exec (.readText h) s = .next (s.replied h 0x27#8 .ok (textBody s.part.yard.loader.texts.head?)
      { s.part with yard := { s.part.yard with loader :=
        { s.part.yard.loader with texts := s.part.yard.loader.texts.drop 1 } } })
    ∧ exec (.readWeighbridge h) s = .next (s.replied h 0x2B#8 .ok s.part.weigh.body
        { s.part with weigh := { s.part.weigh with discards := 0 } })
    ∧ exec (.readEvents h) s = .next (s.replied h 0x2C#8 .ok
        (flagsBytes s.part.yard.events ++ flagsBytes s.part.settings.mask)
        { s.part with yard := { s.part.yard with
          events := if s.part.yard.loader.texts = [] then 0#24 else 0x40000#24 } })

/-- REGISTER PACK creates a FREE pack on top of its bay, or is refused in the order of R24; joins and
leaves keep stacks and places agreed.
With the fields in range, no record of the tag, fewer than 1,024 records and room in the bay,
REGISTER PACK answers OK with the tier: the new record is FREE with no job or assignment, stands on
top of the bay, and is a freed pack to offer; what follows is what follows every act. The stack of
the bay gains the tag on top and every other stack stays; the rest of every record is left alone.
Otherwise it is refused, in this order: BAD_VALUE, DUPLICATE, TABLE_FULL, NO_ROOM. Where every tag
in a stack names the pack whose place is that bay and tier, and every place names its tag, the
creation, the join of a pack that stands in no bay, and the leave of a pack from its stack keep it
so.
(R1, R3, R4, R6, R21, R24, R25) -/
def Obligations.RegisterPackJoins : Prop :=
  (∀ (h : Header) (a : PackArgs) (s : State), s.takesNow →
    (packInRange a = false → exec (.registerPack h a) s = .next (s.refused h 0x10#8 .badValue))
    ∧ (packInRange a = true →
      ((s.part.yard.pack? a.tag).isSome = true →
        exec (.registerPack h a) s = .next (s.refused h 0x10#8 .duplicate))
      ∧ (s.part.yard.pack? a.tag = none → 1024 ≤ s.part.yard.packs.size →
        exec (.registerPack h a) s = .next (s.refused h 0x10#8 .tableFull))
      ∧ (s.part.yard.pack? a.tag = none → s.part.yard.packs.size < 1024 →
        s.part.yard.room s.part.settings a.bay = 0 →
        exec (.registerPack h a) s = .next (s.refused h 0x10#8 .noRoom))
      ∧ (s.part.yard.pack? a.tag = none → s.part.yard.packs.size < 1024 →
        0 < s.part.yard.room s.part.settings a.bay →
        let act : Act := s.part.yard.act.registerPack s.part.env a
        ∃ y : Yard,
          exec (.registerPack h a) s = .next (s.replied h 0x10#8 .ok
            [byte (s.part.yard.height a.bay + 1)] { s.part with yard := y })
          ∧ y = act.finish s.part.env
          ∧ act.yard = (s.part.yard.addPack a.tag (newPack a s.part.clock)).joinStack a.bay a.tag
          ∧ act.yard.pack? a.tag = some { newPack a s.part.clock with
              place := .bay a.bay (s.part.yard.height a.bay + 1) }
          ∧ (newPack a s.part.clock).state = .free ∧ (newPack a s.part.clock).job = none
          ∧ (newPack a s.part.clock).assignment = none
          ∧ act.freed = [a.tag] ∧ act.bays = [a.bay]
          ∧ (s.part.yard.Placed → act.yard.Placed)
          ∧ y.still = act.yard.still
          ∧ y.stackOf a.bay = s.part.yard.stackOf a.bay ++ [a.tag]
          ∧ ∀ b : Nat, b ≠ a.bay → y.stackOf b = s.part.yard.stackOf b)))
  ∧ ∀ (y : Yard) (b tag : Nat), y.Placed →
    (∀ k : Pack, y.pack? tag = some k → k.standing = false → (y.joinStack b tag).Placed)
    ∧ (tag ∈ y.stackOf b → (y.leaveStack b tag).Placed)

/-- HOLD PACK: each state of the pack gives the outcome of the table of R26.
HOLD PACK of a pack in the table answers by its state. FREE: OK, the state becomes HELD and nothing
else changes. HELD: OK, no change. RESERVED: OK, the assignment is released and refilled or made
short with the pack set HELD; no stack, place, product or water changes. MOVING: IN_MOTION. ON_TRUCK
and DOUBT: WRONG_STATE. A tag of no record: NOT_FOUND.
(R26, R27, R23) -/
def Obligations.HoldPackOutcomes : Prop :=
  ∀ (h : Header) (tag : Nat) (s : State), s.takesNow → 1 ≤ tag → tag ≤ 16777215 →
    (s.part.yard.pack? tag = none → exec (.holdPack h tag) s = .next (s.refused h 0x12#8 .notFound))
    ∧ ∀ k : Pack, s.part.yard.pack? tag = some k →
      (k.state = .free → exec (.holdPack h tag) s = .next (s.replied h 0x12#8 .ok []
        { s.part with yard := s.part.yard.modifyPack tag fun k => { k with state := .held } }))
      ∧ (k.state = .held → exec (.holdPack h tag) s = .next (s.replied h 0x12#8 .ok [] s.part))
      ∧ (k.state = .reserved →
        ∃ y : Yard,
          exec (.holdPack h tag) s = .next (s.replied h 0x12#8 .ok [] { s.part with yard := y })
          ∧ y = (s.part.yard.act.releaseAssignment s.part.env tag
              fun a => a.setPackState tag .held).finish s.part.env
          ∧ y.stack = s.part.yard.stack
          ∧ ∀ u : Nat, (y.pack? u).map Pack.still = (s.part.yard.pack? u).map Pack.still)
      ∧ (k.state = .moving → exec (.holdPack h tag) s = .next (s.refused h 0x12#8 .inMotion))
      ∧ (k.state = .onTruck ∨ k.state = .doubt →
        exec (.holdPack h tag) s = .next (s.refused h 0x12#8 .wrongState))

/-- RELEASE PACK: each state of the pack gives the outcome of R28.
RELEASE PACK of a HELD pack answers OK: the pack becomes FREE, a freed pack that is offered to
trucks in SHORT_WAIT; its place, surface water and every stack stay. A FREE pack: OK, no change.
MOVING: IN_MOTION. RESERVED, ON_TRUCK, DOUBT: WRONG_STATE. A tag of no record: NOT_FOUND.
(R28, R83) -/
def Obligations.ReleasePackOutcomes : Prop :=
  ∀ (h : Header) (tag : Nat) (s : State), s.takesNow → 1 ≤ tag → tag ≤ 16777215 →
    (s.part.yard.pack? tag = none → exec (.releasePack h tag) s = .next (s.refused h 0x13#8 .notFound))
    ∧ ∀ k : Pack, s.part.yard.pack? tag = some k →
      (k.state = .held →
        ∃ y : Yard,
          exec (.releasePack h tag) s = .next (s.replied h 0x13#8 .ok [] { s.part with yard := y })
          ∧ y = ((s.part.yard.act.setPackState tag .free).offerLater tag).finish s.part.env
          ∧ y.still = s.part.yard.still)
      ∧ (k.state = .free → exec (.releasePack h tag) s = .next (s.replied h 0x13#8 .ok [] s.part))
      ∧ (k.state = .moving → exec (.releasePack h tag) s = .next (s.refused h 0x13#8 .inMotion))
      ∧ (k.state = .reserved ∨ k.state = .onTruck ∨ k.state = .doubt →
        exec (.releasePack h tag) s = .next (s.refused h 0x13#8 .wrongState))

/-- REMOVE PACK deletes a FREE or HELD pack with no job, or a DOUBT pack, and refuses the others.
REMOVE PACK of a FREE, HELD or DOUBT pack whose job, if any, is SUSPENDED answers OK with the state
and place before; after it no record has the tag. MOVING: IN_MOTION. RESERVED, ON_TRUCK, and a job
that is not SUSPENDED: WRONG_STATE. A tag of no record: NOT_FOUND; the tag 0: BAD_VALUE.
(R29, R30, R175) -/
def Obligations.RemovePackOutcomes : Prop :=
  ∀ (h : Header) (s : State), s.takesNow →
    exec (.removePack h 0) s = .next (s.refused h 0x11#8 .badValue)
    ∧ ∀ tag : Nat, 1 ≤ tag → tag ≤ 16777215 →
      (s.part.yard.pack? tag = none →
        exec (.removePack h tag) s = .next (s.refused h 0x11#8 .notFound))
      ∧ ∀ k : Pack, s.part.yard.pack? tag = some k →
        (k.state = .free ∨ k.state = .held ∨ k.state = .doubt →
          ((∀ n j, s.part.yard.jobOfPack? tag = some (n, j) → j.state = .suspended) →
            ∃ y : Yard,
              exec (.removePack h tag) s = .next (s.replied h 0x11#8 .ok
                (byte k.state.code :: k.place.bytes) { s.part with yard := y })
              ∧ y = (s.part.yard.act.removePack s.part.env tag).finish s.part.env
              ∧ y.pack? tag = none)
          ∧ ((∃ n j, s.part.yard.jobOfPack? tag = some (n, j) ∧ j.state ≠ .suspended) →
            exec (.removePack h tag) s = .next (s.refused h 0x11#8 .wrongState)))
        ∧ (k.state = .moving → exec (.removePack h tag) s = .next (s.refused h 0x11#8 .inMotion))
        ∧ (k.state = .reserved ∨ k.state = .onTruck →
          exec (.removePack h tag) s = .next (s.refused h 0x11#8 .wrongState))

/-- LOCATE PACK of a DOUBT pack is applied by its finding, or is refused.
IN BAY with room: OK, the pack joins the top of the bay, and every other stack stays; it is FREE
without a job and assignment, or its CLEAR or OFFLOAD job deleted, and RESERVED when assigned, or
with its LOAD job WAITING again; no room: NO_ROOM. ON BED with a LOAD job of a LOADING or PAUSED
truck whose tier below is loaded, or with an OFFLOAD job of an OVER or UNLOADING truck whose source
position is vacant and open: OK: the pack is ON_TRUCK at the position, which is loaded, with its
estimated mass and the LOAD job ended, or with its loaded mass as before, the plan of that mass, and
the OFFLOAD job WAITING; otherwise WRONG_STATE. GONE: OK, every stack stays, and the pack is DOUBT
still. A pack that is not DOUBT: WRONG_STATE; a tag of no record: NOT_FOUND.
(R32, R33, R34, R35) -/
def Obligations.LocatePackOutcomes : Prop :=
  ∀ (h : Header) (tag f b : Nat) (s : State), s.takesNow → 1 ≤ tag → tag ≤ 16777215 → f ≤ 2 → b ≤ 255 →
    (s.part.yard.pack? tag = none →
      exec (.locatePack h tag f b) s = .next (s.refused h 0x14#8 .notFound))
    ∧ ∀ k : Pack, s.part.yard.pack? tag = some k →
      (k.state ≠ .doubt → exec (.locatePack h tag f b) s = .next (s.refused h 0x14#8 .wrongState))
      ∧ (k.state = .doubt →
        (f = 0 → s.part.yard.room s.part.settings b = 0 →
          exec (.locatePack h tag f b) s = .next (s.refused h 0x14#8 .noRoom))
        ∧ (f = 0 → 0 < s.part.yard.room s.part.settings b →
          ∃ y : Yard,
            exec (.locatePack h tag f b) s
              = .next (s.replied h 0x14#8 .ok [] { s.part with yard := y })
            ∧ y = (s.part.yard.act.locateInBay tag b).finish s.part.env
            ∧ y.stackOf b = s.part.yard.stackOf b ++ [tag]
            ∧ (∀ c : Nat, c ≠ b → y.stackOf c = s.part.yard.stackOf c)
            ∧ ∃ k2 : Pack, (s.part.yard.act.locateInBay tag b).yard.pack? tag = some k2
              ∧ k2.place = .bay b ((s.part.yard.stackOf b).length + 1)
              ∧ (s.part.yard.jobOfPack? tag = none →
                k2.state = if k.assignment.isSome then .reserved else .free)
              ∧ ∀ (n : Nat) (j : Job), s.part.yard.jobOfPack? tag = some (n, j) →
                (j.work.isLoad = true → k2.state = .reserved
                  ∧ (s.part.yard.act.locateInBay tag b).yard.job? n
                    = some { j with state := .waiting, bound := none, move := none })
                ∧ (j.work.isLoad = false → k2.state = .free
                  ∧ (s.part.yard.act.locateInBay tag b).yard.job? n = none))
        ∧ (f = 1 →
          (∀ (n : Nat) (j : Job) (number : Nat) (r : BedRef),
            s.part.yard.jobOfPack? tag = some (n, j) → j.work = .load number r →
            (s.part.yard.loadLocatable number r = true →
              exec (.locatePack h tag f b) s = .next (s.replied h 0x14#8 .ok []
                { s.part with yard := (s.part.yard.act.locateLoad s.part.env tag n number r).finish s.part.env })
              ∧ ∀ (tr : Truck) (l : Nat), s.part.yard.truck? number = some tr → tr.lane = some l →
                r.slot < tr.slots.length →
                let y : Yard := (s.part.yard.act.locateLoad s.part.env tag n number r).yard
                y.job? n = none
                ∧ (∃ k2 : Pack, y.pack? tag = some k2 ∧ k2.state = .onTruck ∧ k2.place = .bed l r
                  ∧ k2.loadedMass = some (s.part.env.estimate k))
                ∧ ∃ t2 : Truck, y.truck? number = some t2
                  ∧ t2.pos r = { tr.pos r with loaded := true })
            ∧ (s.part.yard.loadLocatable number r = false →
              exec (.locatePack h tag f b) s = .next (s.refused h 0x14#8 .wrongState)))
          ∧ (∀ (n : Nat) (j : Job) (number : Nat) (r : BedRef),
            s.part.yard.jobOfPack? tag = some (n, j) → j.work = .offload number r →
            (s.part.yard.offloadLocatable number r = true →
              exec (.locatePack h tag f b) s = .next (s.replied h 0x14#8 .ok []
                { s.part with yard := (s.part.yard.act.locateOffload tag n number r).finish s.part.env })
              ∧ ∀ (tr : Truck) (l mass : Nat) (sl : Slot), s.part.yard.truck? number = some tr →
                tr.lane = some l → k.loadedMass = some mass → tr.slots[r.slot]? = some sl →
                let y : Yard := (s.part.yard.act.locateOffload tag n number r).yard
                let rear : Nat := rearShare mass sl.x tr.wheelbase
                y.job? n = some { j with state := .waiting, bound := none, move := none }
                ∧ y.pack? tag = some { k with
                    state := .onTruck, prior := none, place := .bed l r, loadedMass := some mass }
                ∧ ∃ t2 : Truck, y.truck? number = some t2
                  ∧ t2.pos r = { plan := some { tag := tag, mass := mass, front := mass - rear, rear := rear }
                                 loaded := true })
            ∧ (s.part.yard.offloadLocatable number r = false →
              exec (.locatePack h tag f b) s = .next (s.refused h 0x14#8 .wrongState)))
          ∧ ((s.part.yard.jobOfPack? tag = none ∨ ∃ n j b', s.part.yard.jobOfPack? tag = some (n, j)
              ∧ j.work = .clear b') →
            exec (.locatePack h tag f b) s = .next (s.refused h 0x14#8 .wrongState)))
        ∧ (f = 2 →
          ∃ y : Yard,
            exec (.locatePack h tag f b) s
              = .next (s.replied h 0x14#8 .ok [] { s.part with yard := y })
            ∧ y = (s.part.yard.act.giveUp s.part.env tag).finish s.part.env
            ∧ y.stack = s.part.yard.stack
            ∧ ((s.part.yard.act.giveUp s.part.env tag).yard.pack? tag).map Pack.state = some .doubt))

/-- ANNOUNCE TRUCK creates an ANNOUNCED record at the lowest free index, or is refused; the counts of an
order line add up to its wanted count.
With the fields in range, no record of the number and fewer than 24 indices held, ANNOUNCE TRUCK
answers OK with the lowest free index, where the new record stands; nothing else changes. The record
is ANNOUNCED, announced now, with no tares, lane, grant, deadline or measurements, every bed
position vacant and every wanted pack stock short. Otherwise: BAD_VALUE, DUPLICATE, TABLE_FULL, in
this order. The counts of each new line add up: assigned plus stock short plus weight short is the
wanted count. They go on adding up when a pack is reserved to a line that is stock short, and when a
listed pack is released at a placement (weight short rises), or otherwise with stock short raised by
1.
(R60, R56, R58, R23, R80, R103) -/
def Obligations.AnnounceTruckAdds : Prop :=
  (∀ (h : Header) (a : TruckArgs) (s : State), s.takesNow →
    (announceInRange a = false → exec (.announceTruck h a) s = .next (s.refused h 0x18#8 .badValue))
    ∧ (announceInRange a = true →
      ((s.part.yard.truck? a.number).isSome = true →
        exec (.announceTruck h a) s = .next (s.refused h 0x18#8 .duplicate))
      ∧ (s.part.yard.truck? a.number = none → (∀ i, i < 24 → s.part.yard.trucks.has i = true) →
        exec (.announceTruck h a) s = .next (s.refused h 0x18#8 .tableFull))
      ∧ (∀ i : Nat, s.part.yard.truck? a.number = none → i < 24 → s.part.yard.trucks.has i = false →
        (∀ j, j < i → s.part.yard.trucks.has j = true) →
        ∃ t : Truck,
          exec (.announceTruck h a) s = .next (s.replied h 0x18#8 .ok [byte i]
            { s.part with yard := { s.part.yard with trucks := s.part.yard.trucks.put i t } })
          ∧ t.number = a.number ∧ t.announcedAt = s.part.clock ∧ t.cls = a.cls
          ∧ t.shortMode.code = a.shortMode ∧ t.frontLimit = a.frontLimit
          ∧ t.rearLimit = a.rearLimit ∧ t.grossLimit = a.grossLimit ∧ t.wheelbase = a.wheelbase
          ∧ t.slots.map Slot.x = a.slots ∧ (∀ ps ∈ t.positions, ps.2 = BedPos.vacant)
          ∧ t.lines = a.lines.map newLine ∧ t.tare = none ∧ t.lane = none ∧ t.grantedAt = none
          ∧ t.deadline = none ∧ t.state = .announced ∧ t.weighedOut = false ∧ t.measured = none
          ∧ ∀ l ∈ t.lines, l.addsUp = true)))
  ∧ (∀ (y : Yard) (number line tag : Nat) (t : Truck) (l : OrderLine),
    y.truck? number = some t → t.line? line = some l →
    let taken : OrderLine :=
      { l with assigned := l.assigned ++ [tag], stockShort := l.stockShort - 1 }
    ((y.reserve number line tag).truck? number).bind (fun t => t.line? line) = some taken
    ∧ (0 < l.stockShort → l.addsUp = true → taken.addsUp = true))
  ∧ ∀ (a : Act) (tag : Nat) (k : Pack) (g : Assignment) (t : Truck) (l : OrderLine),
    a.yard.pack? tag = some k → k.assignment = some g →
    a.yard.truck? g.truck = some t → t.line? g.line = some l →
    let rest : List Nat := l.assigned.filter fun u => u != tag
    let light : OrderLine := { l with assigned := rest, weightShort := l.weightShort + 1 }
    let short : OrderLine := { l with assigned := rest, stockShort := l.stockShort + 1 }
    ((a.releaseForWeight tag).yard.truck? g.truck).bind (fun t => t.line? g.line) = some light
    ∧ (((a.yard.unassign tag).modifyStockShort g.truck g.line (· + 1)).truck? g.truck).bind
        (fun t => t.line? g.line) = some short
    ∧ (l.assigned.count tag = 1 → l.addsUp = true → light.addsUp = true ∧ short.addsUp = true)

/-- CANCEL TRUCK: before loading the record leaves the table, during it the truck unloads.
A truck in ANNOUNCED, QUEUED or SHORT_WAIT that is not armed: OK with its state and outcome 0, and
its record leaves the table. A truck in LOADING, PAUSED, LOADED or OVER that is not armed: OK with
its state, and, where the tables keep their form and lanes and trucks agree, outcome 1 when it is
UNLOADING after the five steps of R65, and 0 when it has left at once: no record has its number, its
lane is released, and TRUCK_REMOVED is set. CLEARED and UNLOADING: WRONG_STATE. Armed: BUSY. No
record: NOT_FOUND. That step 1 releases all its packs before it offers the first, and that a pack
which step 2 frees is offered when the act finishes, are the model's choice (log entry 38), as is
the order inside the steps (log entry 23).
(R64, R65, R67, R70, R177) -/
def Obligations.CancelTruckOutcomes : Prop :=
  ∀ (h : Header) (n : Nat) (s : State), s.takesNow → 1 ≤ n → n ≤ 65535 →
    (s.part.yard.truckNo? n = none → exec (.cancelTruck h n) s = .next (s.refused h 0x19#8 .notFound))
    ∧ ∀ (i : Nat) (t : Truck), s.part.yard.truckNo? n = some (i, t) →
      (s.part.weigh.arming.map Arming.truck = some n →
        exec (.cancelTruck h n) s = .next (s.refused h 0x19#8 .busy))
      ∧ (s.part.weigh.arming.map Arming.truck ≠ some n →
        (t.state = .announced ∨ t.state = .queued ∨ t.state = .shortWait →
          ∃ y : Yard,
            exec (.cancelTruck h n) s = .next (s.replied h 0x19#8 .ok [byte t.state.code, byte 0]
              { s.part with yard := y })
            ∧ y = (s.part.yard.act.cancelEarly s.part.env t).finish s.part.env
            ∧ y.trucks.get? i = none)
        ∧ (t.state = .loading ∨ t.state = .paused ∨ t.state = .loaded ∨ t.state = .over →
          exec (.cancelTruck h n) s = .next (s.replied h 0x19#8 .ok
            [byte t.state.code, if s.part.yard.cancelLeaves s.part.env t then byte 0 else byte 1]
            { s.part with yard := (s.part.yard.act.cancelLate s.part.env t).finish s.part.env })
          ∧ (s.part.yard.Tables → s.part.Lanes →
            let y : Yard := (s.part.yard.act.cancelLate s.part.env t).yard
            (s.part.yard.cancelLeaves s.part.env t = false → y.truckState? n = some .unloading)
            ∧ (s.part.yard.cancelLeaves s.part.env t = true →
              y.truck? n = none ∧ y.trucks.get? i = none
              ∧ holdsFlag y.events .truckRemoved = true
              ∧ ∃ l : Nat, t.lane = some l ∧ y.lane l = (s.part.yard.lane l).release
                ∧ (y.lane l).holder = none)))
        ∧ (t.state = .cleared ∨ t.state = .unloading →
          exec (.cancelTruck h n) s = .next (s.refused h 0x19#8 .wrongState)))

/-- PAUSE TRUCK and RESUME TRUCK switch between LOADING and PAUSED; what the judgement of the jobs does
to the jobs and to the zone queues.
PAUSE TRUCK of a LOADING truck answers OK and the truck is PAUSED; RESUME TRUCK of a PAUSED truck
answers OK and the truck is LOADING; in both cases the jobs are judged afresh and the queues served,
and no stack and nothing outside the yard changes. On a truck already there, OK and no change. In
every other state WRONG_STATE; no record NOT_FOUND. A job judged READY or ASIDE_READY takes that
state and its bound terminal: from WAITING it joins the tail of its zone queue, and queued it keeps
its place. Judged neither, it is WAITING, and leaves its queue if it stood in one. After the
judgement of all jobs every WAITING, READY or ASIDE_READY job is as its own judgement says, every
other one is untouched, and queues that list each queued job of their zone once, and no other, still
do. That every job is judged, in job-number order, and that the queues are served at a PAUSE as
well, are the model's choices (log entries 7 and 8).
(R62, R63, R112, R113, R114, R115) -/
def Obligations.PauseAndResume : Prop :=
  (∀ (h : Header) (n : Nat) (s : State), s.takesNow → 1 ≤ n → n ≤ 65535 →
    (s.part.yard.truckState? n = none →
      exec (.pauseTruck h n) s = .next (s.refused h 0x1A#8 .notFound)
      ∧ exec (.resumeTruck h n) s = .next (s.refused h 0x1B#8 .notFound))
    ∧ ∀ st : TruckState, s.part.yard.truckState? n = some st →
      (st = .loading →
        (∃ y : Yard,
          exec (.pauseTruck h n) s = .next (s.replied h 0x1A#8 .ok [] { s.part with yard := y })
          ∧ y = (((s.part.yard.modifyTruck n fun t => { t with state := .paused }).judgeAll
              s.part.env).serveAll s.part.env)
          ∧ y.truckState? n = some .paused ∧ y.stack = s.part.yard.stack)
        ∧ exec (.resumeTruck h n) s = .next (s.replied h 0x1B#8 .ok [] s.part))
      ∧ (st = .paused →
        (∃ y : Yard,
          exec (.resumeTruck h n) s = .next (s.replied h 0x1B#8 .ok [] { s.part with yard := y })
          ∧ y = (((s.part.yard.modifyTruck n fun t => { t with state := .loading }).judgeAll
              s.part.env).serveAll s.part.env)
          ∧ y.truckState? n = some .loading ∧ y.stack = s.part.yard.stack)
        ∧ exec (.pauseTruck h n) s = .next (s.replied h 0x1A#8 .ok [] s.part))
      ∧ (st ≠ .loading → st ≠ .paused →
        exec (.pauseTruck h n) s = .next (s.refused h 0x1A#8 .wrongState)
        ∧ exec (.resumeTruck h n) s = .next (s.refused h 0x1B#8 .wrongState)))
  ∧ (∀ (e : Env) (y : Yard) (n : Nat) (j : Job), y.job? n = some j → j.state.judged = true →
    (∀ (st : JobState) (bound : Option Nat),
      (y.verdict e j = .ready bound ∧ st = .ready)
        ∨ (y.verdict e j = .aside bound ∧ st = .asideReady) →
      (y.judge e n).job? n = some { j with state := st, bound := bound }
      ∧ ∀ z : Nat, (y.judge e n).queue z
          = if j.state = .waiting ∧ z = y.zoneOfJob e j ∧ z < 4 then y.queue z ++ [n] else y.queue z)
    ∧ (y.verdict e j = .neither →
      (j.state = .waiting → y.judge e n = y)
      ∧ (j.state ≠ .waiting →
        (y.judge e n).job? n = some { j with state := .waiting, bound := none }
        ∧ ∀ z : Nat, (y.judge e n).queue z = (y.queue z).filter fun u => u != n)))
  ∧ ∀ (e : Env) (y : Yard),
    (y.Queued e → (y.judgeAll e).Queued e)
    ∧ ∀ (n : Nat) (j : Job), y.jobs.wf = true → y.job? n = some j →
      (j.state.judged = false → (y.judgeAll e).job? n = some j)
      ∧ (j.state.judged = true →
        (∀ b, y.verdict e j = .ready b →
          (y.judgeAll e).job? n = some { j with state := .ready, bound := b })
        ∧ (∀ b, y.verdict e j = .aside b →
          (y.judgeAll e).job? n = some { j with state := .asideReady, bound := b })
        ∧ (y.verdict e j = .neither → ((y.judgeAll e).job? n).map Job.state = some .waiting))

/-- DEPART TRUCK deletes a CLEARED truck and its ON_TRUCK packs.
DEPART TRUCK of a CLEARED truck answers OK with the number of pack records deleted: the ON_TRUCK
packs of the truck, and the truck record at its index. Every other pack record and truck record,
every stack, lane and job stays. Another state: WRONG_STATE; no record: NOT_FOUND.
(R68) -/
def Obligations.DepartTruckDeletes : Prop :=
  ∀ (h : Header) (n : Nat) (s : State), s.takesNow → 1 ≤ n → n ≤ 65535 →
    (s.part.yard.truckNo? n = none → exec (.departTruck h n) s = .next (s.refused h 0x1C#8 .notFound))
    ∧ ∀ (i : Nat) (t : Truck), s.part.yard.truckNo? n = some (i, t) →
      (t.state ≠ .cleared → exec (.departTruck h n) s = .next (s.refused h 0x1C#8 .wrongState))
      ∧ (t.state = .cleared →
        ∃ (ps : Table Pack) (ts : Table Truck),
          exec (.departTruck h n) s = .next (s.replied h 0x1C#8 .ok
            [byte (s.part.yard.packs.entries.countP fun en =>
              decide (en.2.state = .onTruck ∧ en.2.assignment.map Assignment.truck = some n))]
            { s.part with yard := { s.part.yard with packs := ps, trucks := ts } })
          ∧ ps.entries = s.part.yard.packs.entries.filter (fun en =>
              !decide (en.2.state = .onTruck ∧ en.2.assignment.map Assignment.truck = some n))
          ∧ ts.get? i = none ∧ ∀ j : Nat, j ≠ i → ts.get? j = s.part.yard.trucks.get? j)

/-- OPEN LANE and CLOSE LANE change a lane as the table of R71 gives.
For a lane 0 to 5 both answer OK with the lane state the request leaves. CLOSE LANE makes FREE
CLOSED and OCCUPIED CLOSING, OPEN LANE makes CLOSING OCCUPIED, and neither changes anything else or
any other lane state. OPEN LANE of a CLOSED lane makes it FREE and lets the arbiter evaluate; the
acts that follow leave every stack, place, vehicle and terminal alone. A lane above 5 is refused
BAD_VALUE. That OPEN LANE's reply shows the lane before a grant that follows is the model's reading
(log entry 6).
(R71, R73) -/
def Obligations.OpenAndCloseLane : Prop :=
  ∀ (h : Header) (l : Nat) (s : State), s.takesNow →
    (5 < l → exec (.openLane h l) s = .next (s.refused h 0x20#8 .badValue)
      ∧ exec (.closeLane h l) s = .next (s.refused h 0x21#8 .badValue))
    ∧ (l ≤ 5 → ∀ r : Lane, s.part.yard.lanes[l]? = some r →
      (r.state = .free → exec (.openLane h l) s = .next (s.replied h 0x20#8 .ok [0#8] s.part))
      ∧ (r.state = .occupied → exec (.openLane h l) s = .next (s.replied h 0x20#8 .ok [1#8] s.part))
      ∧ (r.state = .closing → exec (.openLane h l) s = .next (s.replied h 0x20#8 .ok [1#8]
          { s.part with yard := { s.part.yard with
            lanes := s.part.yard.lanes.setIfInBounds l { r with state := .occupied } } }))
      ∧ (r.state = .closed →
        ∃ y : Yard,
          exec (.openLane h l) s = .next (s.replied h 0x20#8 .ok [0#8] { s.part with yard := y })
          ∧ y = (({ s.part.yard with
              lanes := s.part.yard.lanes.setIfInBounds l { r with state := .free } }).act).finish
              s.part.env
          ∧ y.still = s.part.yard.still)
      ∧ (r.state = .free → exec (.closeLane h l) s = .next (s.replied h 0x21#8 .ok [3#8]
          { s.part with yard := { s.part.yard with
            lanes := s.part.yard.lanes.setIfInBounds l { r with state := .closed } } }))
      ∧ (r.state = .occupied → exec (.closeLane h l) s = .next (s.replied h 0x21#8 .ok [2#8]
          { s.part with yard := { s.part.yard with
            lanes := s.part.yard.lanes.setIfInBounds l { r with state := .closing } } }))
      ∧ (r.state = .closing → exec (.closeLane h l) s = .next (s.replied h 0x21#8 .ok [2#8] s.part))
      ∧ (r.state = .closed → exec (.closeLane h l) s = .next (s.replied h 0x21#8 .ok [3#8] s.part)))

/-- ENROLL LOADER and its CLEAR ALL exchange bring a terminal up; RETIRE LOADER turns it off.
ENROLL LOADER of an OFF terminal that is not enrolling, with a credit of 1 to 4, is taken: the
terminal takes its credit and action and is enrolling, its CLEAR ALL joins the pending ones, and the
reply waits. Enrolling: BUSY; ACTIVE or SILENT: WRONG_STATE. The first pending CLEAR ALL exchange
begins when none is in flight, without a change of the terminal last served. A well-formed answer,
IDLE or any other, makes the terminal ACTIVE and readies the reply with state 1; from a terminal
that holds no move, a report in it is stale. RETIRE LOADER of an OFF terminal: OK, no change; of
another: OK, and the terminal is OFF with no notices and no probe time; enrolling: BUSY. That an
exchange with a terminal ends the wait for its late answer is the model's choice (log entry 17).
(R126, R127, R128, R132) -/
def Obligations.EnrollAndRetire : Prop :=
  (∀ (h : Header) (t c : Nat) (a : SilenceAction) (s : State), s.takesNow → t ≤ 7 → 1 ≤ c → c ≤ 4 →
    ((s.part.yard.terminal t).enrolling = true →
      exec (.enrollLoader h t c a.code) s = .next (s.refused h 0x24#8 .busy))
    ∧ ((s.part.yard.terminal t).enrolling = false → (s.part.yard.terminal t).state ≠ .off →
      exec (.enrollLoader h t c a.code) s = .next (s.refused h 0x24#8 .wrongState))
    ∧ ((s.part.yard.terminal t).enrolling = false → (s.part.yard.terminal t).state = .off →
      ∃ y : Yard,
        exec (.enrollLoader h t c a.code) s = .next (s.withPart { s.part with
          yard := y
          host := { s.part.host with awaiting := s.part.host.awaiting ++
            [{ kind := 0x24#8, seq := h.seq, check := h.check, what := .enroll t }] } })
        ∧ y = { s.part.yard with loader := { s.part.yard.loader with
            terminals := y.loader.terminals
            clearAlls := s.part.yard.loader.clearAlls ++ [t] } }
        ∧ y.terminal t = { s.part.yard.terminal t with
            credit := c, silence := a, enrolling := true }
        ∧ ∀ u : Nat, u ≠ t → y.terminal u = s.part.yard.terminal u))
  ∧ (∀ (s : State) (t : Nat) (rest : List Nat), s.part.running = true →
    s.part.yard.loader.exchange = none → s.part.yard.loader.clearAlls = t :: rest →
    exec .clearAllExchange s = .next (s.withPart { s.part with yard := { s.part.yard with
      loader := { s.part.yard.loader with
        exchange := some { terminal := t, message := .clearAll, purpose := .clearAll, resends := 0,
                           timeoutMs := s.part.settings.link.timeoutMs,
                           retryLimit := s.part.settings.link.retryLimit }
        clearAlls := rest
        late := s.part.yard.loader.late.filter fun r => r.terminal != t } } }))
  ∧ (∀ (s : State) (t : Nat) (x : Exchange), s.part.running = true → t ≤ 7 →
    s.part.yard.loader.exchange = some x → x.terminal = t → x.purpose = .clearAll →
    ∃ y : Yard,
      exec (.idle (.clear t)) s = .next (s.withPart { s.part with
        yard := y, host := s.part.host.waitOver (.enroll t) [1#8] })
      ∧ (y.terminal t).state = .active ∧ (y.terminal t).enrolling = false
      ∧ (y.terminal t).lastHeard = some s.part.clock ∧ y.loader.exchange = none
      ∧ y.stack = s.part.yard.stack)
  ∧ (∀ (s : State) (t : Nat) (x : Exchange) (a : Answer), s.part.running = true → t ≤ 7 →
    s.part.yard.loader.exchange = some x → x.terminal = t → x.purpose = .clearAll → a.wf = true →
    ∃ y : Yard,
      exec (answerRow (.clear t) a) s = .next (s.withPart { s.part with
        yard := y, host := s.part.host.waitOver (.enroll t) [1#8] })
      ∧ (y.terminal t).state = .active ∧ (y.terminal t).enrolling = false
      ∧ (y.terminal t).lastHeard = some s.part.clock ∧ y.loader.exchange = none
      ∧ ((∀ n : Nat, s.part.yard.moveAt? t n = none) →
        y.stack = s.part.yard.stack
        ∧ (a.isReport = true → holdsFlag y.events .staleDone = true)))
  ∧ ∀ (h : Header) (t : Nat) (s : State), s.takesNow → t ≤ 7 →
    ((s.part.yard.terminal t).enrolling = true →
      exec (.retireLoader h t) s = .next (s.refused h 0x25#8 .busy))
    ∧ ((s.part.yard.terminal t).enrolling = false → (s.part.yard.terminal t).state = .off →
      exec (.retireLoader h t) s = .next (s.replied h 0x25#8 .ok [] s.part))
    ∧ ((s.part.yard.terminal t).enrolling = false → (s.part.yard.terminal t).state ≠ .off →
      ∃ y : Yard,
        exec (.retireLoader h t) s = .next (s.replied h 0x25#8 .ok [] { s.part with yard := y })
        ∧ y = (s.part.yard.act.retire s.part.env t).finish s.part.env
        ∧ (y.terminal t).state = .off ∧ (y.terminal t).notices = []
        ∧ (y.terminal t).nextProbe = none)

/-- WEIGH IN and WEIGH OUT arm a weighing, ABORT WEIGHING drops it, and each is refused in its order.
With no weighing armed, WEIGH IN of an ANNOUNCED or QUEUED truck and WEIGH OUT of a LOADED one
answer OK with the deadline, now plus the weigh timeout, and make the arming record present with
both readings absent; nothing else changes. No record of the truck: NOT_FOUND; armed: BUSY; another
state: WRONG_STATE; the number 0: BAD_VALUE. ABORT WEIGHING makes the record absent and answers OK
with its truck and direction; with none armed WRONG_STATE.
(R146, R148, R169) -/
def Obligations.ArmAndAbort : Prop :=
  (∀ (h : Header) (s : State), s.takesNow →
    exec (.weighIn h 0) s = .next (s.refused h 0x28#8 .badValue)
    ∧ exec (.weighOut h 0) s = .next (s.refused h 0x29#8 .badValue))
  ∧ (∀ (h : Header) (n : Nat) (s : State), s.takesNow → 1 ≤ n → n ≤ 65535 →
    (s.part.yard.truckState? n = none →
      exec (.weighIn h n) s = .next (s.refused h 0x28#8 .notFound)
      ∧ exec (.weighOut h n) s = .next (s.refused h 0x29#8 .notFound))
    ∧ ∀ st : TruckState, s.part.yard.truckState? n = some st →
      (s.part.weigh.arming ≠ none →
        exec (.weighIn h n) s = .next (s.refused h 0x28#8 .busy)
        ∧ exec (.weighOut h n) s = .next (s.refused h 0x29#8 .busy))
      ∧ (s.part.weigh.arming = none →
        let due : Nat := min (s.part.clock + s.part.settings.weighing.timeout) 4294967295
        let armed : Direction → Arming := fun d =>
          { truck := n, direction := d, deadline := due, deck1 := none, deck2 := none }
        (st = .announced ∨ st = .queued →
          exec (.weighIn h n) s = .next (s.replied h 0x28#8 .ok (timeBytes due)
            { s.part with weigh := { s.part.weigh with arming := some (armed .weighIn) } }))
        ∧ (st ≠ .announced → st ≠ .queued →
          exec (.weighIn h n) s = .next (s.refused h 0x28#8 .wrongState))
        ∧ (st = .loaded →
          exec (.weighOut h n) s = .next (s.replied h 0x29#8 .ok (timeBytes due)
            { s.part with weigh := { s.part.weigh with arming := some (armed .weighOut) } }))
        ∧ (st ≠ .loaded → exec (.weighOut h n) s = .next (s.refused h 0x29#8 .wrongState))))
  ∧ ∀ (h : Header) (s : State), s.takesNow →
    (s.part.weigh.arming = none →
      exec (.abortWeighing h) s = .next (s.refused h 0x2A#8 .wrongState))
    ∧ ∀ a : Arming, s.part.weigh.arming = some a →
      exec (.abortWeighing h) s = .next (s.replied h 0x2A#8 .ok
        (twoBytes a.truck ++ [byte a.direction.code])
        { s.part with weigh := { s.part.weigh with arming := none } })

/-- RESTART replies OK and closes the link to frames; its sequence begins once the reply has left.
RESTART, on a part that can take it, answers OK with no body, and from then on no frame can be
taken; nothing else changes. The restart sequence row runs the sequence when the RESTART reply has
left and no store is in flight, and otherwise leaves the state as it is.
(R161, R166, R171) -/
def Obligations.RestartTaken : Prop :=
  (∀ (h : Header) (s : State), s.takesNow →
    exec (.restart h) s = .next (s.replied h 0x2E#8 .ok []
      { s.part with host := { s.part.host with closing := true } }))
  ∧ (∀ h : HostLink, h.closing = true → h.canTake = false)
  ∧ ∀ (s : State) (pins : Pins), s.part.running = true →
    (s.part.host.restartDue = true → (∀ st tr, s.part.flight ≠ .store st tr) →
      exec (.restartSequence pins) s = .next (s.withPart (s.part.restart pins)))
    ∧ ((s.part.host.restartDue = false ∨ ∃ st tr, s.part.flight = .store st tr) →
      exec (.restartSequence pins) s = .next s)

/-- The receiver begins a frame at a lead byte, and cuts a frame short at a bad LEN, a stop error or a
gap.
In HUNTING the lead byte begins a frame with nothing collected. In a frame that it does not end, a
byte 0xC3 is collected as any other. A LEN above 120 as the second byte, and a byte with a stop-bit
error, drop the frame, set LINK_ERROR and return to HUNTING. A gap does so too, and the byte that
ends it is judged afresh: a lead byte begins a new frame. Nothing else changes.
(R156) -/
def Obligations.FrameReceiver : Prop :=
  ∀ s : State, s.part.running = true →
    let hunting : Part := ({ s.part with host := { s.part.host with receiver := .hunting } }).raise
      .linkError
    (s.part.host.receiver = .hunting →
      exec .hostFrameBegin s = .next (s.withPart
        { s.part with host := { s.part.host with receiver := .inFrame [] } })
      ∧ (∀ (b : Byte) (err : Bool), b ≠ 0xC3#8 ∨ err = true →
        exec (.hostFrameGap b err) s = .next s))
    ∧ ∀ bytes : List Byte, s.part.host.receiver = .inFrame bytes →
      (lenTooLong (bytes ++ [0xC3#8]) = false → frameWhole (bytes ++ [0xC3#8]) = false →
        exec .hostFrameBegin s = .next (s.withPart
          { s.part with host := { s.part.host with receiver := .inFrame (bytes ++ [0xC3#8]) } }))
      ∧ (∀ b : Byte, exec (.hostFrameCutShort [b] true) s = .next (s.withPart hunting))
      ∧ (bytes = [] → ∀ len : Byte, 120 < len.toNat →
        exec (.hostFrameCutShort [len] false) s = .next (s.withPart hunting))
      ∧ exec (.hostFrameGap 0xC3#8 false) s = .next (s.withPart
          { hunting with host := { hunting.host with receiver := .inFrame [] } })
      ∧ ∀ (b : Byte) (err : Bool), b ≠ 0xC3#8 ∨ err = true →
        exec (.hostFrameGap b err) s = .next (s.withPart hunting)

/-- A ready reply begins to leave while HRDY is high; when it has left its buffer is free.
With no reply leaving and the restart not due, a sample of HRDY high starts the oldest ready reply;
a low sample starts none. When the last byte of the leaving reply has left, its buffer or slot is
free, the restart is due if it was the RESTART reply, and the oldest inbound frames are taken while
a reply buffer is free; with none inbound nothing else changes.
(R158, R159, R160, R161) -/
def Obligations.RepliesLeave : Prop :=
  ∀ s : State, s.part.running = true →
    (∀ (r : ReadyReply) (rest : List ReadyReply), s.part.host.leaving = none →
      s.part.host.restartDue = false → s.part.host.ready = r :: rest →
      exec (.replyStart true) s = .next (s.withPart { s.part with host :=
        { s.part.host with hrdy := true, leaving := some r, ready := rest } }))
    ∧ exec (.replyStart false) s = .next (s.withPart
        { s.part with host := { s.part.host with hrdy := false } })
    ∧ ∀ r : ReadyReply, s.part.host.leaving = some r →
      exec .replySent s = .next (s.withPart (Part.takeFrames 2 { s.part with host :=
        { s.part.host with
          leaving := none
          restartDue := s.part.host.restartDue || decide (r.holder = .restart) } }))
      ∧ (s.part.host.inbound = [] →
        exec .replySent s = .next (s.withPart { s.part with host :=
          { s.part.host with
            leaving := none
            restartDue := s.part.host.restartDue || decide (r.holder = .restart) } }))

/-- The supplies and the RESET pin stop the part, set the latch, and begin the restart sequence.
POWER ON of a part without VDD and not held in RESET runs the restart sequence; held in RESET it
only returns VDD. POWER FAIL takes VDD away and ends a store or recall in flight. The latch is set
below the retention level while VDD is absent, and not while it is present. RESET ASSERT holds the
part and ends a store or recall in flight. RESET RELEASE runs the restart sequence where VDD is
present, and else only releases. That the sequence waits for the release of RESET at a power-on is
the model's reading (log entry 18).
(R166, R170, R171) -/
def Obligations.SupplyRows : Prop :=
  ∀ (s : State) (pins : Pins),
    (s.part.power.vdd = false → s.part.power.resetPin = false →
      exec (.powerOn pins) s = .next (s.withPart
        (({ s.part with power := { s.part.power with vdd := true } }).restart pins)))
    ∧ (s.part.power.vdd = false → s.part.power.resetPin = true →
      exec (.powerOn pins) s = .next (s.withPart
        { s.part with power := { s.part.power with vdd := true } }))
    ∧ exec .powerFail s = .next (s.withPart
        { s.part with power := { s.part.power with vdd := false }, flight := .nothing })
    ∧ (s.part.power.vdd = false →
      exec .retentionLatchSet s = .next (s.withPart
        { s.part with power := { s.part.power with latch := true } }))
    ∧ (s.part.power.vdd = true → exec .retentionLatchSet s = .next s)
    ∧ exec .resetAssert s = .next (s.withPart
        { s.part with power := { s.part.power with resetPin := true }, flight := .nothing })
    ∧ (s.part.power.resetPin = true → s.part.power.vdd = true →
      exec (.resetRelease pins) s = .next (s.withPart
        (({ s.part with power := { s.part.power with resetPin := false } }).restart pins)))
    ∧ (s.part.power.resetPin = true → s.part.power.vdd = false →
      exec (.resetRelease pins) s = .next (s.withPart
        { s.part with power := { s.part.power with resetPin := false } }))

/-- What every restart sequence leaves: settings, events, links, clock, the tables by latch and audit,
and what the fix-ups make of jobs, packs and trucks.
After the sequence, from every state: the settings are the stored ones, or from a bad store the
factory defaults, with STORE_FAIL and every trim 1,000; RESTART is set; terminals are OFF; no move,
exchange, text or claim is held; link buffers, weighbridge unit and flight are as at the start;
levels and straps are those found, HALT_ON set when HALT is asserted, the drying deadline set
afresh. With the latch found set it is cleared, the clock is 0, RETAIN_LOST set, the tables empty.
Otherwise the clock is kept: a failing audit is reported, sets AUDIT_FAIL and empties the tables; a
passing one keeps them, with the trims on a good store, and the yard is what the fix-ups and all
that follows make of them; where the packs that the fix-ups free are offered, and the order of the
jobs within a step, are the model's choice (log entry 39). No job then has a move. Emptied tables
take the trims of a good store. The fix-ups: a job SENT or ACCEPTED is WAITING and its pack back in
its prior state; one LIFTED is SUSPENDED, its pack in DOUBT; of an UNLOADING truck a LOAD job with a
move ends, its pack FREE, or in DOUBT once lifted, and unassigned; a queued job is WAITING, a
SUSPENDED one stays, and a LOADING truck is PAUSED.
(R2, R22, R41, R56, R66, R122, R123, R124, R162, R166, R171, R172) -/
def Obligations.RestartLeaves : Prop :=
  (∀ (p : Part) (pins : Pins),
    let q := p.restart pins
    q.settings = (if p.store.good then p.store.settings else Settings.factory)
    ∧ q.store = p.store
    ∧ holdsFlag q.yard.events .restart = true
    ∧ (p.store.good = false → holdsFlag q.yard.events .storeFail = true ∧ q.trims = factoryTrims)
    ∧ q.yard.loader = LoaderLink.initial ∧ q.yard.claims.entries = []
    ∧ q.host = HostLink.initial (pins.baud % 4) ∧ q.weigh = WeighUnit.initial ∧ q.flight = .nothing
    ∧ q.halt = pins.halt ∧ (pins.halt = true → holdsFlag q.yard.events .haltOn = true)
    ∧ q.weather.rainLevel = pins.rain ∧ q.weather.prescaleCount = 0
    ∧ q.weather.deadline = (if q.settings.weather.interval = 0 then none
        else some (min (q.clock + q.settings.weather.interval * 60) 4294967295))
    ∧ q.power = { p.power with latch := false }
    ∧ (p.power.latch = true →
      q.clock = 0 ∧ holdsFlag q.yard.events .retainLost = true ∧ q.lastAudit = .notRun
      ∧ q.yard.stack.entries = [] ∧ q.yard.packs.entries = [] ∧ q.yard.trucks.entries = []
      ∧ q.yard.jobs.entries = [] ∧ q.yard.lanes = Vector.replicate 6 Lane.initial
      ∧ (p.store.good = true → q.trims = p.store.trims))
    ∧ (p.power.latch = false →
      q.clock = p.clock
      ∧ (p.store.good = true → q.lastAudit = .pass → q.trims = p.trims)
      ∧ (∀ (n : Nat) (i : AuditItem), p.yard.audit = .fails n i →
        q.lastAudit = .fails n i ∧ holdsFlag q.yard.events .auditFail = true
        ∧ q.yard.stack.entries = [] ∧ q.yard.packs.entries = [] ∧ q.yard.trucks.entries = []
        ∧ q.yard.jobs.entries = [] ∧ q.yard.lanes = Vector.replicate 6 Lane.initial
        ∧ (p.store.good = true → q.trims = p.store.trims))
      ∧ (p.yard.audit = .pass →
        q.lastAudit = .pass
        ∧ q.yard = ({ p.yard with
            claims := ⟨[]⟩
            queues := Vector.replicate 4 []
            loader := LoaderLink.initial
            events := ((if p.store.good then [Event.restart] else [Event.restart, Event.storeFail])
              ++ (if pins.halt then [Event.haltOn] else [])).foldl raiseIn 0#24 } : Yard).restarted q.env))
    ∧ ∀ (n : Nat) (j : Job), q.yard.job? n = some j →
      j.move = none ∧ j.state ≠ .sent ∧ j.state ≠ .accepted ∧ j.state ≠ .lifted)
  ∧ ∀ y : Yard, y.Tables →
    let f : Yard := y.act.fixUps.yard
    f.claims.entries = []
    ∧ (∀ n : Nat, y.truckState? n = some .loading → f.truckState? n = some .paused)
    ∧ ∀ (n : Nat) (j : Job), y.job? n = some j →
      (j.state.judged = true →
        f.job? n = some { j with state := .waiting, bound := none, move := none })
      ∧ (j.state = .suspended →
        f.job? n = some { j with state := .suspended, bound := none, move := none })
      ∧ ∀ k : Pack, y.pack? j.tag = some k →
        (∀ (u : Nat) (i : Job), y.job? u = some i → i.tag = j.tag → u = n) →
        (y.cancelledLoad? j = none →
          (j.state = .sent ∨ j.state = .accepted →
            f.job? n = some { j with state := .waiting, bound := none, move := none }
            ∧ ∃ k' : Pack, f.pack? j.tag = some k'
              ∧ { k' with place := k.place }
                = { k with state := k.prior.getD k.state, prior := none })
          ∧ (j.state = .lifted →
            f.job? n = some { j with state := .suspended, bound := none, move := none }
            ∧ (f.pack? j.tag).map Pack.state = some .doubt
            ∧ (f.pack? j.tag).map Pack.place = some .nowhere
            ∧ holdsFlag f.events .packDoubt = true))
        ∧ ((y.cancelledLoad? j).isSome = true →
          (j.state = .sent ∨ j.state = .accepted ∨ j.state = .lifted →
            f.job? n = none ∧ (f.pack? j.tag).map Pack.assignment = some none
            ∧ (f.pack? j.tag).map Pack.state
              = some (if j.state = .lifted then .doubt else .free)))

/-- A deadline that the clock has reached expires once: drying, the stock wait, the armed weighing.
At a drying expiry every pack standing in a stack with surface water S above 0 loses max(1, S x P /
100 truncated), every other pack and everything else stays, and the deadline is set to now plus the
interval, or made absent for 0. At a stock-wait expiry the first truck whose deadline has passed is
placed with the packs it has: its deadline is absent and it is LOADING or LOADED, and no longer in
SHORT_WAIT, so that the deadline expires once; no stack, place or water changes. At a weighing
expiry the arming record is dropped and WEIGH_FAIL set; nothing else changes. Where no deadline has
been reached each row changes nothing (the model's reading of a row whose occasion does not hold,
log entry 1).
(R52, R53, R74, R86, R147, R169) -/
def Obligations.Expiries : Prop :=
  ∀ s : State, s.part.running = true →
    (due s.part.clock s.part.weather.deadline = true →
      ∃ y : Yard,
        let loss : Nat → Nat := fun water => max 1 (water * s.part.settings.weather.percent / 100)
        let next : Option Nat := if s.part.settings.weather.interval = 0 then none
          else some (min (s.part.clock + s.part.settings.weather.interval * 60) 4294967295)
        exec .dryingExpiry s = .next (s.withPart { s.part with
          yard := { s.part.yard with packs := y.packs }
          weather := { s.part.weather with deadline := next } })
        ∧ ∀ tag : Nat, y.pack? tag = (s.part.yard.pack? tag).map fun k =>
            if k.standing ∧ 0 < k.water then { k with water := k.water - loss k.water } else k)
    ∧ (due s.part.clock s.part.weather.deadline = false → exec .dryingExpiry s = .next s)
    ∧ (∀ n : Nat, s.part.yard.expiredWait s.part.clock = some n →
      exec .stockWaitExpiry s
        = .next (s.settledAs (s.part.yard.act.endStockWait s.part.env n))
      ∧ ((s.part.yard.act.endStockWait s.part.env n).finish s.part.env).still = s.part.yard.still
      ∧ ∃ t : Truck, (s.part.yard.act.endStockWait s.part.env n).yard.truck? n = some t
        ∧ t.deadline = none ∧ (t.state = .loading ∨ t.state = .loaded))
    ∧ (s.part.yard.expiredWait s.part.clock = none → exec .stockWaitExpiry s = .next s)
    ∧ (∀ a : Arming, s.part.weigh.arming = some a → a.deadline ≤ s.part.clock →
      exec .weighDeadlineExpiry s = .next (s.withPart
        (({ s.part with weigh := { s.part.weigh with arming := none } }).raise .weighFail)))
    ∧ ((∀ a : Arming, s.part.weigh.arming = some a → s.part.clock < a.deadline) →
      exec .weighDeadlineExpiry s = .next s)

/-- A rain pulse counts or is a rain step; a rain step wets the exposed packs; another edge only moves
the level.
While RAIN is not at the level of the selected edge, a pulse moves it there. Below the prescale the
count rises by 1 and nothing else changes. Where the count reaches the prescale it becomes 0, every
exposed pack gains footprint x depth x retention / 100 grams, truncated and held at the cap, every
other pack and everything else stays, and the drying deadline is set afresh. The row RAIN STEP
stands for such a completing pulse. An edge of the other kind moves the level back and changes
nothing else. That the pulse row does the whole pulse is the model's reading (log entry 11).
(R47, R48, R49) -/
def Obligations.RainRows : Prop :=
  ∀ s : State, s.part.running = true →
    let w : WeatherSettings := s.part.settings.weather
    let level : Bool := decide (w.edge = .rising)
    (s.part.weather.rainLevel ≠ level →
      (s.part.weather.prescaleCount + 1 < w.prescale →
        exec .rainPulse s = .next (s.withPart { s.part with weather :=
          { s.part.weather with
            rainLevel := level
            prescaleCount := s.part.weather.prescaleCount + 1 } })
        ∧ exec .rainStep s = .next s)
      ∧ (w.prescale ≤ s.part.weather.prescaleCount + 1 →
        let wet : Pack → Nat := fun k =>
          min (k.water + k.footprint * w.depth * w.retention / 100) (w.capKg * 1000)
        ∃ (t : State) (y : Yard),
          t = s.withPart { s.part with
            yard := { s.part.yard with packs := y.packs }
            weather :=
              { rainLevel := level
                prescaleCount := 0
                deadline := if w.interval = 0 then none
                  else some (min (s.part.clock + w.interval * 60) 4294967295) } }
          ∧ exec .rainPulse s = .next t ∧ exec .rainStep s = .next t
          ∧ ∀ tag : Nat, y.pack? tag = (s.part.yard.pack? tag).map fun k =>
              if s.part.yard.exposed s.part.settings tag k then { k with water := wet k } else k)
      ∧ exec .rainOtherEdge s = .next s)
    ∧ (s.part.weather.rainLevel = level →
      exec .rainPulse s = .next s ∧ exec .rainStep s = .next s
      ∧ exec .rainOtherEdge s = .next (s.withPart
          { s.part with weather := { s.part.weather with rainLevel := !level } }))

/-- HALT stops sends and its release serves the queues; a send takes a job off its queue with a claim
and a credit, and the end of a move gives them back.
A change of HALT to asserted records the level and sets HALT_ON; nothing else changes. A change to
released records the level, sets HALT_OFF, and serves every zone queue; what the service may change
leaves every stack, place, vehicle and terminal alone. A level that HALT already has is no change.
While HALT is asserted, or a store or a recall is in flight, the service of the queues sends nothing
and changes nothing. A send of a queued job goes to an ACTIVE terminal with a credit free, and an
aside or clearance to a clear staging bay with room: the job is SENT with its move number and leaves
its queue, the move is SENT and undelivered and joins the tail of its terminal's list, the bay has
one claim more, the pack is MOVING with its state kept as the prior one, and the counter goes on,
from 65,535 to 1; the number is of no outstanding move where terminals and moves agree, and queues
that list each queued job of their zone once still do. A move that ends leaves its terminal's list
with every notice that names it, and its claim is given back.
(R7, R8, R115, R117, R118, R119, R120, R132, R140) -/
def Obligations.HaltRows : Prop :=
  (∀ s : State, s.part.running = true →
    (s.part.halt = false →
      exec .haltAssert s = .next (s.withPart (({ s.part with halt := true }).raise .haltOn))
      ∧ exec .haltRelease s = .next s)
    ∧ (s.part.halt = true →
      exec .haltAssert s = .next s
      ∧ ∃ y : Yard,
        exec .haltRelease s = .next (s.withPart { s.part with halt := false, yard := y })
        ∧ y = (s.part.yard.raise .haltOff).serveAll
            { s.part.env with dispatch := decide (s.part.flight = .nothing) }
        ∧ y.still = (s.part.yard.raise .haltOff).still))
  ∧ (∀ (p : Part) (y : Yard), p.halt = true ∨ p.flight ≠ .nothing → y.serveAll p.env = y)
  ∧ (∀ (e : Env) (y : Yard), e.dispatch = false → y.serveAll e = y)
  ∧ (∀ (e : Env) (y : Yard) (zone n : Nat) (j : Job) (pl : SendPlan), y.job? n = some j →
    y.sendPlan? e zone n = some pl →
    let k : Nat := freeMoveNumber y.loader.moves 33 y.loader.counter
    let u : Yard := y.send pl
    let was : Terminal := y.terminal pl.terminal
    was.state = .active ∧ was.moves.length < was.credit
    ∧ (∀ b : Nat, pl.dest = .bay b →
      y.clearStaging e.settings b = true ∧ 0 < y.room e.settings b
      ∧ u.claimsOf b = y.claimsOf b + 1)
    ∧ (∀ b : Nat, pl.dest ≠ .bay b → u.claimsOf b = y.claimsOf b)
    ∧ u.job? n = some { j with state := .sent, bound := none, move := some k }
    ∧ (∀ z : Nat, u.queue z = (y.queue z).filter fun o => o != n)
    ∧ u.move? k = some { kind := j.moveKind, job := n, tag := j.tag, terminal := pl.terminal,
                         source := pl.source, dest := pl.dest, state := .sent, delivered := false }
    ∧ u.terminal pl.terminal = { was with moves := was.moves ++ [k] }
    ∧ (∀ p : Pack, y.pack? j.tag = some p →
      u.pack? j.tag = some { p with prior := some p.state, state := .moving })
    ∧ u.loader.counter = (if k < 65535 then k + 1 else 1)
    ∧ (y.Tables → y.Staging → y.move? k = none)
    ∧ (y.Queued e → u.Queued e))
  ∧ ∀ (y : Yard) (n : Nat) (m : Move), y.move? n = some m → m.terminal ≤ 7 →
    (y.dropMove n).move? n = none
    ∧ (∀ b : Nat, (y.dropMove n).claimsOf b
        = if m.dest = .bay b then y.claimsOf b - 1 else y.claimsOf b)
    ∧ (y.dropMove n).terminal m.terminal = { y.terminal m.terminal with
        moves := (y.terminal m.terminal).moves.filter fun o => o != n
        notices := (y.terminal m.terminal).notices.filter fun o => o.move != n }

/-- The weighbridge receiver begins, ends and discards records, and a reading goes to the last reading
and the armed weighing.
In HUNTING a character without error begins a record only when it is a deck digit. While COLLECTING,
a character with an error, a sixteenth character that is not the end character, and an end character
after a record that is not well formed are discards: the receiver hunts, the counter rises but not
above 255, and WEIGH_LINE is set. An end character after a well-formed record writes the last
reading of its deck, and hands a stable reading to the armed weighing, where it replaces the reading
of its deck. Nothing else changes while the other deck has no reading.
(R143, R144, R147) -/
def Obligations.WeighLineRows : Prop :=
  ∀ s : State, s.part.running = true →
    let st : WeighSettings := s.part.settings.weighing
    let discarded : Part := ({ s.part with weigh := { s.part.weigh with
      receiver := .hunting, discards := min 255 (s.part.weigh.discards + 1) } }).raise .weighLine
    (s.part.weigh.receiver = .hunting → ∀ c : LineChar,
      (charGood st.parity c = true → (c.data = 49 ∨ c.data = 50) →
        exec (.weighRecordBegin c) s = .next (s.withPart
          { s.part with weigh := { s.part.weigh with receiver := .collecting [c.data] } }))
      ∧ (charGood st.parity c = false ∨ (c.data ≠ 49 ∧ c.data ≠ 50) →
        exec (.weighRecordBegin c) s = .next s))
    ∧ ∀ chars : List Nat, s.part.weigh.receiver = .collecting chars → ∀ c : LineChar,
      (charGood st.parity c = false → exec (.weighDiscard [c]) s = .next (s.withPart discarded))
      ∧ (charGood st.parity c = true → c.data ≠ st.endChar →
        (15 ≤ chars.length → exec (.weighDiscard [c]) s = .next (s.withPart discarded))
        ∧ (chars.length < 15 → exec (.weighRecordBegin c) s = .next (s.withPart
            { s.part with weigh :=
              { s.part.weigh with receiver := .collecting (chars ++ [c.data]) } })))
      ∧ (charGood st.parity c = true → c.data = st.endChar →
        (parseRecord chars = none → exec (.weighDiscard [c]) s = .next (s.withPart discarded))
        ∧ ∀ (deck : Nat) (raw : Int) (stable : Bool), parseRecord chars = some (deck, raw, stable) →
          let value : Nat := deckValue raw (if deck = 1 then st.offset1 else st.offset2)
          let last : Reading := { raw := raw, value := value, stable := stable, time := s.part.clock }
          let read : WeighUnit := { s.part.weigh with
            receiver := .hunting
            last1 := if deck = 1 then some last else s.part.weigh.last1
            last2 := if deck = 1 then s.part.weigh.last2 else some last }
          (stable = false ∨ s.part.weigh.arming = none →
            exec (.weighRecord [c]) s = .next (s.withPart { s.part with weigh := read }))
          ∧ ∀ a : Arming, stable = true → s.part.weigh.arming = some a →
            (deck = 1 → a.deck2 = none →
              exec (.weighRecord [c]) s = .next (s.withPart { s.part with weigh :=
                { read with arming := some { a with deck1 := some value } } }))
            ∧ (deck = 2 → a.deck1 = none →
              exec (.weighRecord [c]) s = .next (s.withPart { s.part with weigh :=
                { read with arming := some { a with deck2 := some value } } })))

/-- The reading of the second deck completes the weighing: tares at the gate, the judgement at weigh-
out.
When a stable well-formed record ends and the other deck has its reading, the weighing completes
with deck 1 as front and deck 2 as rear, and the arming record is dropped. IN: an ANNOUNCED or
QUEUED truck takes both tares and is QUEUED, with WEIGH_DONE; in another state nothing of it changes
and WEIGH_FAIL is set. OUT: the measurements are stored; the trims change only at the first weigh-
out, as R151 gives; within its own limits the truck becomes CLEARED with TRUCK_CLEARED, otherwise
TRUCK_OVER is set and, where a pack can come off, it becomes OVER; WEIGH_DONE is set. Stacks, places
and every other truck stay. The acts that follow (grants, dispatch) leave stacks, places and
vehicles alone.
(R147, R149, R150, R151, R152) -/
def Obligations.WeighCompletes : Prop :=
  ∀ (s : State) (chars : List Nat) (c : LineChar) (deck : Nat) (raw : Int) (a : Arming)
    (front rear : Nat), s.part.running = true → s.part.weigh.receiver = .collecting chars →
    charGood s.part.settings.weighing.parity c = true →
    c.data = s.part.settings.weighing.endChar → parseRecord chars = some (deck, raw, true) →
    s.part.weigh.arming = some a →
    ((deck = 1 ∧ front = deckValue raw s.part.settings.weighing.offset1 ∧ a.deck2 = some rear)
      ∨ (deck = 2 ∧ a.deck1 = some front ∧ rear = deckValue raw s.part.settings.weighing.offset2)) →
    let last : Reading :=
      { raw := raw, value := if deck = 1 then front else rear, stable := true, time := s.part.clock }
    let read : WeighUnit := { s.part.weigh with
      receiver := .hunting
      arming := none
      last1 := if deck = 1 then some last else s.part.weigh.last1
      last2 := if deck = 1 then s.part.weigh.last2 else some last }
    (a.direction = .weighIn →
      let act : Act := s.part.yard.act.weighedIn a.truck front rear
      exec (.weighRecord [c]) s = .next (s.withPart { s.part with
          weigh := read, yard := act.finish s.part.env })
        ∧ (act.finish s.part.env).still = act.yard.still
        ∧ ((s.part.yard.truckState? a.truck = some .announced
            ∨ s.part.yard.truckState? a.truck = some .queued) →
          act.yard = (s.part.yard.modifyTruck a.truck fun t =>
            { t with tare := some { front := front, rear := rear }, state := .queued }).raise
            .weighDone)
        ∧ (s.part.yard.truckState? a.truck ≠ some .announced →
          s.part.yard.truckState? a.truck ≠ some .queued →
          act.yard = s.part.yard.raise .weighFail))
    ∧ (a.direction = .weighOut → ∀ t : Truck, s.part.yard.truck? a.truck = some t →
      let act : Act := s.part.yard.act.weighedOut a.truck front rear
      ∃ tr : Vector Nat 8,
        exec (.weighRecord [c]) s = .next (s.withPart { s.part with
          weigh := read, trims := tr, yard := act.finish { s.part.env with trims := tr } })
        ∧ (act.finish { s.part.env with trims := tr }).still = act.yard.still
        ∧ act.yard.stack = s.part.yard.stack
        ∧ (∀ tag : Nat, (act.yard.pack? tag).map Pack.still
            = (s.part.yard.pack? tag).map Pack.still)
        ∧ (s.part.yard.trucks.wf = true → ∀ n : Nat, n ≠ a.truck →
          act.yard.truck? n = s.part.yard.truck? n)
        ∧ (t.weighedOut = true → tr = s.part.trims)
        ∧ (t.weighedOut = false → tr = s.part.trimsAfter t front rear)
        ∧ holdsFlag act.yard.events .weighDone = true
        ∧ (∃ u, act.yard.truck? a.truck = some u ∧ u.weighedOut = true
            ∧ u.measured = some { front := front, rear := rear }
            ∧ (front ≤ t.frontLimit → rear ≤ t.rearLimit → front + rear ≤ t.grossLimit →
              u.state = .cleared ∧ u.lane = none))
        ∧ (front ≤ t.frontLimit → rear ≤ t.rearLimit → front + rear ≤ t.grossLimit →
          holdsFlag act.yard.events .truckCleared = true)
        ∧ ((t.frontLimit < front ∨ t.rearLimit < rear ∨ t.grossLimit < front + rear) →
          holdsFlag act.yard.events .truckOver = true
          ∧ ∀ (r : BedRef) (tag : Nat),
            s.part.yard.chooseOffload { t with
              measured := some { front := front, rear := rear }, weighedOut := true }
              = some (r, tag) →
            act.yard.truckState? a.truck = some .over))

/-- The next turn goes round the terminals; an ACTIVE one gets a notice, a move or a POLL, a SILENT one
a probe.
With the line free, the turn goes to the first terminal after the one last served, in rising order
and round from 7 to 0, that is not enrolling and is ACTIVE, or SILENT with its probe time reached.
An ACTIVE terminal is sent its oldest notice, or else, unless HALT is asserted, its oldest
undelivered move, or else a POLL, with the timeout and resends as set; a SILENT one its oldest
notice or a POLL, without resends. The exchange is in flight, the terminal is the one last served,
and nothing else changes but that a late answer of that terminal is no longer awaited, which is the
model's choice (log entry 17).
(R125, R128, R131, R140) -/
def Obligations.TurnAndProbe : Prop :=
  ∀ (s : State) (t : Nat), s.part.running = true → s.part.yard.loader.exchange = none →
    s.part.yard.loader.clearAlls = [] → s.part.yard.loader.lastServed ≤ 7 → t ≤ 7 →
    (s.part.yard.terminal t).qualifies s.part.clock = true →
    (∀ u : Nat, u ≤ 7 →
      (u + 7 - s.part.yard.loader.lastServed) % 8 < (t + 7 - s.part.yard.loader.lastServed) % 8 →
      (s.part.yard.terminal u).qualifies s.part.clock = false) →
    let begun : LinkMessage → Purpose → Nat → Part := fun m p limit =>
      { s.part with yard := { s.part.yard with loader := { s.part.yard.loader with
        exchange := some { terminal := t, message := m, purpose := p, resends := 0,
                           timeoutMs := s.part.settings.link.timeoutMs, retryLimit := limit }
        late := s.part.yard.loader.late.filter fun r => r.terminal != t
        lastServed := t } } }
    let k : Terminal := s.part.yard.terminal t
    (k.state = .active →
      ∃ m : LinkMessage,
        exec .loaderTurn s
          = .next (s.withPart (begun m .turn s.part.settings.link.retryLimit))
        ∧ exec .probe s = .next s
        ∧ (∀ n rest, k.notices = .withdraw n :: rest → m = .withdraw n)
        ∧ (∀ n rest, k.notices = .reject n :: rest → m = .reject n)
        ∧ (k.notices = [] → s.part.halt = true → m = .poll)
        ∧ (k.notices = [] → s.part.halt = false →
          (∀ (older later : List Nat) (n : Nat) (mv : Move), k.moves = older ++ n :: later →
            (∀ o ∈ older, ∀ v, s.part.yard.move? o = some v → v.delivered = true) →
            s.part.yard.move? n = some mv → mv.delivered = false →
            m = .move n mv.kind mv.tag mv.source mv.dest)
          ∧ ((∀ o ∈ k.moves, ∀ v, s.part.yard.move? o = some v → v.delivered = true) →
            m = .poll)))
    ∧ (k.state = .silent →
      ∃ m : LinkMessage,
        exec .probe s = .next (s.withPart (begun m .probe 0))
        ∧ exec .loaderTurn s = .next s
        ∧ (∀ n rest, k.notices = .withdraw n :: rest → m = .withdraw n)
        ∧ (∀ n rest, k.notices = .reject n :: rest → m = .reject n)
        ∧ (k.notices = [] → m = .poll))

/-- Without an answer the message is sent again; when the resends are used up the exchange fails by its
purpose, and a recall ends moves one by one.
Below the retry limit an answer timeout sends the same message again: the resend count and the
terminal's retry total rise by 1, and no other terminal changes. At the limit the exchange is over.
A failed turn makes the terminal SILENT with its probe due and LOADER_SILENT; with RECALL its
notices are discarded and its moves recalled, so that none is left. A failed probe only sets the
next probe time. A failed CLEAR ALL leaves the terminal SILENT and not enrolling, with
LOADER_SILENT, and readies its reply with state 2. What follows is what follows every act. A recall
ends each move by itself, oldest send first: its pack is back in its prior state and its job
WAITING, or, once LIFTED, its pack is in DOUBT and its job SUSPENDED; the jobs are judged before the
next. Each timeout also ends the wait for the late answers that then count as missing; with no
exchange in flight it does only that (the model's choice, log entry 17). The model's choice too: the
clearance, needs and offers that recalls cause come after the last of them (log entry 40), and the
probe interval is the one set when the exchange fails (log entry 41).
(R122, R126, R129, R130, R131, R138, R179) -/
def Obligations.AnswerTimeouts : Prop :=
  (∀ s : State, s.part.running = true →
    let waitLess : List LateAnswer → Yard := fun late =>
      { s.part.yard with loader := { s.part.yard.loader with late := late } }
    (s.part.yard.loader.exchange = none →
      exec .answerTimeout s = .next (s.withPart { s.part with yard := waitLess [] }))
    ∧ ∀ x : Exchange, s.part.yard.loader.exchange = some x → x.terminal ≤ 7 →
      let next : Nat := min (s.part.clock + s.part.settings.link.probeInterval) 4294967295
      let y0 : Yard := waitLess (s.part.yard.loader.late.filter fun r =>
        decide (x.timeoutMs < r.timeoutMs))
      let ended : Yard := { y0 with loader := { y0.loader with exchange := none } }
      let failed : Act := y0.act.exchangeFailed s.part.env x
      let y : Yard := failed.finish s.part.env
      (x.resends < x.retryLimit →
        ∃ z : Yard,
          exec .answerTimeout s = .next (s.withPart { s.part with yard := z })
          ∧ z = { y0 with loader := { y0.loader with
              exchange := some { x with resends := x.resends + 1 }
              terminals := z.loader.terminals } }
          ∧ z.terminal x.terminal = { s.part.yard.terminal x.terminal with
              retries := ((s.part.yard.terminal x.terminal).retries + 1) % 65536 }
          ∧ ∀ u : Nat, u ≠ x.terminal → z.terminal u = s.part.yard.terminal u)
      ∧ (x.retryLimit ≤ x.resends → x.purpose = .turn →
        exec .answerTimeout s = .next (s.withPart { s.part with yard := y })
        ∧ y.loader.exchange = none ∧ holdsFlag y.events .loaderSilent = true
        ∧ (y.terminal x.terminal).state = .silent
        ∧ (y.terminal x.terminal).nextProbe = some next
        ∧ ((s.part.yard.terminal x.terminal).silence = .recall →
          (y.terminal x.terminal).notices = []
          ∧ ((∀ n ∈ (s.part.yard.terminal x.terminal).moves,
              (s.part.yard.moveAt? x.terminal n).isSome = true) →
            (y.terminal x.terminal).moves = []))
        ∧ ((s.part.yard.terminal x.terminal).silence = .report →
          failed = (((ended.modifyTerminal x.terminal fun t =>
            { t with state := .silent, enrolling := false, nextProbe := some next }).raise
              .loaderSilent).act)
          ∧ y.stack = s.part.yard.stack
          ∧ (y.terminal x.terminal).notices = (s.part.yard.terminal x.terminal).notices))
      ∧ (x.retryLimit ≤ x.resends → x.purpose = .probe →
        exec .answerTimeout s = .next (s.withPart { s.part with yard := y })
        ∧ failed = (ended.modifyTerminal x.terminal fun t => { t with nextProbe := some next }).act
        ∧ y.loader.exchange = none ∧ y.stack = s.part.yard.stack
        ∧ (y.terminal x.terminal).state = (s.part.yard.terminal x.terminal).state
        ∧ (y.terminal x.terminal).nextProbe = some next)
      ∧ (x.retryLimit ≤ x.resends → x.purpose = .clearAll →
        exec .answerTimeout s = .next (s.withPart { s.part with
          yard := y, host := s.part.host.waitOver (.enroll x.terminal) [2#8] })
        ∧ failed = (((ended.modifyTerminal x.terminal fun t =>
            { t with state := .silent, enrolling := false, nextProbe := some next }).raise
              .loaderSilent).act)
        ∧ y.loader.exchange = none ∧ holdsFlag y.events .loaderSilent = true
        ∧ (y.terminal x.terminal).state = .silent
        ∧ (y.terminal x.terminal).enrolling = false
        ∧ (y.terminal x.terminal).nextProbe = some next))
  ∧ (∀ (e : Env) (a : Act) (t : Nat),
    a.recallAll e t = (a.yard.terminal t).moves.foldl (Act.recall e) a
    ∧ ∀ n : Nat, (a.recall e n).yard = (a.recallMove n).yard.judgeAll e)
  ∧ ∀ (a : Act) (n : Nat) (m : Move) (j : Job) (k : Pack), a.yard.move? n = some m →
    a.yard.job? m.job = some j → a.yard.pack? j.tag = some k → a.yard.cancelledLoad? j = none →
    let z : Yard := (a.recallMove n).yard
    z.move? n = none
    ∧ (m.state ≠ .lifted → z.stack = a.yard.stack
      ∧ z.job? m.job = some { j with state := .waiting, bound := none, move := none }
      ∧ z.pack? j.tag = some { k with state := k.prior.getD k.state, prior := none })
    ∧ (m.state = .lifted →
      z.job? m.job = some { j with state := .suspended, bound := none, move := none }
      ∧ (z.pack? j.tag).map Pack.state = some .doubt
      ∧ (z.pack? j.tag).map Pack.place = some .nowhere
      ∧ holdsFlag z.events .packDoubt = true)

/-- IDLE ends the exchange, TEXT joins the text queue or is lost, and a report of no move is stale.
Any well-formed answer to a turn ends the exchange: none is in flight, last heard is now, and a MOVE
message sent is delivered. IDLE does no more. TEXT joins the text queue of up to eight entries with
the yard time and sets TEXT_WAITING; on a full queue it is discarded with TEXT_LOST. A report naming
a move that its terminal does not hold sets STALE_DONE and changes nothing else. An answer to a
probe makes its terminal ACTIVE again, with LOADER_BACK. The acts that follow are those of any act
(log entry 6).
(R129, R131, R132, R141) -/
def Obligations.IdleTextAndStale : Prop :=
  (∀ (s : State) (t : Nat) (x : Exchange), s.part.running = true → t ≤ 7 →
    s.part.yard.loader.exchange = some x → x.terminal = t → x.purpose = .probe →
    ∃ y : Yard,
      exec (.idle (.clear t)) s = .next (s.withPart { s.part with yard := y })
      ∧ (y.terminal t).state = .active ∧ (y.terminal t).nextProbe = none
      ∧ (y.terminal t).lastHeard = some s.part.clock ∧ holdsFlag y.events .loaderBack = true
      ∧ y.loader.exchange = none ∧ y.stack = s.part.yard.stack)
  ∧ ∀ (s : State) (t : Nat) (x : Exchange), s.inTurn t x →
    ((s.heard x).loader.exchange = none
      ∧ ((s.heard x).terminal t).lastHeard = some s.part.clock
      ∧ (s.heard x).stack = s.part.yard.stack ∧ (s.heard x).events = s.part.yard.events
      ∧ ∀ (n : Nat) (kd : MoveKind) (tag : Nat) (src dst : Spot) (m : Move),
        x.message = .move n kd tag src dst → s.part.yard.moveAt? t n = some m →
        (s.heard x).move? n = some { m with delivered := true })
    ∧ exec (.idle (.clear t)) s = .next (s.settledAs (s.heard x).act)
    ∧ (∀ chars : List Byte, 1 ≤ chars.length → chars.length ≤ 32 → chars.all textChar = true →
      let entry : TextEntry := { terminal := t, time := s.part.clock, chars := chars }
      (s.part.yard.loader.texts.length < 8 →
        exec (.text (.clear t) chars) s = .next (s.settledAs (({ s.heard x with
          loader := { (s.heard x).loader with
            texts := s.part.yard.loader.texts ++ [entry] } }).raise .textWaiting).act))
      ∧ (8 ≤ s.part.yard.loader.texts.length →
        exec (.text (.clear t) chars) s = .next (s.settledAs ((s.heard x).raise .textLost).act)))
    ∧ ∀ n : Nat, 1 ≤ n → n ≤ 65535 → (s.heard x).moveAt? t n = none →
      let staleNow : State := s.settledAs ((s.heard x).raise .staleDone).act
      exec (.accept (.clear t) n) s = .next staleNow ∧ exec (.lifted (.clear t) n) s = .next staleNow
      ∧ exec (.done (.clear t) n none none) s = .next staleNow
      ∧ (∀ r : FaultReason, exec (.fault (.clear t) n r.code) s = .next staleNow)
      ∧ exec (.withdrawn (.clear t) n) s = .next staleNow ∧ exec (.tooLate (.clear t) n) s = .next staleNow

/-- ACCEPT makes a SENT move ACCEPTED, WITHDRAWN ends a move that a cancel asked for, TOO_LATE drops the
notice.
ACCEPT of a SENT move makes the move and its job ACCEPTED; of a move already ACCEPTED or LIFTED it
changes nothing. TOO_LATE drops the WITHDRAW notice and the move goes on. WITHDRAWN of a move that
is not LIFTED, of a LOAD job of an UNLOADING truck, ends the move and deletes the job, and the pack
is FREE where it stands; of any other move it changes nothing (the model's reading, log entry 16).
(R66, R133, R139) -/
def Obligations.AcceptAndWithdraw : Prop :=
  ∀ (s : State) (t : Nat) (x : Exchange) (n : Nat) (m : Move), s.inTurn t x → 1 ≤ n → n ≤ 65535 →
    (s.heard x).moveAt? t n = some m →
    (m.state = .sent → exec (.accept (.clear t) n) s = .next (s.settledAs
      (((s.heard x).modifyMove n fun m => { m with state := .accepted }).modifyJob m.job fun j =>
        { j with state := .accepted }).act))
    ∧ (m.state ≠ .sent → exec (.accept (.clear t) n) s = .next (s.settledAs (s.heard x).act))
    ∧ exec (.tooLate (.clear t) n) s = .next (s.settledAs ((s.heard x).modifyTerminal t fun k =>
        { k with notices := k.notices.filter fun z => z != .withdraw n }).act)
    ∧ (∀ (j : Job) (number : Nat) (r : BedRef), m.state ≠ .lifted →
      (s.heard x).job? m.job = some j → j.work = .load number r →
      (s.heard x).truckState? number = some .unloading →
      ∃ a : Act,
        exec (.withdrawn (.clear t) n) s = .next (s.settledAs a)
        ∧ a.yard.move? n = none ∧ a.yard.job? m.job = none ∧ a.yard.stack = s.part.yard.stack
        ∧ ∀ k : Pack, (s.heard x).pack? j.tag = some k →
          ∃ k' : Pack, a.yard.pack? j.tag = some k' ∧ k'.state = .free ∧ k'.place = k.place)
    ∧ ((m.state = .lifted ∨ (s.heard x).job? m.job = none ∨ (∃ j : Job,
        (s.heard x).job? m.job = some j ∧ ∀ (number : Nat) (r : BedRef), j.work = .load number r →
          (s.heard x).truckState? number ≠ some .unloading)) →
      exec (.withdrawn (.clear t) n) s = .next (s.settledAs (s.heard x).act))

/-- LIFTED takes the pack off its source where it is on top, and is rejected elsewhere.
LIFTED of a move already LIFTED changes nothing. Of a TO_TRUCK or TO_STAGING move it is accepted
exactly when the pack stands in a bay with nothing above it: the pack leaves that stack, no other
stack changes, its place is none, and the move and its job are LIFTED. A FROM_TRUCK pack must stand
at the top occupied position of its slot; that position is vacated on its truck, no stack changes,
and its place is none. A WITHDRAW notice for the move is dropped; where the LIFTED answers the
exchange that carried that WITHDRAW, it stays pending (how the model reads whether the notice has
been sent: log entry 34). Otherwise a REJECT notice for the move becomes pending, unless it is, and
nothing else changes. What follows is what follows every act.
(R134, R139) -/
def Obligations.LiftedReport : Prop :=
  ∀ (s : State) (t : Nat) (x : Exchange) (n : Nat) (m : Move), s.inTurn t x → 1 ≤ n → n ≤ 65535 →
    (s.heard x).moveAt? t n = some m →
    (m.state = .lifted → exec (.lifted (.clear t) n) s = .next (s.settledAs (s.heard x).act))
    ∧ (m.kind ≠ .fromTruck → ((s.heard x).liftAllowed m = true ↔
      ∃ b : Nat, (s.heard x).bayOf? m.tag = some b ∧ (s.heard x).above b m.tag = []))
    ∧ (∀ (l number : Nat) (r r0 : BedRef) (j : Job) (tr : Truck), m.kind = .fromTruck →
      m.source = .bed l r → (s.heard x).job? m.job = some j → j.work = .offload number r0 →
      (s.heard x).truck? number = some tr →
      ((s.heard x).liftAllowed m = true ↔ tr.isTopOccupied r = true))
    ∧ (m.state ≠ .lifted → (s.heard x).liftAllowed m = false →
      exec (.lifted (.clear t) n) s = .next (s.settledAs ((s.heard x).modifyTerminal t fun k =>
        { k with notices :=
          if .reject n ∈ k.notices then k.notices else k.notices ++ [.reject n] }).act))
    ∧ (m.state ≠ .lifted → (s.heard x).liftAllowed m = true →
      let a : Act := (s.heard x).act.lift (x.message.asks n) n m
      exec (.lifted (.clear t) n) s = .next (s.settledAs a)
        ∧ a.yard.move? n = some { m with state := .lifted }
        ∧ (∀ j : Job, (s.heard x).job? m.job = some j →
          a.yard.job? m.job = some { j with state := .lifted })
        ∧ (∀ k : Pack, (s.heard x).pack? m.tag = some k →
          a.yard.pack? m.tag = some { k with place := .nowhere })
        ∧ a.yard.terminal t = { (s.heard x).terminal t with
            notices := if x.message = .withdraw n then ((s.heard x).terminal t).notices
              else ((s.heard x).terminal t).notices.filter fun z => z != .withdraw n }
        ∧ (m.kind ≠ .fromTruck → a.yard.trucks = s.part.yard.trucks
          ∧ ∀ b : Nat, (s.heard x).bayOf? m.tag = some b →
            a.yard.stackOf b = (s.part.yard.stackOf b).erase m.tag
            ∧ ∀ c : Nat, c ≠ b → a.yard.stackOf c = s.part.yard.stackOf c)
        ∧ (m.kind = .fromTruck → a.yard.stack = s.part.yard.stack
          ∧ ∀ (l number : Nat) (r r0 : BedRef) (j : Job) (tr : Truck), m.source = .bed l r →
            (s.heard x).job? m.job = some j → j.work = .offload number r0 →
            (s.heard x).truck? number = some tr →
            a.yard.truck? number = some (tr.vacate r)
            ∧ (tr.vacate r).pos r = { plan := none, loaded := false }))

/-- DONE sets the pack at its destination and ends the move; another tag ends it as a fault.
DONE of a move not yet LIFTED is first judged as LIFTED: rejected as there, or lifted and then
taken. Taken with the pack's tag or none, a reported moisture is held to 6 to 80 and replaces the
pack's, measured, for every kind of move; the move ends. TO_TRUCK: the pack is ON_TRUCK at its bed
position with the estimate as loaded mass. TO_STAGING for a CLEAR job, TO_STAGING aside for a LOAD
job, and FROM_TRUCK: the pack joins the top of the destination bay; the CLEAR job ends and the LOAD
job is WAITING again, each pack in its prior state; FROM_TRUCK the pack is FREE with no loaded mass.
With another tag the move ends with MOVE_FAULT and a DOUBT pack; the scanned pack, where FREE,
RESERVED or HELD, is in DOUBT as well, its job SUSPENDED, or, RESERVED with no job, unassigned; in
any other state it keeps that state.
(R44, R122, R135, R136) -/
def Obligations.DoneReport : Prop :=
  ∀ (s : State) (t : Nat) (x : Exchange) (n : Nat) (m : Move) (tag mc : Option Nat),
    s.inTurn t x → 1 ≤ n → n ≤ 65535 → (s.heard x).moveAt? t n = some m →
    (∀ g, tag = some g → 1 ≤ g ∧ g ≤ 16777215) → (∀ w, mc = some w → w ≤ 255) →
    (m.state ≠ .lifted → (s.heard x).liftAllowed m = false →
      exec (.done (.clear t) n tag mc) s = .next (s.settledAs ((s.heard x).addReject t n).act))
    ∧ (m.state ≠ .lifted → (s.heard x).liftAllowed m = true →
      exec (.done (.clear t) n tag mc) s = .next (s.settledAs
        (((s.heard x).act.lift (x.message.asks n) n m).doneLifted s.part.env n m tag mc)))
    ∧ (m.state = .lifted →
      let a : Act := (s.heard x).act.doneLifted s.part.env n m tag mc
      exec (.done (.clear t) n tag mc) s = .next (s.settledAs a)
        ∧ a.yard.move? n = none
        ∧ (∀ (g : Nat) (j : Job) (k : Pack), tag = some g → g ≠ m.tag →
          (s.heard x).job? m.job = some j → j.tag = m.tag → (s.heard x).pack? m.tag = some k →
          holdsFlag a.yard.events .moveFault = true ∧ holdsFlag a.yard.events .packDoubt = true
          ∧ (a.yard.pack? m.tag).map Pack.state = some .doubt
          ∧ (a.yard.pack? m.tag).map Pack.place = some .nowhere
          ∧ ∀ kg : Pack, (s.heard x).pack? g = some kg →
            (kg.state = .free ∨ kg.state = .reserved ∨ kg.state = .held →
              (a.yard.pack? g).map Pack.state = some .doubt
              ∧ (a.yard.pack? g).map Pack.place = some .nowhere
              ∧ (∀ (u : Nat) (i : Job), kg.job = some u → u ≠ m.job →
                (s.heard x).job? u = some i →
                a.yard.job? u = some { i with state := .suspended, bound := none, move := none })
              ∧ (kg.state = .reserved → kg.job = none →
                (a.yard.pack? g).map Pack.assignment = some none))
            ∧ (kg.state = .moving ∨ kg.state = .onTruck ∨ kg.state = .doubt →
              (a.yard.pack? g).map Pack.state = some kg.state))
        ∧ (∀ (j : Job) (k : Pack), tag = none ∨ tag = some m.tag →
          (s.heard x).job? m.job = some j → j.tag = m.tag → (s.heard x).pack? m.tag = some k →
          let k1 : Pack := match mc with
            | some w => { k with moisture := max 6 (min 80 w), measured := true }
            | none => k
          (∀ (number : Nat) (r : BedRef) (tr : Truck) (l : Nat), m.kind = .toTruck →
            j.work = .load number r → (s.heard x).truck? number = some tr → tr.lane = some l →
            ∃ k2 : Pack, a.yard.pack? m.tag = some k2 ∧ k2.state = .onTruck
              ∧ k2.place = .bed l r ∧ k2.loadedMass = some (s.part.env.estimate k1)
              ∧ k2.moisture = k1.moisture ∧ k2.measured = k1.measured)
          ∧ (∀ b origin : Nat, m.kind = .toStaging → m.dest = .bay b → j.work = .clear origin →
            a.yard.stackOf b = s.part.yard.stackOf b ++ [m.tag]
            ∧ a.yard.job? m.job = none
            ∧ ∃ k2 : Pack, a.yard.pack? m.tag = some k2 ∧ k2.state = k.prior.getD k.state
              ∧ k2.place = .bay b ((s.part.yard.stackOf b).length + 1)
              ∧ k2.moisture = k1.moisture ∧ k2.measured = k1.measured)
          ∧ (∀ (b number : Nat) (r : BedRef), m.kind = .toStaging → m.dest = .bay b →
            j.work = .load number r → (s.heard x).truckState? number ≠ some .unloading →
            a.yard.stackOf b = s.part.yard.stackOf b ++ [m.tag]
            ∧ a.yard.job? m.job = some { j with state := .waiting, bound := none, move := none }
            ∧ a.yard.pack? m.tag = some { k1 with
                state := k.prior.getD k.state
                prior := none
                place := .bay b ((s.part.yard.stackOf b).length + 1) })
          ∧ (∀ (b number : Nat) (r : BedRef), m.kind = .fromTruck → m.dest = .bay b →
            j.work = .offload number r →
            a.yard.stackOf b = s.part.yard.stackOf b ++ [m.tag]
            ∧ ∃ k2 : Pack, a.yard.pack? m.tag = some k2 ∧ k2.state = .free
              ∧ k2.place = .bay b ((s.part.yard.stackOf b).length + 1)
              ∧ k2.loadedMass = none ∧ k2.assignment = none ∧ k2.job = none
              ∧ k2.moisture = k1.moisture ∧ k2.measured = k1.measured)))

/-- FAULT ends the move with MOVE_FAULT, and its reason and the move's state give the pack's lot.
A FAULT of a move its terminal holds ends the move and sets MOVE_FAULT. Once LIFTED, and for
NOT_FOUND and LOST before that, the pack becomes DOUBT with PACK_DOUBT, and the job is SUSPENDED; of
a LOAD of an UNLOADING truck it is deleted and the assignment made absent. DECLINED before the lift
returns the pack to its prior state and the job to WAITING, with the pack where it stood; of a LOAD
of an UNLOADING truck the pack is FREE there and the job and the assignment are gone. DAMAGED before
the lift of a CLEAR job makes the pack HELD where it stands and deletes the job; of a LOAD job also,
with the assignment released, and the record of the job is free or already the replacement's; of an
OFFLOAD job the pack is in DOUBT without job and assignment, its bed position vacated, and the job
deleted. That the loaded mass is then absent is the model's reading (log entry 26).
(R23, R31, R66, R67, R87, R122, R137) -/
def Obligations.FaultReport : Prop :=
  ∀ (s : State) (t : Nat) (x : Exchange) (n : Nat) (m : Move) (r : FaultReason) (j : Job) (k : Pack),
    s.inTurn t x → 1 ≤ n → n ≤ 65535 → (s.heard x).moveAt? t n = some m →
    (s.heard x).job? m.job = some j → j.tag = m.tag → (s.heard x).pack? m.tag = some k →
    ∃ a : Act,
      exec (.fault (.clear t) n r.code) s = .next (s.settledAs a)
      ∧ a.yard.move? n = none ∧ holdsFlag a.yard.events .moveFault = true
      ∧ ((m.state = .lifted ∨ r = .notFound ∨ r = .lost) →
        holdsFlag a.yard.events .packDoubt = true
        ∧ (a.yard.pack? m.tag).map Pack.state = some .doubt
        ∧ (a.yard.pack? m.tag).map Pack.place = some .nowhere
        ∧ ((s.heard x).cancelledLoad? j = none →
          (a.yard.job? m.job).map Job.state = some .suspended)
        ∧ (((s.heard x).cancelledLoad? j).isSome = true →
          a.yard.job? m.job = none
          ∧ (a.yard.pack? m.tag).map Pack.assignment = some none
          ∧ (a.yard.pack? m.tag).map Pack.job = some none))
      ∧ (m.state ≠ .lifted → r = .declined → (s.heard x).cancelledLoad? j = none →
        a.yard.stack = s.part.yard.stack
        ∧ a.yard.pack? m.tag = some { k with state := k.prior.getD k.state, prior := none }
        ∧ a.yard.job? m.job = some { j with state := .waiting, bound := none, move := none })
      ∧ (m.state ≠ .lifted → r = .damaged → ∀ origin : Nat, j.work = .clear origin →
        a.yard.stack = s.part.yard.stack ∧ a.yard.job? m.job = none
        ∧ a.yard.pack? m.tag = some { k with state := .held, prior := none, job := none })
      ∧ (m.state ≠ .lifted → r = .declined → ((s.heard x).cancelledLoad? j).isSome = true →
        a.yard.stack = s.part.yard.stack ∧ a.yard.job? m.job = none
        ∧ a.yard.pack? m.tag
          = some { k with state := .free, prior := none, job := none, assignment := none })
      ∧ (m.state ≠ .lifted → r = .damaged → j.work.isLoad = true →
        k.job = some m.job → k.assignment.isSome = true →
        a.yard.stack = s.part.yard.stack
        ∧ (∀ i : Job, a.yard.job? m.job = some i → i.tag ≠ m.tag)
        ∧ a.yard.pack? m.tag
          = some { k with state := .held, prior := none, job := none, assignment := none })
      ∧ (m.state ≠ .lifted → r = .damaged → ((s.heard x).cancelledLoad? j).isSome = true →
        a.yard.job? m.job = none)
      ∧ (m.state ≠ .lifted → r = .damaged → ∀ (number : Nat) (q : BedRef), j.work = .offload number q →
        a.yard.job? m.job = none ∧ holdsFlag a.yard.events .packDoubt = true
        ∧ a.yard.pack? m.tag
          = some { k with state := .doubt, prior := none, place := .nowhere, job := none,
                          assignment := none, loadedMass := none }
        ∧ (s.part.yard.Tables → s.part.Lanes → ∀ (l : Nat) (b : BedRef) (t2 : Truck),
          m.kind = .fromTruck → m.source = .bed l b → a.yard.truck? number = some t2 →
          t2.pos b = BedPos.vacant))

/-- An event flag, once set, stays set through every command but READ EVENTS, a frame that may carry it,
and a restart.
With no frame waiting in the inbound buffers, no well-formed command clears an event flag, except
the row READ EVENTS, the rows HOST FRAME BEGIN, HOST FRAME COMPLETE and HOST FRAME CUT SHORT, whose
bytes may end a READ EVENTS frame, and the rows that run the restart sequence. It holds for all
other commands, whatever acts of the yard follow them.
(R162, R164) -/
def Obligations.FlagsStay : Prop :=
  ∀ (c : Instr) (s t : State) (e : Event), c.wf = true → s.part.host.inbound = [] →
    (∀ h, c ≠ .readEvents h) → c ≠ .hostFrameBegin → (∀ b, c ≠ .hostFrameComplete b) →
    (∀ b err, c ≠ .hostFrameCutShort b err) →
    (∀ pins, c ≠ .powerOn pins ∧ c ≠ .resetRelease pins ∧ c ≠ .restartSequence pins) →
    exec c s = .next t → holdsFlag s.part.yard.events e = true →
    holdsFlag t.part.yard.events e = true

/-- The estimated mass is M0 + Sw, each rounded half up, and lies between 23 and 18,828 kg.
For every pack and every setting in their ranges, the estimate is M0 + Sw, where M0 is V x density x
T x (100 + MC) / 100,000,000 rounded half up and Sw is S / 1,000 rounded half up; the product is at
most 1,862,813,700,000; M0 lies between 23 and 18,628, Sw between 0 and 200 and the estimate between
23 and 18,828, and both ends of M0 are reached.
(R38) -/
def Obligations.EstimateBounds : Prop :=
  (∀ (e : Env) (p : Pack) (d tr : Nat), e.settings.density p.species = d → trimOf e.trims p.species = tr →
    100 ≤ p.volume → p.volume ≤ 9999 → 250 ≤ d → d ≤ 900 → 850 ≤ tr → tr ≤ 1150 →
    6 ≤ p.moisture → p.moisture ≤ 80 → p.water ≤ e.settings.weather.capKg * 1000 →
    e.settings.weather.capKg ≤ 200 →
    ∃ m0 sw : Nat, e.estimate p = m0 + sw
      ∧ 2 * m0 * 100000000 ≤ 2 * (p.volume * d * tr * (100 + p.moisture)) + 100000000
      ∧ 2 * (p.volume * d * tr * (100 + p.moisture)) + 100000000 < 2 * (m0 + 1) * 100000000
      ∧ 2 * sw * 1000 ≤ 2 * p.water + 1000 ∧ 2 * p.water + 1000 < 2 * (sw + 1) * 1000
      ∧ p.volume * d * tr * (100 + p.moisture) ≤ 1862813700000
      ∧ 23 ≤ m0 ∧ m0 ≤ 18628 ∧ sw ≤ 200 ∧ 23 ≤ e.estimate p ∧ e.estimate p ≤ 18828)
  ∧ woodMass 100 250 850 6 = 23 ∧ woodMass 9999 900 1150 80 = 18628

/-- The balance point is W x RCr / (RCf + RCr) rounded half up, and lies between 0 and W.
At a placement that is not the carry-nothing case both remaining capacities are positive, and the
place sequence is formed about one balance point B: W x RCr / (RCf + RCr), rounded half up, between
0 and W. With W at most 1,500 and RCr at most 40,000 the product is at most 60,000,000.
(R96) -/
def Obligations.BalancePoint : Prop :=
  ∀ (e : Env) (y : Yard) (t : Truck), t.carriesNothing e.settings.planning.headroom = false →
    ∃ rcf rcr b : Nat,
      rcf = effectiveLimit t.frontLimit e.settings.planning.headroom - t.tareFront
      ∧ rcr = effectiveLimit t.rearLimit e.settings.planning.headroom - t.tareRear
      ∧ 0 < rcf ∧ 0 < rcr
      ∧ 2 * b * (rcf + rcr) ≤ 2 * (t.wheelbase * rcr) + (rcf + rcr)
      ∧ 2 * (t.wheelbase * rcr) + (rcf + rcr) < 2 * (b + 1) * (rcf + rcr)
      ∧ b ≤ t.wheelbase
      ∧ (t.wheelbase ≤ 1500 → rcr ≤ 40000 → t.wheelbase * rcr ≤ 60000000)
      ∧ y.placeSequence e t
        = swapLengths (entriesOf (t.placeRefs b) (y.placeOrder e t.assignedTags))

/-- The slot order lists each slot once, by distance from the balance point, the lower index first.
For every truck and balance point the slot order is a rearrangement of the truck's slots, each once,
sorted by |x - B| ascending, with the lower slot index first at the same distance. Where the slot
positions strictly rise, two slots at the same distance stand one on each side of B, and no third
ties with them. The places are assigned in this order, tier 1 of every slot and then tier 2.
(R97) -/
def Obligations.SlotOrder : Prop :=
  ∀ (t : Truck) (b : Nat),
    let far : Nat × Nat → Nat := fun s => ((s.2 : Int) - b).natAbs
    (t.slotOrder b).Perm (t.slots.zipIdx.map fun s => (s.2, s.1.x))
    ∧ (t.slotOrder b).length = t.slots.length
    ∧ (t.slotOrder b).Pairwise (fun s u => far s < far u ∨ (far s = far u ∧ s.1 < u.1))
    ∧ ((t.slots.map Slot.x).Pairwise (· < ·) →
      (∀ s ∈ t.slotOrder b, ∀ u ∈ t.slotOrder b, far s = far u → s.1 < u.1 → s.2 < b ∧ b < u.2)
      ∧ ∀ s ∈ t.slotOrder b, ∀ u ∈ t.slotOrder b, ∀ v ∈ t.slotOrder b,
        far s = far u → far u = far v → s = u ∨ u = v ∨ s = v)
    ∧ t.placeRefs b
      = ((t.slotOrder b).map fun s => ({ slot := s.1, tier := .one }, s.2))
        ++ (t.slotOrder b).map fun s => ({ slot := s.1, tier := .two }, s.2)

/-- The effective class rises by one for each ageing period waited, up to 3.
The effective class is min(3, class + waited div (ageing x 60)), where waited is now less announced
at, and 0 when the clock stands below it; with ageing 0 it is the class. After three ageing periods
a truck of any class has class 3. The arbiter puts a truck of class 0 that has waited two ageing
periods more before a truck of class 2 announced later. READ TRUCK shows the class of the moment in
its vehicle part.
(R72) -/
def Obligations.EffectiveClass : Prop :=
  ∀ (e : Env) (t : Truck) (index : Nat),
    let p : Nat := e.settings.planning.ageing * 60
    (p = 0 → e.effectiveClass t = t.cls)
    ∧ (0 < p → t.announcedAt ≤ e.clock →
      e.effectiveClass t = min 3 (t.cls + (e.clock - t.announcedAt) / p))
    ∧ (0 < p → e.clock < t.announcedAt → e.effectiveClass t = min 3 t.cls)
    ∧ (0 < p → t.announcedAt + 3 * p ≤ e.clock → e.effectiveClass t = 3)
    ∧ (∀ (u : Truck) (j : Nat), 0 < p → t.cls = 0 → u.cls = 2 → u.announcedAt ≤ e.clock →
      t.announcedAt + 2 * p ≤ u.announcedAt → e.beforeAtGate (index, t) (j, u) = true)
    ∧ byte (e.effectiveClass t) ∈ t.vehicleBody e index

/-- Shortening keeps the longest prefix of the place sequence that passes the axle-group check.
For every truck that is not the carry-nothing case: the entries kept are the longest prefix of the
place sequence whose totals are at or below the effective limits; the packs removed are those after
it, last first. Every entry's front and rear share are whole, and add up to its planned mass where
its slot lies between 0 and W.
(R100, R101, R102) -/
def Obligations.PlacementPasses : Prop :=
  ∀ (e : Env) (y : Yard) (t : Truck), t.carriesNothing e.settings.planning.headroom = false →
    let seq : List Entry := y.placeSequence e t
    let ok : List Entry → Bool := t.checkEntries e.settings.planning.headroom
    let r : List Entry × List Nat := shorten ok seq.reverse
    ∃ k : Nat, k ≤ seq.length
      ∧ r.1.reverse = seq.take k ∧ r.2 = ((seq.drop k).map Entry.tag).reverse
      ∧ ok (seq.take k) = true
      ∧ (∀ i : Nat, k < i → i ≤ seq.length → ok (seq.take i) = false)
      ∧ ∀ en ∈ seq, en.x ≤ t.wheelbase → 0 < t.wheelbase →
        (en.plan t.wheelbase).mass = en.mass
        ∧ (en.plan t.wheelbase).front + (en.plan t.wheelbase).rear = en.mass
        ∧ (en.x = 0 → (en.plan t.wheelbase).front = en.mass)
        ∧ (en.x = t.wheelbase → (en.plan t.wheelbase).rear = en.mass)
end

