-- ==== Sys2Proof/Laws/State.lean ====
section
/-! SUPPORT. One lemma for each field that an update of State, Part or Yard leaves as it was, all true by rfl. -/

namespace Sys2Proof.Machine

/-! ### The yard -/

@[simp] theorem Yard.raise_stack (y : Yard) (e : Event) : (y.raise e).stack = y.stack := rfl
@[simp] theorem Yard.raise_claims (y : Yard) (e : Event) : (y.raise e).claims = y.claims := rfl
@[simp] theorem Yard.raise_packs (y : Yard) (e : Event) : (y.raise e).packs = y.packs := rfl
@[simp] theorem Yard.raise_trucks (y : Yard) (e : Event) : (y.raise e).trucks = y.trucks := rfl
@[simp] theorem Yard.raise_lanes (y : Yard) (e : Event) : (y.raise e).lanes = y.lanes := rfl
@[simp] theorem Yard.raise_jobs (y : Yard) (e : Event) : (y.raise e).jobs = y.jobs := rfl
@[simp] theorem Yard.raise_queues (y : Yard) (e : Event) : (y.raise e).queues = y.queues := rfl
@[simp] theorem Yard.raise_loader (y : Yard) (e : Event) : (y.raise e).loader = y.loader := rfl

@[simp] theorem Yard.setStack_claims (y : Yard) (b : Nat) (tags : List Nat) : (y.setStack b tags).claims = y.claims := rfl
@[simp] theorem Yard.setStack_packs (y : Yard) (b : Nat) (tags : List Nat) : (y.setStack b tags).packs = y.packs := rfl
@[simp] theorem Yard.setStack_trucks (y : Yard) (b : Nat) (tags : List Nat) : (y.setStack b tags).trucks = y.trucks := rfl
@[simp] theorem Yard.setStack_lanes (y : Yard) (b : Nat) (tags : List Nat) : (y.setStack b tags).lanes = y.lanes := rfl
@[simp] theorem Yard.setStack_jobs (y : Yard) (b : Nat) (tags : List Nat) : (y.setStack b tags).jobs = y.jobs := rfl
@[simp] theorem Yard.setStack_queues (y : Yard) (b : Nat) (tags : List Nat) : (y.setStack b tags).queues = y.queues := rfl
@[simp] theorem Yard.setStack_loader (y : Yard) (b : Nat) (tags : List Nat) : (y.setStack b tags).loader = y.loader := rfl
@[simp] theorem Yard.setStack_events (y : Yard) (b : Nat) (tags : List Nat) : (y.setStack b tags).events = y.events := rfl

@[simp] theorem Yard.takeClaim_stack (y : Yard) (b : Nat) : (y.takeClaim b).stack = y.stack := rfl
@[simp] theorem Yard.takeClaim_packs (y : Yard) (b : Nat) : (y.takeClaim b).packs = y.packs := rfl
@[simp] theorem Yard.takeClaim_trucks (y : Yard) (b : Nat) : (y.takeClaim b).trucks = y.trucks := rfl
@[simp] theorem Yard.takeClaim_lanes (y : Yard) (b : Nat) : (y.takeClaim b).lanes = y.lanes := rfl
@[simp] theorem Yard.takeClaim_jobs (y : Yard) (b : Nat) : (y.takeClaim b).jobs = y.jobs := rfl
@[simp] theorem Yard.takeClaim_queues (y : Yard) (b : Nat) : (y.takeClaim b).queues = y.queues := rfl
@[simp] theorem Yard.takeClaim_loader (y : Yard) (b : Nat) : (y.takeClaim b).loader = y.loader := rfl
@[simp] theorem Yard.takeClaim_events (y : Yard) (b : Nat) : (y.takeClaim b).events = y.events := rfl

@[simp] theorem Yard.giveClaim_stack (y : Yard) (b : Nat) : (y.giveClaim b).stack = y.stack := rfl
@[simp] theorem Yard.giveClaim_packs (y : Yard) (b : Nat) : (y.giveClaim b).packs = y.packs := rfl
@[simp] theorem Yard.giveClaim_trucks (y : Yard) (b : Nat) : (y.giveClaim b).trucks = y.trucks := rfl
@[simp] theorem Yard.giveClaim_lanes (y : Yard) (b : Nat) : (y.giveClaim b).lanes = y.lanes := rfl
@[simp] theorem Yard.giveClaim_jobs (y : Yard) (b : Nat) : (y.giveClaim b).jobs = y.jobs := rfl
@[simp] theorem Yard.giveClaim_queues (y : Yard) (b : Nat) : (y.giveClaim b).queues = y.queues := rfl
@[simp] theorem Yard.giveClaim_loader (y : Yard) (b : Nat) : (y.giveClaim b).loader = y.loader := rfl
@[simp] theorem Yard.giveClaim_events (y : Yard) (b : Nat) : (y.giveClaim b).events = y.events := rfl

@[simp] theorem Yard.modifyPack_stack (y : Yard) (tag : Nat) (f : Pack → Pack) : (y.modifyPack tag f).stack = y.stack := rfl
@[simp] theorem Yard.modifyPack_claims (y : Yard) (tag : Nat) (f : Pack → Pack) : (y.modifyPack tag f).claims = y.claims := rfl
@[simp] theorem Yard.modifyPack_trucks (y : Yard) (tag : Nat) (f : Pack → Pack) : (y.modifyPack tag f).trucks = y.trucks := rfl
@[simp] theorem Yard.modifyPack_lanes (y : Yard) (tag : Nat) (f : Pack → Pack) : (y.modifyPack tag f).lanes = y.lanes := rfl
@[simp] theorem Yard.modifyPack_jobs (y : Yard) (tag : Nat) (f : Pack → Pack) : (y.modifyPack tag f).jobs = y.jobs := rfl
@[simp] theorem Yard.modifyPack_queues (y : Yard) (tag : Nat) (f : Pack → Pack) : (y.modifyPack tag f).queues = y.queues := rfl
@[simp] theorem Yard.modifyPack_loader (y : Yard) (tag : Nat) (f : Pack → Pack) : (y.modifyPack tag f).loader = y.loader := rfl
@[simp] theorem Yard.modifyPack_events (y : Yard) (tag : Nat) (f : Pack → Pack) : (y.modifyPack tag f).events = y.events := rfl

@[simp] theorem Yard.addPack_stack (y : Yard) (tag : Nat) (p : Pack) : (y.addPack tag p).stack = y.stack := rfl
@[simp] theorem Yard.addPack_claims (y : Yard) (tag : Nat) (p : Pack) : (y.addPack tag p).claims = y.claims := rfl
@[simp] theorem Yard.addPack_trucks (y : Yard) (tag : Nat) (p : Pack) : (y.addPack tag p).trucks = y.trucks := rfl
@[simp] theorem Yard.addPack_lanes (y : Yard) (tag : Nat) (p : Pack) : (y.addPack tag p).lanes = y.lanes := rfl
@[simp] theorem Yard.addPack_jobs (y : Yard) (tag : Nat) (p : Pack) : (y.addPack tag p).jobs = y.jobs := rfl
@[simp] theorem Yard.addPack_queues (y : Yard) (tag : Nat) (p : Pack) : (y.addPack tag p).queues = y.queues := rfl
@[simp] theorem Yard.addPack_loader (y : Yard) (tag : Nat) (p : Pack) : (y.addPack tag p).loader = y.loader := rfl
@[simp] theorem Yard.addPack_events (y : Yard) (tag : Nat) (p : Pack) : (y.addPack tag p).events = y.events := rfl

@[simp] theorem Yard.dropPack_stack (y : Yard) (tag : Nat) : (y.dropPack tag).stack = y.stack := rfl
@[simp] theorem Yard.dropPack_claims (y : Yard) (tag : Nat) : (y.dropPack tag).claims = y.claims := rfl
@[simp] theorem Yard.dropPack_trucks (y : Yard) (tag : Nat) : (y.dropPack tag).trucks = y.trucks := rfl
@[simp] theorem Yard.dropPack_lanes (y : Yard) (tag : Nat) : (y.dropPack tag).lanes = y.lanes := rfl
@[simp] theorem Yard.dropPack_jobs (y : Yard) (tag : Nat) : (y.dropPack tag).jobs = y.jobs := rfl
@[simp] theorem Yard.dropPack_queues (y : Yard) (tag : Nat) : (y.dropPack tag).queues = y.queues := rfl
@[simp] theorem Yard.dropPack_loader (y : Yard) (tag : Nat) : (y.dropPack tag).loader = y.loader := rfl
@[simp] theorem Yard.dropPack_events (y : Yard) (tag : Nat) : (y.dropPack tag).events = y.events := rfl

@[simp] theorem Yard.modifyLane_stack (y : Yard) (l : Nat) (f : Lane → Lane) : (y.modifyLane l f).stack = y.stack := rfl
@[simp] theorem Yard.modifyLane_claims (y : Yard) (l : Nat) (f : Lane → Lane) : (y.modifyLane l f).claims = y.claims := rfl
@[simp] theorem Yard.modifyLane_packs (y : Yard) (l : Nat) (f : Lane → Lane) : (y.modifyLane l f).packs = y.packs := rfl
@[simp] theorem Yard.modifyLane_trucks (y : Yard) (l : Nat) (f : Lane → Lane) : (y.modifyLane l f).trucks = y.trucks := rfl
@[simp] theorem Yard.modifyLane_jobs (y : Yard) (l : Nat) (f : Lane → Lane) : (y.modifyLane l f).jobs = y.jobs := rfl
@[simp] theorem Yard.modifyLane_queues (y : Yard) (l : Nat) (f : Lane → Lane) : (y.modifyLane l f).queues = y.queues := rfl
@[simp] theorem Yard.modifyLane_loader (y : Yard) (l : Nat) (f : Lane → Lane) : (y.modifyLane l f).loader = y.loader := rfl
@[simp] theorem Yard.modifyLane_events (y : Yard) (l : Nat) (f : Lane → Lane) : (y.modifyLane l f).events = y.events := rfl

@[simp] theorem Yard.modifyJob_stack (y : Yard) (n : Nat) (f : Job → Job) : (y.modifyJob n f).stack = y.stack := rfl
@[simp] theorem Yard.modifyJob_claims (y : Yard) (n : Nat) (f : Job → Job) : (y.modifyJob n f).claims = y.claims := rfl
@[simp] theorem Yard.modifyJob_packs (y : Yard) (n : Nat) (f : Job → Job) : (y.modifyJob n f).packs = y.packs := rfl
@[simp] theorem Yard.modifyJob_trucks (y : Yard) (n : Nat) (f : Job → Job) : (y.modifyJob n f).trucks = y.trucks := rfl
@[simp] theorem Yard.modifyJob_lanes (y : Yard) (n : Nat) (f : Job → Job) : (y.modifyJob n f).lanes = y.lanes := rfl
@[simp] theorem Yard.modifyJob_queues (y : Yard) (n : Nat) (f : Job → Job) : (y.modifyJob n f).queues = y.queues := rfl
@[simp] theorem Yard.modifyJob_loader (y : Yard) (n : Nat) (f : Job → Job) : (y.modifyJob n f).loader = y.loader := rfl
@[simp] theorem Yard.modifyJob_events (y : Yard) (n : Nat) (f : Job → Job) : (y.modifyJob n f).events = y.events := rfl

@[simp] theorem Yard.unqueue_stack (y : Yard) (n : Nat) : (y.unqueue n).stack = y.stack := rfl
@[simp] theorem Yard.unqueue_claims (y : Yard) (n : Nat) : (y.unqueue n).claims = y.claims := rfl
@[simp] theorem Yard.unqueue_packs (y : Yard) (n : Nat) : (y.unqueue n).packs = y.packs := rfl
@[simp] theorem Yard.unqueue_trucks (y : Yard) (n : Nat) : (y.unqueue n).trucks = y.trucks := rfl
@[simp] theorem Yard.unqueue_lanes (y : Yard) (n : Nat) : (y.unqueue n).lanes = y.lanes := rfl
@[simp] theorem Yard.unqueue_jobs (y : Yard) (n : Nat) : (y.unqueue n).jobs = y.jobs := rfl
@[simp] theorem Yard.unqueue_loader (y : Yard) (n : Nat) : (y.unqueue n).loader = y.loader := rfl
@[simp] theorem Yard.unqueue_events (y : Yard) (n : Nat) : (y.unqueue n).events = y.events := rfl

@[simp] theorem Yard.enqueue_stack (y : Yard) (zone n : Nat) : (y.enqueue zone n).stack = y.stack := rfl
@[simp] theorem Yard.enqueue_claims (y : Yard) (zone n : Nat) : (y.enqueue zone n).claims = y.claims := rfl
@[simp] theorem Yard.enqueue_packs (y : Yard) (zone n : Nat) : (y.enqueue zone n).packs = y.packs := rfl
@[simp] theorem Yard.enqueue_trucks (y : Yard) (zone n : Nat) : (y.enqueue zone n).trucks = y.trucks := rfl
@[simp] theorem Yard.enqueue_lanes (y : Yard) (zone n : Nat) : (y.enqueue zone n).lanes = y.lanes := rfl
@[simp] theorem Yard.enqueue_jobs (y : Yard) (zone n : Nat) : (y.enqueue zone n).jobs = y.jobs := rfl
@[simp] theorem Yard.enqueue_loader (y : Yard) (zone n : Nat) : (y.enqueue zone n).loader = y.loader := rfl
@[simp] theorem Yard.enqueue_events (y : Yard) (zone n : Nat) : (y.enqueue zone n).events = y.events := rfl

@[simp] theorem Yard.modifyTerminal_stack (y : Yard) (t : Nat) (f : Terminal → Terminal) : (y.modifyTerminal t f).stack = y.stack := rfl
@[simp] theorem Yard.modifyTerminal_claims (y : Yard) (t : Nat) (f : Terminal → Terminal) : (y.modifyTerminal t f).claims = y.claims := rfl
@[simp] theorem Yard.modifyTerminal_packs (y : Yard) (t : Nat) (f : Terminal → Terminal) : (y.modifyTerminal t f).packs = y.packs := rfl
@[simp] theorem Yard.modifyTerminal_trucks (y : Yard) (t : Nat) (f : Terminal → Terminal) : (y.modifyTerminal t f).trucks = y.trucks := rfl
@[simp] theorem Yard.modifyTerminal_lanes (y : Yard) (t : Nat) (f : Terminal → Terminal) : (y.modifyTerminal t f).lanes = y.lanes := rfl
@[simp] theorem Yard.modifyTerminal_jobs (y : Yard) (t : Nat) (f : Terminal → Terminal) : (y.modifyTerminal t f).jobs = y.jobs := rfl
@[simp] theorem Yard.modifyTerminal_queues (y : Yard) (t : Nat) (f : Terminal → Terminal) : (y.modifyTerminal t f).queues = y.queues := rfl
@[simp] theorem Yard.modifyTerminal_events (y : Yard) (t : Nat) (f : Terminal → Terminal) : (y.modifyTerminal t f).events = y.events := rfl

@[simp] theorem Yard.modifyMove_stack (y : Yard) (n : Nat) (f : Move → Move) : (y.modifyMove n f).stack = y.stack := rfl
@[simp] theorem Yard.modifyMove_claims (y : Yard) (n : Nat) (f : Move → Move) : (y.modifyMove n f).claims = y.claims := rfl
@[simp] theorem Yard.modifyMove_packs (y : Yard) (n : Nat) (f : Move → Move) : (y.modifyMove n f).packs = y.packs := rfl
@[simp] theorem Yard.modifyMove_trucks (y : Yard) (n : Nat) (f : Move → Move) : (y.modifyMove n f).trucks = y.trucks := rfl
@[simp] theorem Yard.modifyMove_lanes (y : Yard) (n : Nat) (f : Move → Move) : (y.modifyMove n f).lanes = y.lanes := rfl
@[simp] theorem Yard.modifyMove_jobs (y : Yard) (n : Nat) (f : Move → Move) : (y.modifyMove n f).jobs = y.jobs := rfl
@[simp] theorem Yard.modifyMove_queues (y : Yard) (n : Nat) (f : Move → Move) : (y.modifyMove n f).queues = y.queues := rfl
@[simp] theorem Yard.modifyMove_events (y : Yard) (n : Nat) (f : Move → Move) : (y.modifyMove n f).events = y.events := rfl

@[simp] theorem Yard.onLink_stack (y : Yard) (f : LoaderLink → LoaderLink) : (y.onLink f).stack = y.stack := rfl
@[simp] theorem Yard.onLink_claims (y : Yard) (f : LoaderLink → LoaderLink) : (y.onLink f).claims = y.claims := rfl
@[simp] theorem Yard.onLink_packs (y : Yard) (f : LoaderLink → LoaderLink) : (y.onLink f).packs = y.packs := rfl
@[simp] theorem Yard.onLink_trucks (y : Yard) (f : LoaderLink → LoaderLink) : (y.onLink f).trucks = y.trucks := rfl
@[simp] theorem Yard.onLink_lanes (y : Yard) (f : LoaderLink → LoaderLink) : (y.onLink f).lanes = y.lanes := rfl
@[simp] theorem Yard.onLink_jobs (y : Yard) (f : LoaderLink → LoaderLink) : (y.onLink f).jobs = y.jobs := rfl
@[simp] theorem Yard.onLink_queues (y : Yard) (f : LoaderLink → LoaderLink) : (y.onLink f).queues = y.queues := rfl
@[simp] theorem Yard.onLink_events (y : Yard) (f : LoaderLink → LoaderLink) : (y.onLink f).events = y.events := rfl

@[simp] theorem Yard.addTruck_stack (y : Yard) (index : Nat) (t : Truck) : (y.addTruck index t).stack = y.stack := rfl
@[simp] theorem Yard.addTruck_claims (y : Yard) (index : Nat) (t : Truck) : (y.addTruck index t).claims = y.claims := rfl
@[simp] theorem Yard.addTruck_packs (y : Yard) (index : Nat) (t : Truck) : (y.addTruck index t).packs = y.packs := rfl
@[simp] theorem Yard.addTruck_lanes (y : Yard) (index : Nat) (t : Truck) : (y.addTruck index t).lanes = y.lanes := rfl
@[simp] theorem Yard.addTruck_jobs (y : Yard) (index : Nat) (t : Truck) : (y.addTruck index t).jobs = y.jobs := rfl
@[simp] theorem Yard.addTruck_queues (y : Yard) (index : Nat) (t : Truck) : (y.addTruck index t).queues = y.queues := rfl
@[simp] theorem Yard.addTruck_loader (y : Yard) (index : Nat) (t : Truck) : (y.addTruck index t).loader = y.loader := rfl
@[simp] theorem Yard.addTruck_events (y : Yard) (index : Nat) (t : Truck) : (y.addTruck index t).events = y.events := rfl

@[simp] theorem Yard.addReject_stack (y : Yard) (terminal n : Nat) : (y.addReject terminal n).stack = y.stack := rfl
@[simp] theorem Yard.addReject_claims (y : Yard) (terminal n : Nat) : (y.addReject terminal n).claims = y.claims := rfl
@[simp] theorem Yard.addReject_packs (y : Yard) (terminal n : Nat) : (y.addReject terminal n).packs = y.packs := rfl
@[simp] theorem Yard.addReject_trucks (y : Yard) (terminal n : Nat) : (y.addReject terminal n).trucks = y.trucks := rfl
@[simp] theorem Yard.addReject_lanes (y : Yard) (terminal n : Nat) : (y.addReject terminal n).lanes = y.lanes := rfl
@[simp] theorem Yard.addReject_jobs (y : Yard) (terminal n : Nat) : (y.addReject terminal n).jobs = y.jobs := rfl
@[simp] theorem Yard.addReject_queues (y : Yard) (terminal n : Nat) : (y.addReject terminal n).queues = y.queues := rfl
@[simp] theorem Yard.addReject_events (y : Yard) (terminal n : Nat) : (y.addReject terminal n).events = y.events := rfl

@[simp] theorem Yard.addWithdraw_stack (y : Yard) (terminal n : Nat) : (y.addWithdraw terminal n).stack = y.stack := rfl
@[simp] theorem Yard.addWithdraw_claims (y : Yard) (terminal n : Nat) : (y.addWithdraw terminal n).claims = y.claims := rfl
@[simp] theorem Yard.addWithdraw_packs (y : Yard) (terminal n : Nat) : (y.addWithdraw terminal n).packs = y.packs := rfl
@[simp] theorem Yard.addWithdraw_trucks (y : Yard) (terminal n : Nat) : (y.addWithdraw terminal n).trucks = y.trucks := rfl
@[simp] theorem Yard.addWithdraw_lanes (y : Yard) (terminal n : Nat) : (y.addWithdraw terminal n).lanes = y.lanes := rfl
@[simp] theorem Yard.addWithdraw_jobs (y : Yard) (terminal n : Nat) : (y.addWithdraw terminal n).jobs = y.jobs := rfl
@[simp] theorem Yard.addWithdraw_queues (y : Yard) (terminal n : Nat) : (y.addWithdraw terminal n).queues = y.queues := rfl
@[simp] theorem Yard.addWithdraw_events (y : Yard) (terminal n : Nat) : (y.addWithdraw terminal n).events = y.events := rfl

@[simp] theorem Yard.dropNotice_stack (y : Yard) (terminal : Nat) (k : Notice) : (y.dropNotice terminal k).stack = y.stack := rfl
@[simp] theorem Yard.dropNotice_claims (y : Yard) (terminal : Nat) (k : Notice) : (y.dropNotice terminal k).claims = y.claims := rfl
@[simp] theorem Yard.dropNotice_packs (y : Yard) (terminal : Nat) (k : Notice) : (y.dropNotice terminal k).packs = y.packs := rfl
@[simp] theorem Yard.dropNotice_trucks (y : Yard) (terminal : Nat) (k : Notice) : (y.dropNotice terminal k).trucks = y.trucks := rfl
@[simp] theorem Yard.dropNotice_lanes (y : Yard) (terminal : Nat) (k : Notice) : (y.dropNotice terminal k).lanes = y.lanes := rfl
@[simp] theorem Yard.dropNotice_jobs (y : Yard) (terminal : Nat) (k : Notice) : (y.dropNotice terminal k).jobs = y.jobs := rfl
@[simp] theorem Yard.dropNotice_queues (y : Yard) (terminal : Nat) (k : Notice) : (y.dropNotice terminal k).queues = y.queues := rfl
@[simp] theorem Yard.dropNotice_events (y : Yard) (terminal : Nat) (k : Notice) : (y.dropNotice terminal k).events = y.events := rfl

@[simp] theorem Yard.joinStack_claims (y : Yard) (b tag : Nat) : (y.joinStack b tag).claims = y.claims := rfl
@[simp] theorem Yard.joinStack_trucks (y : Yard) (b tag : Nat) : (y.joinStack b tag).trucks = y.trucks := rfl
@[simp] theorem Yard.joinStack_lanes (y : Yard) (b tag : Nat) : (y.joinStack b tag).lanes = y.lanes := rfl
@[simp] theorem Yard.joinStack_jobs (y : Yard) (b tag : Nat) : (y.joinStack b tag).jobs = y.jobs := rfl
@[simp] theorem Yard.joinStack_queues (y : Yard) (b tag : Nat) : (y.joinStack b tag).queues = y.queues := rfl
@[simp] theorem Yard.joinStack_loader (y : Yard) (b tag : Nat) : (y.joinStack b tag).loader = y.loader := rfl
@[simp] theorem Yard.joinStack_events (y : Yard) (b tag : Nat) : (y.joinStack b tag).events = y.events := rfl

@[simp] theorem Yard.leaveStack_claims (y : Yard) (b tag : Nat) : (y.leaveStack b tag).claims = y.claims := rfl
@[simp] theorem Yard.leaveStack_trucks (y : Yard) (b tag : Nat) : (y.leaveStack b tag).trucks = y.trucks := rfl
@[simp] theorem Yard.leaveStack_lanes (y : Yard) (b tag : Nat) : (y.leaveStack b tag).lanes = y.lanes := rfl
@[simp] theorem Yard.leaveStack_jobs (y : Yard) (b tag : Nat) : (y.leaveStack b tag).jobs = y.jobs := rfl
@[simp] theorem Yard.leaveStack_queues (y : Yard) (b tag : Nat) : (y.leaveStack b tag).queues = y.queues := rfl
@[simp] theorem Yard.leaveStack_loader (y : Yard) (b tag : Nat) : (y.leaveStack b tag).loader = y.loader := rfl
@[simp] theorem Yard.leaveStack_events (y : Yard) (b tag : Nat) : (y.leaveStack b tag).events = y.events := rfl

/-! ### Updates that look a truck up first -/

@[simp] theorem Yard.modifyTruck_stack (y : Yard) (number : Nat) (f : Truck → Truck) : (y.modifyTruck number f).stack = y.stack := by
  unfold Yard.modifyTruck; split <;> rfl
@[simp] theorem Yard.modifyTruck_claims (y : Yard) (number : Nat) (f : Truck → Truck) : (y.modifyTruck number f).claims = y.claims := by
  unfold Yard.modifyTruck; split <;> rfl
@[simp] theorem Yard.modifyTruck_packs (y : Yard) (number : Nat) (f : Truck → Truck) : (y.modifyTruck number f).packs = y.packs := by
  unfold Yard.modifyTruck; split <;> rfl
@[simp] theorem Yard.modifyTruck_lanes (y : Yard) (number : Nat) (f : Truck → Truck) : (y.modifyTruck number f).lanes = y.lanes := by
  unfold Yard.modifyTruck; split <;> rfl
@[simp] theorem Yard.modifyTruck_jobs (y : Yard) (number : Nat) (f : Truck → Truck) : (y.modifyTruck number f).jobs = y.jobs := by
  unfold Yard.modifyTruck; split <;> rfl
@[simp] theorem Yard.modifyTruck_queues (y : Yard) (number : Nat) (f : Truck → Truck) : (y.modifyTruck number f).queues = y.queues := by
  unfold Yard.modifyTruck; split <;> rfl
@[simp] theorem Yard.modifyTruck_loader (y : Yard) (number : Nat) (f : Truck → Truck) : (y.modifyTruck number f).loader = y.loader := by
  unfold Yard.modifyTruck; split <;> rfl
@[simp] theorem Yard.modifyTruck_events (y : Yard) (number : Nat) (f : Truck → Truck) : (y.modifyTruck number f).events = y.events := by
  unfold Yard.modifyTruck; split <;> rfl

@[simp] theorem Yard.dropTruck_stack (y : Yard) (number : Nat) : (y.dropTruck number).stack = y.stack := by
  unfold Yard.dropTruck; split <;> rfl
@[simp] theorem Yard.dropTruck_claims (y : Yard) (number : Nat) : (y.dropTruck number).claims = y.claims := by
  unfold Yard.dropTruck; split <;> rfl
@[simp] theorem Yard.dropTruck_packs (y : Yard) (number : Nat) : (y.dropTruck number).packs = y.packs := by
  unfold Yard.dropTruck; split <;> rfl
@[simp] theorem Yard.dropTruck_lanes (y : Yard) (number : Nat) : (y.dropTruck number).lanes = y.lanes := by
  unfold Yard.dropTruck; split <;> rfl
@[simp] theorem Yard.dropTruck_jobs (y : Yard) (number : Nat) : (y.dropTruck number).jobs = y.jobs := by
  unfold Yard.dropTruck; split <;> rfl
@[simp] theorem Yard.dropTruck_queues (y : Yard) (number : Nat) : (y.dropTruck number).queues = y.queues := by
  unfold Yard.dropTruck; split <;> rfl
@[simp] theorem Yard.dropTruck_loader (y : Yard) (number : Nat) : (y.dropTruck number).loader = y.loader := by
  unfold Yard.dropTruck; split <;> rfl
@[simp] theorem Yard.dropTruck_events (y : Yard) (number : Nat) : (y.dropTruck number).events = y.events := by
  unfold Yard.dropTruck; split <;> rfl

@[simp] theorem Yard.retarget_stack (y : Yard) (tag slot : Nat) : (y.retarget tag slot).stack = y.stack := by
  unfold Yard.retarget; split <;> rfl
@[simp] theorem Yard.retarget_claims (y : Yard) (tag slot : Nat) : (y.retarget tag slot).claims = y.claims := by
  unfold Yard.retarget; split <;> rfl
@[simp] theorem Yard.retarget_packs (y : Yard) (tag slot : Nat) : (y.retarget tag slot).packs = y.packs := by
  unfold Yard.retarget; split <;> rfl
@[simp] theorem Yard.retarget_trucks (y : Yard) (tag slot : Nat) : (y.retarget tag slot).trucks = y.trucks := by
  unfold Yard.retarget; split <;> rfl
@[simp] theorem Yard.retarget_lanes (y : Yard) (tag slot : Nat) : (y.retarget tag slot).lanes = y.lanes := by
  unfold Yard.retarget; split <;> rfl
@[simp] theorem Yard.retarget_queues (y : Yard) (tag slot : Nat) : (y.retarget tag slot).queues = y.queues := by
  unfold Yard.retarget; split <;> rfl
@[simp] theorem Yard.retarget_loader (y : Yard) (tag slot : Nat) : (y.retarget tag slot).loader = y.loader := by
  unfold Yard.retarget; split <;> rfl
@[simp] theorem Yard.retarget_events (y : Yard) (tag slot : Nat) : (y.retarget tag slot).events = y.events := by
  unfold Yard.retarget; split <;> rfl

/-! ### The part -/

@[simp] theorem Part.raise_clock (p : Part) (e : Event) : (p.raise e).clock = p.clock := rfl
@[simp] theorem Part.raise_settings (p : Part) (e : Event) : (p.raise e).settings = p.settings := rfl
@[simp] theorem Part.raise_trims (p : Part) (e : Event) : (p.raise e).trims = p.trims := rfl
@[simp] theorem Part.raise_weather (p : Part) (e : Event) : (p.raise e).weather = p.weather := rfl
@[simp] theorem Part.raise_weigh (p : Part) (e : Event) : (p.raise e).weigh = p.weigh := rfl
@[simp] theorem Part.raise_host (p : Part) (e : Event) : (p.raise e).host = p.host := rfl
@[simp] theorem Part.raise_store (p : Part) (e : Event) : (p.raise e).store = p.store := rfl
@[simp] theorem Part.raise_flight (p : Part) (e : Event) : (p.raise e).flight = p.flight := rfl
@[simp] theorem Part.raise_halt (p : Part) (e : Event) : (p.raise e).halt = p.halt := rfl
@[simp] theorem Part.raise_power (p : Part) (e : Event) : (p.raise e).power = p.power := rfl
@[simp] theorem Part.raise_lastAudit (p : Part) (e : Event) : (p.raise e).lastAudit = p.lastAudit := rfl

@[simp] theorem Part.onYard_clock (p : Part) (f : Env → Yard → Yard) : (p.onYard f).clock = p.clock := rfl
@[simp] theorem Part.onYard_settings (p : Part) (f : Env → Yard → Yard) : (p.onYard f).settings = p.settings := rfl
@[simp] theorem Part.onYard_trims (p : Part) (f : Env → Yard → Yard) : (p.onYard f).trims = p.trims := rfl
@[simp] theorem Part.onYard_weather (p : Part) (f : Env → Yard → Yard) : (p.onYard f).weather = p.weather := rfl
@[simp] theorem Part.onYard_weigh (p : Part) (f : Env → Yard → Yard) : (p.onYard f).weigh = p.weigh := rfl
@[simp] theorem Part.onYard_host (p : Part) (f : Env → Yard → Yard) : (p.onYard f).host = p.host := rfl
@[simp] theorem Part.onYard_store (p : Part) (f : Env → Yard → Yard) : (p.onYard f).store = p.store := rfl
@[simp] theorem Part.onYard_flight (p : Part) (f : Env → Yard → Yard) : (p.onYard f).flight = p.flight := rfl
@[simp] theorem Part.onYard_halt (p : Part) (f : Env → Yard → Yard) : (p.onYard f).halt = p.halt := rfl
@[simp] theorem Part.onYard_power (p : Part) (f : Env → Yard → Yard) : (p.onYard f).power = p.power := rfl
@[simp] theorem Part.onYard_lastAudit (p : Part) (f : Env → Yard → Yard) : (p.onYard f).lastAudit = p.lastAudit := rfl

@[simp] theorem Part.doAct_clock (p : Part) (f : Env → Act → Act) : (p.doAct f).clock = p.clock := rfl
@[simp] theorem Part.doAct_settings (p : Part) (f : Env → Act → Act) : (p.doAct f).settings = p.settings := rfl
@[simp] theorem Part.doAct_trims (p : Part) (f : Env → Act → Act) : (p.doAct f).trims = p.trims := rfl
@[simp] theorem Part.doAct_weather (p : Part) (f : Env → Act → Act) : (p.doAct f).weather = p.weather := rfl
@[simp] theorem Part.doAct_weigh (p : Part) (f : Env → Act → Act) : (p.doAct f).weigh = p.weigh := rfl
@[simp] theorem Part.doAct_host (p : Part) (f : Env → Act → Act) : (p.doAct f).host = p.host := rfl
@[simp] theorem Part.doAct_store (p : Part) (f : Env → Act → Act) : (p.doAct f).store = p.store := rfl
@[simp] theorem Part.doAct_flight (p : Part) (f : Env → Act → Act) : (p.doAct f).flight = p.flight := rfl
@[simp] theorem Part.doAct_halt (p : Part) (f : Env → Act → Act) : (p.doAct f).halt = p.halt := rfl
@[simp] theorem Part.doAct_power (p : Part) (f : Env → Act → Act) : (p.doAct f).power = p.power := rfl
@[simp] theorem Part.doAct_lastAudit (p : Part) (f : Env → Act → Act) : (p.doAct f).lastAudit = p.lastAudit := rfl

@[simp] theorem Part.serve_clock (p : Part) : (p.serve).clock = p.clock := rfl
@[simp] theorem Part.serve_settings (p : Part) : (p.serve).settings = p.settings := rfl
@[simp] theorem Part.serve_trims (p : Part) : (p.serve).trims = p.trims := rfl
@[simp] theorem Part.serve_weather (p : Part) : (p.serve).weather = p.weather := rfl
@[simp] theorem Part.serve_weigh (p : Part) : (p.serve).weigh = p.weigh := rfl
@[simp] theorem Part.serve_host (p : Part) : (p.serve).host = p.host := rfl
@[simp] theorem Part.serve_store (p : Part) : (p.serve).store = p.store := rfl
@[simp] theorem Part.serve_flight (p : Part) : (p.serve).flight = p.flight := rfl
@[simp] theorem Part.serve_halt (p : Part) : (p.serve).halt = p.halt := rfl
@[simp] theorem Part.serve_power (p : Part) : (p.serve).power = p.power := rfl
@[simp] theorem Part.serve_lastAudit (p : Part) : (p.serve).lastAudit = p.lastAudit := rfl

@[simp] theorem Part.judgeAndServe_clock (p : Part) : (p.judgeAndServe).clock = p.clock := rfl
@[simp] theorem Part.judgeAndServe_settings (p : Part) : (p.judgeAndServe).settings = p.settings := rfl
@[simp] theorem Part.judgeAndServe_trims (p : Part) : (p.judgeAndServe).trims = p.trims := rfl
@[simp] theorem Part.judgeAndServe_weather (p : Part) : (p.judgeAndServe).weather = p.weather := rfl
@[simp] theorem Part.judgeAndServe_weigh (p : Part) : (p.judgeAndServe).weigh = p.weigh := rfl
@[simp] theorem Part.judgeAndServe_host (p : Part) : (p.judgeAndServe).host = p.host := rfl
@[simp] theorem Part.judgeAndServe_store (p : Part) : (p.judgeAndServe).store = p.store := rfl
@[simp] theorem Part.judgeAndServe_flight (p : Part) : (p.judgeAndServe).flight = p.flight := rfl
@[simp] theorem Part.judgeAndServe_halt (p : Part) : (p.judgeAndServe).halt = p.halt := rfl
@[simp] theorem Part.judgeAndServe_power (p : Part) : (p.judgeAndServe).power = p.power := rfl
@[simp] theorem Part.judgeAndServe_lastAudit (p : Part) : (p.judgeAndServe).lastAudit = p.lastAudit := rfl

@[simp] theorem Part.rainStep_clock (p : Part) : (p.rainStep).clock = p.clock := rfl
@[simp] theorem Part.rainStep_settings (p : Part) : (p.rainStep).settings = p.settings := rfl
@[simp] theorem Part.rainStep_trims (p : Part) : (p.rainStep).trims = p.trims := rfl
@[simp] theorem Part.rainStep_weigh (p : Part) : (p.rainStep).weigh = p.weigh := rfl
@[simp] theorem Part.rainStep_host (p : Part) : (p.rainStep).host = p.host := rfl
@[simp] theorem Part.rainStep_store (p : Part) : (p.rainStep).store = p.store := rfl
@[simp] theorem Part.rainStep_flight (p : Part) : (p.rainStep).flight = p.flight := rfl
@[simp] theorem Part.rainStep_halt (p : Part) : (p.rainStep).halt = p.halt := rfl
@[simp] theorem Part.rainStep_power (p : Part) : (p.rainStep).power = p.power := rfl
@[simp] theorem Part.rainStep_lastAudit (p : Part) : (p.rainStep).lastAudit = p.lastAudit := rfl

@[simp] theorem Part.dryingExpiry_clock (p : Part) : (p.dryingExpiry).clock = p.clock := rfl
@[simp] theorem Part.dryingExpiry_settings (p : Part) : (p.dryingExpiry).settings = p.settings := rfl
@[simp] theorem Part.dryingExpiry_trims (p : Part) : (p.dryingExpiry).trims = p.trims := rfl
@[simp] theorem Part.dryingExpiry_weigh (p : Part) : (p.dryingExpiry).weigh = p.weigh := rfl
@[simp] theorem Part.dryingExpiry_host (p : Part) : (p.dryingExpiry).host = p.host := rfl
@[simp] theorem Part.dryingExpiry_store (p : Part) : (p.dryingExpiry).store = p.store := rfl
@[simp] theorem Part.dryingExpiry_flight (p : Part) : (p.dryingExpiry).flight = p.flight := rfl
@[simp] theorem Part.dryingExpiry_halt (p : Part) : (p.dryingExpiry).halt = p.halt := rfl
@[simp] theorem Part.dryingExpiry_power (p : Part) : (p.dryingExpiry).power = p.power := rfl
@[simp] theorem Part.dryingExpiry_lastAudit (p : Part) : (p.dryingExpiry).lastAudit = p.lastAudit := rfl

@[simp] theorem Part.weighExpiry_clock (p : Part) : (p.weighExpiry).clock = p.clock := rfl
@[simp] theorem Part.weighExpiry_settings (p : Part) : (p.weighExpiry).settings = p.settings := rfl
@[simp] theorem Part.weighExpiry_trims (p : Part) : (p.weighExpiry).trims = p.trims := rfl
@[simp] theorem Part.weighExpiry_weather (p : Part) : (p.weighExpiry).weather = p.weather := rfl
@[simp] theorem Part.weighExpiry_host (p : Part) : (p.weighExpiry).host = p.host := rfl
@[simp] theorem Part.weighExpiry_store (p : Part) : (p.weighExpiry).store = p.store := rfl
@[simp] theorem Part.weighExpiry_flight (p : Part) : (p.weighExpiry).flight = p.flight := rfl
@[simp] theorem Part.weighExpiry_halt (p : Part) : (p.weighExpiry).halt = p.halt := rfl
@[simp] theorem Part.weighExpiry_power (p : Part) : (p.weighExpiry).power = p.power := rfl
@[simp] theorem Part.weighExpiry_lastAudit (p : Part) : (p.weighExpiry).lastAudit = p.lastAudit := rfl

@[simp] theorem Part.stockExpiry_clock (p : Part) (number : Nat) : (p.stockExpiry number).clock = p.clock := rfl
@[simp] theorem Part.stockExpiry_settings (p : Part) (number : Nat) : (p.stockExpiry number).settings = p.settings := rfl
@[simp] theorem Part.stockExpiry_trims (p : Part) (number : Nat) : (p.stockExpiry number).trims = p.trims := rfl
@[simp] theorem Part.stockExpiry_weather (p : Part) (number : Nat) : (p.stockExpiry number).weather = p.weather := rfl
@[simp] theorem Part.stockExpiry_weigh (p : Part) (number : Nat) : (p.stockExpiry number).weigh = p.weigh := rfl
@[simp] theorem Part.stockExpiry_host (p : Part) (number : Nat) : (p.stockExpiry number).host = p.host := rfl
@[simp] theorem Part.stockExpiry_store (p : Part) (number : Nat) : (p.stockExpiry number).store = p.store := rfl
@[simp] theorem Part.stockExpiry_flight (p : Part) (number : Nat) : (p.stockExpiry number).flight = p.flight := rfl
@[simp] theorem Part.stockExpiry_halt (p : Part) (number : Nat) : (p.stockExpiry number).halt = p.halt := rfl
@[simp] theorem Part.stockExpiry_power (p : Part) (number : Nat) : (p.stockExpiry number).power = p.power := rfl
@[simp] theorem Part.stockExpiry_lastAudit (p : Part) (number : Nat) : (p.stockExpiry number).lastAudit = p.lastAudit := rfl

@[simp] theorem Part.haltOn_clock (p : Part) : (p.haltOn).clock = p.clock := rfl
@[simp] theorem Part.haltOn_settings (p : Part) : (p.haltOn).settings = p.settings := rfl
@[simp] theorem Part.haltOn_trims (p : Part) : (p.haltOn).trims = p.trims := rfl
@[simp] theorem Part.haltOn_weather (p : Part) : (p.haltOn).weather = p.weather := rfl
@[simp] theorem Part.haltOn_weigh (p : Part) : (p.haltOn).weigh = p.weigh := rfl
@[simp] theorem Part.haltOn_host (p : Part) : (p.haltOn).host = p.host := rfl
@[simp] theorem Part.haltOn_store (p : Part) : (p.haltOn).store = p.store := rfl
@[simp] theorem Part.haltOn_flight (p : Part) : (p.haltOn).flight = p.flight := rfl
@[simp] theorem Part.haltOn_power (p : Part) : (p.haltOn).power = p.power := rfl
@[simp] theorem Part.haltOn_lastAudit (p : Part) : (p.haltOn).lastAudit = p.lastAudit := rfl

@[simp] theorem Part.haltOff_clock (p : Part) : (p.haltOff).clock = p.clock := rfl
@[simp] theorem Part.haltOff_settings (p : Part) : (p.haltOff).settings = p.settings := rfl
@[simp] theorem Part.haltOff_trims (p : Part) : (p.haltOff).trims = p.trims := rfl
@[simp] theorem Part.haltOff_weather (p : Part) : (p.haltOff).weather = p.weather := rfl
@[simp] theorem Part.haltOff_weigh (p : Part) : (p.haltOff).weigh = p.weigh := rfl
@[simp] theorem Part.haltOff_host (p : Part) : (p.haltOff).host = p.host := rfl
@[simp] theorem Part.haltOff_store (p : Part) : (p.haltOff).store = p.store := rfl
@[simp] theorem Part.haltOff_flight (p : Part) : (p.haltOff).flight = p.flight := rfl
@[simp] theorem Part.haltOff_power (p : Part) : (p.haltOff).power = p.power := rfl
@[simp] theorem Part.haltOff_lastAudit (p : Part) : (p.haltOff).lastAudit = p.lastAudit := rfl

@[simp] theorem Part.discard_clock (p : Part) : (p.discard).clock = p.clock := rfl
@[simp] theorem Part.discard_settings (p : Part) : (p.discard).settings = p.settings := rfl
@[simp] theorem Part.discard_trims (p : Part) : (p.discard).trims = p.trims := rfl
@[simp] theorem Part.discard_weather (p : Part) : (p.discard).weather = p.weather := rfl
@[simp] theorem Part.discard_host (p : Part) : (p.discard).host = p.host := rfl
@[simp] theorem Part.discard_store (p : Part) : (p.discard).store = p.store := rfl
@[simp] theorem Part.discard_flight (p : Part) : (p.discard).flight = p.flight := rfl
@[simp] theorem Part.discard_halt (p : Part) : (p.discard).halt = p.halt := rfl
@[simp] theorem Part.discard_power (p : Part) : (p.discard).power = p.power := rfl
@[simp] theorem Part.discard_lastAudit (p : Part) : (p.discard).lastAudit = p.lastAudit := rfl

@[simp] theorem Part.clearTables_clock (p : Part) : (p.clearTables).clock = p.clock := rfl
@[simp] theorem Part.clearTables_settings (p : Part) : (p.clearTables).settings = p.settings := rfl
@[simp] theorem Part.clearTables_weather (p : Part) : (p.clearTables).weather = p.weather := rfl
@[simp] theorem Part.clearTables_weigh (p : Part) : (p.clearTables).weigh = p.weigh := rfl
@[simp] theorem Part.clearTables_host (p : Part) : (p.clearTables).host = p.host := rfl
@[simp] theorem Part.clearTables_store (p : Part) : (p.clearTables).store = p.store := rfl
@[simp] theorem Part.clearTables_flight (p : Part) : (p.clearTables).flight = p.flight := rfl
@[simp] theorem Part.clearTables_halt (p : Part) : (p.clearTables).halt = p.halt := rfl
@[simp] theorem Part.clearTables_power (p : Part) : (p.clearTables).power = p.power := rfl
@[simp] theorem Part.clearTables_lastAudit (p : Part) : (p.clearTables).lastAudit = p.lastAudit := rfl

@[simp] theorem Part.cutFrame_clock (p : Part) : (p.cutFrame).clock = p.clock := rfl
@[simp] theorem Part.cutFrame_settings (p : Part) : (p.cutFrame).settings = p.settings := rfl
@[simp] theorem Part.cutFrame_trims (p : Part) : (p.cutFrame).trims = p.trims := rfl
@[simp] theorem Part.cutFrame_weather (p : Part) : (p.cutFrame).weather = p.weather := rfl
@[simp] theorem Part.cutFrame_weigh (p : Part) : (p.cutFrame).weigh = p.weigh := rfl
@[simp] theorem Part.cutFrame_store (p : Part) : (p.cutFrame).store = p.store := rfl
@[simp] theorem Part.cutFrame_flight (p : Part) : (p.cutFrame).flight = p.flight := rfl
@[simp] theorem Part.cutFrame_halt (p : Part) : (p.cutFrame).halt = p.halt := rfl
@[simp] theorem Part.cutFrame_power (p : Part) : (p.cutFrame).power = p.power := rfl
@[simp] theorem Part.cutFrame_lastAudit (p : Part) : (p.cutFrame).lastAudit = p.lastAudit := rfl

/-! ### Events -/

@[simp] theorem Yard.raise_events (y : Yard) (e : Event) : (y.raise e).events = raiseIn y.events e := rfl

@[simp] theorem Part.raise_events (p : Part) (e : Event) :
    (p.raise e).yard.events = raiseIn p.yard.events e := rfl

/-! ### Acts -/

@[simp] theorem Act.on_yard (a : Act) (f : Yard → Yard) : (a.on f).yard = f a.yard := rfl
@[simp] theorem Act.on_freed (a : Act) (f : Yard → Yard) : (a.on f).freed = a.freed := rfl
@[simp] theorem Act.on_bays (a : Act) (f : Yard → Yard) : (a.on f).bays = a.bays := rfl
@[simp] theorem Act.on_recordsFreed (a : Act) (f : Yard → Yard) :
    (a.on f).recordsFreed = a.recordsFreed := rfl
@[simp] theorem Act.touchBay_yard (a : Act) (b : Nat) : (a.touchBay b).yard = a.yard := rfl
@[simp] theorem Act.offerLater_yard (a : Act) (t : Nat) : (a.offerLater t).yard = a.yard := rfl
@[simp] theorem Yard.act_yard (y : Yard) : y.act.yard = y := rfl

@[simp] theorem Act.touchBayOf_yard (a : Act) (tag : Nat) : (a.touchBayOf tag).yard = a.yard := by
  unfold Act.touchBayOf; split <;> rfl

/-! ### The state and its step -/

@[simp] theorem State.onPart_eq (s : State) (f : Part → Part) :
    s.onPart f = .next { s with part := f s.part } := rfl

/-- A step on an empty queue idles. -/
theorem step_empty (s : State) (h : s.pending = []) : step s = .next s := by
  simp [step, h]

/-- A step carries out the command at the front of the queue. -/
theorem step_front (s : State) (c : Instr) (rest : List Instr) :
    step { s with pending := c :: rest } = exec c { s with pending := rest } := rfl

end Sys2Proof.Machine
end

