-- ==== Sys2Proof/Laws/Table.lean ====
section
/-! SUPPORT. The laws of a keyed table: what is read after a put, a drop or a change, and that each keeps the canonical form. -/

namespace Sys2Proof

variable {α : Type}

theorem Table.findIn_putIn_same (l : List (Nat × α)) (i : Nat) (v : α) :
    Table.findIn (Table.putIn l i v) i = some v := by
  induction l with
  | nil => simp [Table.putIn, Table.findIn]
  | cons e rest ih =>
    obtain ⟨k, w⟩ := e
    simp only [Table.putIn]
    split
    · simp [Table.findIn]
    · split
      · simp [Table.findIn]
      · next h => simp [Table.findIn, Ne.symm h, ih]

theorem Table.findIn_putIn_other (l : List (Nat × α)) (i j : Nat) (v : α) (h : i ≠ j) :
    Table.findIn (Table.putIn l i v) j = Table.findIn l j := by
  induction l with
  | nil => simp [Table.putIn, Table.findIn, h]
  | cons e rest ih =>
    obtain ⟨k, w⟩ := e
    simp only [Table.putIn]
    split
    · simp [Table.findIn, h]
    · split
      · next hk => subst hk; simp [Table.findIn, h]
      · simp [Table.findIn, ih]

/-- A record read after it is put is the one put. -/
@[simp] theorem Table.get?_put_same (t : Table α) (i : Nat) (v : α) : (t.put i v).get? i = some v :=
  Table.findIn_putIn_same _ _ _

/-- A put leaves every other key as it was. -/
theorem Table.get?_put_other (t : Table α) {i j : Nat} (v : α) (h : i ≠ j) :
    (t.put i v).get? j = t.get? j :=
  Table.findIn_putIn_other _ _ _ _ h

theorem Table.findIn_filter_key (l : List (Nat × α)) (i : Nat) (test : Nat → Bool) :
    Table.findIn (l.filter fun e => test e.1) i = if test i then Table.findIn l i else none := by
  induction l with
  | nil => simp [Table.findIn]
  | cons e rest ih =>
    obtain ⟨k, w⟩ := e
    by_cases hk : test k
    · simp only [List.filter_cons, hk, if_true, Table.findIn]
      by_cases h : k = i
      · subst h; simp [hk]
      · simp [h, ih]
    · simp only [List.filter_cons, hk, Table.findIn]
      by_cases h : k = i
      · subst h; simp [hk, ih]
      · simp [h, ih]

/-- A dropped record is no longer there. -/
@[simp] theorem Table.get?_drop_same (t : Table α) (i : Nat) : (t.drop i).get? i = none := by
  have h := Table.findIn_filter_key t.entries i (fun k => k != i)
  simpa [Table.get?, Table.drop] using h

/-- A drop leaves every other key as it was. -/
theorem Table.get?_drop_other (t : Table α) {i j : Nat} (h : i ≠ j) : (t.drop i).get? j = t.get? j := by
  have e := Table.findIn_filter_key t.entries j (fun k => k != i)
  simpa [Table.get?, Table.drop, Ne.symm h] using e

theorem Table.findIn_map (l : List (Nat × α)) (f : Nat → α → α) (i : Nat) :
    Table.findIn (l.map fun e => (e.1, f e.1 e.2)) i = (Table.findIn l i).map (f i) := by
  induction l with
  | nil => simp [Table.findIn]
  | cons e rest ih =>
    obtain ⟨k, w⟩ := e
    simp only [List.map_cons, Table.findIn]
    by_cases h : k = i
    · subst h; simp
    · simp [h, ih]

/-- A change of every record reads as that change. -/
@[simp] theorem Table.get?_mapVal (t : Table α) (f : Nat → α → α) (i : Nat) :
    (t.mapVal f).get? i = (t.get? i).map (f i) :=
  Table.findIn_map _ _ _

/-- A change of one record is read under its key. -/
@[simp] theorem Table.get?_modify_same (t : Table α) (i : Nat) (f : α → α) :
    (t.modify i f).get? i = (t.get? i).map f := by
  simp [Table.modify]

/-- A change of one record leaves every other key as it was. -/
theorem Table.get?_modify_other (t : Table α) {i j : Nat} (f : α → α) (h : i ≠ j) :
    (t.modify i f).get? j = t.get? j := by
  simp [Table.modify, Ne.symm h]

/-- The keys of a changed table are those it had. -/
@[simp] theorem Table.keys_mapVal (t : Table α) (f : Nat → α → α) : (t.mapVal f).keys = t.keys := by
  simp [Table.keys, Table.mapVal, Function.comp_def]

@[simp] theorem Table.size_mapVal (t : Table α) (f : Nat → α → α) : (t.mapVal f).size = t.size := by
  simp [Table.size, Table.mapVal]

@[simp] theorem Table.size_modify (t : Table α) (i : Nat) (f : α → α) :
    (t.modify i f).size = t.size := by
  simp [Table.modify]

/-! ### The canonical form -/

theorem Table.rising_iff (l : List (Nat × α)) :
    Table.rising l = true ↔ (l.map Prod.fst).Pairwise (· < ·) := by
  induction l with
  | nil => simp [Table.rising]
  | cons e rest ih =>
    obtain ⟨i, v⟩ := e
    cases rest with
    | nil => simp [Table.rising]
    | cons d more =>
      obtain ⟨j, w⟩ := d
      simp only [Table.rising, Bool.and_eq_true, decide_eq_true_eq, ih]
      simp only [List.map_cons, List.pairwise_cons]
      constructor
      · rintro ⟨h, hj, hr⟩
        refine ⟨?_, hj, hr⟩
        intro a ha
        rcases List.mem_cons.mp ha with rfl | ha
        · exact h
        · exact Nat.lt_trans h (hj a ha)
      · rintro ⟨hi, hj, hr⟩
        exact ⟨hi j (by simp), hj, hr⟩

theorem Table.mem_keys_putIn (l : List (Nat × α)) (i : Nat) (v : α) (k : Nat) :
    k ∈ (Table.putIn l i v).map Prod.fst ↔ k = i ∨ k ∈ l.map Prod.fst := by
  induction l with
  | nil => simp [Table.putIn]
  | cons e rest ih =>
    obtain ⟨j, w⟩ := e
    simp only [Table.putIn]
    split
    · simp
    · split
      · next h => subst h; simp
      · simp only [List.map_cons, List.mem_cons, ih]; tauto

/-- A put keeps the canonical form. -/
theorem Table.wf_put (t : Table α) (i : Nat) (v : α) (h : t.wf = true) : (t.put i v).wf = true := by
  obtain ⟨l⟩ := t
  simp only [Table.wf, Table.put, Table.rising_iff] at *
  induction l with
  | nil => simp [Table.putIn]
  | cons e rest ih =>
    obtain ⟨k, w⟩ := e
    simp only [List.map_cons, List.pairwise_cons] at h
    simp only [Table.putIn]
    split
    · next hk =>
      simp only [List.map_cons, List.pairwise_cons]
      refine ⟨?_, h⟩
      intro a ha
      rcases List.mem_cons.mp ha with rfl | ha
      · exact hk
      · exact Nat.lt_trans hk (h.1 a ha)
    · split
      · next hk => subst hk; simpa using h
      · next hk hne =>
        simp only [List.map_cons, List.pairwise_cons]
        refine ⟨?_, ih h.2⟩
        intro a ha
        rcases (Table.mem_keys_putIn rest i v a).mp ha with rfl | ha
        · omega
        · exact h.1 a ha

/-- A drop keeps the canonical form. -/
theorem Table.wf_drop (t : Table α) (i : Nat) (h : t.wf = true) : (t.drop i).wf = true := by
  simp only [Table.wf, Table.drop, Table.rising_iff] at *
  exact h.sublist (List.filter_sublist.map _)

/-- A selection keeps the canonical form. -/
theorem Table.wf_keep (t : Table α) (test : Nat → α → Bool) (h : t.wf = true) :
    (t.keep test).wf = true := by
  simp only [Table.wf, Table.keep, Table.rising_iff] at *
  exact h.sublist (List.filter_sublist.map _)

/-- A change of records keeps the canonical form. -/
theorem Table.wf_mapVal (t : Table α) (f : Nat → α → α) (h : t.wf = true) : (t.mapVal f).wf = true := by
  simp only [Table.wf, Table.mapVal, Table.rising_iff, List.map_map, Function.comp_def] at *
  exact h

/-- A change of one record keeps the canonical form. -/
theorem Table.wf_modify (t : Table α) (i : Nat) (f : α → α) (h : t.wf = true) :
    (t.modify i f).wf = true :=
  Table.wf_mapVal _ _ h

/-- A put of a value whose default is not listed keeps the canonical form. -/
theorem Table.wf_putD [DecidableEq α] (t : Table α) (i : Nat) (d v : α) (h : t.wf = true) :
    (t.putD i d v).wf = true := by
  unfold Table.putD
  split
  · exact Table.wf_drop _ _ h
  · exact Table.wf_put _ _ _ h

/-- A value put with its default not listed is the value read. -/
@[simp] theorem Table.getD_putD_same [DecidableEq α] (t : Table α) (i : Nat) (d v : α) :
    (t.putD i d v).getD i d = v := by
  unfold Table.putD Table.getD
  split
  · next h => simp [h]
  · simp

/-- A put with its default not listed leaves every other key as it was. -/
theorem Table.getD_putD_other [DecidableEq α] (t : Table α) {i j : Nat} (d v : α) (h : i ≠ j) :
    (t.putD i d v).getD j d = t.getD j d := by
  unfold Table.putD Table.getD
  split
  · rw [Table.get?_drop_other t h]
  · rw [Table.get?_put_other t v h]

end Sys2Proof
end

