-- ==== Sys2Proof/Laws/Ops.lean ====
section
/-! SUPPORT. What each shared operation over the yard's records does, once: stacks, packs, trucks, terminals, moves and jobs read after they were written. -/

namespace Sys2Proof.Machine

/-! ### Stacks and claims (R1, R3, R4, R7, R8) -/

@[simp] theorem Yard.stackOf_setStack_same (y : Yard) (b : Nat) (tags : List Nat) :
    (y.setStack b tags).stackOf b = tags :=
  Table.getD_putD_same ..

theorem Yard.stackOf_setStack_other (y : Yard) {b c : Nat} (tags : List Nat) (h : b ≠ c) :
    (y.setStack b tags).stackOf c = y.stackOf c :=
  Table.getD_putD_other _ _ _ h

/-- R3: the pack that joins a bay stands on top of it. -/
@[simp] theorem Yard.stackOf_joinStack_same (y : Yard) (b tag : Nat) :
    (y.joinStack b tag).stackOf b = y.stackOf b ++ [tag] :=
  Yard.stackOf_setStack_same ..

/-- R3: a join changes no other stack. -/
theorem Yard.stackOf_joinStack_other (y : Yard) {b c : Nat} (tag : Nat) (h : b ≠ c) :
    (y.joinStack b tag).stackOf c = y.stackOf c :=
  Yard.stackOf_setStack_other _ _ h

/-- R4: a pack that leaves a bay is taken out of its stack, and the others close up. -/
@[simp] theorem Yard.stackOf_leaveStack_same (y : Yard) (b tag : Nat) :
    (y.leaveStack b tag).stackOf b = (y.stackOf b).erase tag :=
  Yard.stackOf_setStack_same ..

/-- R4: a leave changes no other stack. -/
theorem Yard.stackOf_leaveStack_other (y : Yard) {b c : Nat} (tag : Nat) (h : b ≠ c) :
    (y.leaveStack b tag).stackOf c = y.stackOf c :=
  Yard.stackOf_setStack_other _ _ h

@[simp] theorem Yard.claimsOf_takeClaim_same (y : Yard) (b : Nat) :
    (y.takeClaim b).claimsOf b = y.claimsOf b + 1 :=
  Table.getD_putD_same ..

theorem Yard.claimsOf_takeClaim_other (y : Yard) {b c : Nat} (h : b ≠ c) :
    (y.takeClaim b).claimsOf c = y.claimsOf c :=
  Table.getD_putD_other _ _ _ h

@[simp] theorem Yard.claimsOf_giveClaim_same (y : Yard) (b : Nat) :
    (y.giveClaim b).claimsOf b = y.claimsOf b - 1 :=
  Table.getD_putD_same ..

theorem Yard.claimsOf_giveClaim_other (y : Yard) {b c : Nat} (h : b ≠ c) :
    (y.giveClaim b).claimsOf c = y.claimsOf c :=
  Table.getD_putD_other _ _ _ h

/-! ### Packs -/

@[simp] theorem Yard.pack?_modifyPack_same (y : Yard) (tag : Nat) (f : Pack → Pack) :
    (y.modifyPack tag f).pack? tag = (y.pack? tag).map f :=
  Table.get?_modify_same ..

theorem Yard.pack?_modifyPack_other (y : Yard) {tag u : Nat} (f : Pack → Pack) (h : tag ≠ u) :
    (y.modifyPack tag f).pack? u = y.pack? u :=
  Table.get?_modify_other _ _ h

/-- R3: the pack that joins a bay has its place there, one tier above the old height. -/
@[simp] theorem Yard.pack?_joinStack_same (y : Yard) (b tag : Nat) :
    (y.joinStack b tag).pack? tag
      = (y.pack? tag).map fun p => { p with place := .bay b (y.height b + 1) } :=
  Yard.pack?_modifyPack_same ..

theorem Yard.pack?_joinStack_other (y : Yard) (b : Nat) {tag u : Nat} (h : tag ≠ u) :
    (y.joinStack b tag).pack? u = y.pack? u :=
  Yard.pack?_modifyPack_other _ _ h

/-- R4: the pack that leaves a bay has no place. -/
@[simp] theorem Yard.pack?_leaveStack_same (y : Yard) (b tag : Nat) :
    (y.leaveStack b tag).pack? tag = (y.pack? tag).map fun p => { p with place := .nowhere } := by
  simp [Yard.leaveStack, Yard.pack?]

/-- R4: any other pack keeps all but the tier of its place. -/
theorem Yard.pack?_leaveStack_other (y : Yard) (b : Nat) {tag u : Nat} (h : u ≠ tag) :
    (y.leaveStack b tag).pack? u = (y.pack? u).map fun p =>
      if (y.above b tag).contains u then { p with place := p.place.lower } else p := by
  simp [Yard.leaveStack, Yard.pack?, h]

/-! ### Trucks -/

/-- The first truck of a number is the one that is changed, where the change keeps its number. -/
theorem Table.first?_modify_number (l : List (Nat × Truck)) (n i : Nat) (t : Truck) (f : Truck → Truck)
    (hf : ∀ t, (f t).number = t.number)
    (h : l.find? (fun e => decide (e.2.number = n)) = some (i, t)) :
    (l.map fun e => (e.1, if e.1 = i then f e.2 else e.2)).find? (fun e => decide (e.2.number = n))
      = some (i, f t) := by
  induction l with
  | nil => simp at h
  | cons e rest ih =>
    have hn : (if e.1 = i then f e.2 else e.2).number = e.2.number := by
      split <;> simp [hf]
    rw [List.map_cons, List.find?_cons, hn]
    rw [List.find?_cons] at h
    cases hd : decide (e.2.number = n) with
    | true =>
      rw [hd] at h
      simp only [Option.some.injEq] at h
      simp [h]
    | false =>
      rw [hd] at h
      exact ih h

/-- A truck read after it was changed, where the change keeps its number. -/
theorem Yard.truckNo?_modifyTruck_same (y : Yard) (n i : Nat) (t : Truck) (f : Truck → Truck)
    (hf : ∀ t, (f t).number = t.number) (h : y.truckNo? n = some (i, t)) :
    (y.modifyTruck n f).truckNo? n = some (i, f t) := by
  have e : y.modifyTruck n f = { y with trucks := y.trucks.modify i f } := by
    unfold Yard.modifyTruck
    rw [h]
  rw [e]
  exact Table.first?_modify_number _ _ _ _ _ hf h

/-- No truck of the number: nothing is changed. -/
theorem Yard.modifyTruck_none (y : Yard) (n : Nat) (f : Truck → Truck) (h : y.truckNo? n = none) :
    y.modifyTruck n f = y := by
  unfold Yard.modifyTruck
  rw [h]

/-! ### Terminals -/

theorem vecModify_getElem?_same {α : Type} {n : Nat} (v : Vector α n) (i : Nat) (f : α → α) :
    (vecModify v i f)[i]? = v[i]?.map f := by
  unfold vecModify
  cases h : v[i]? with
  | none => simp [h]
  | some a =>
    have hi : i < n := by
      rcases Nat.lt_or_ge i n with h' | h'
      · exact h'
      · rw [Vector.getElem?_eq_none h'] at h
        exact absurd h (by simp)
    simp [hi]

theorem vecModify_getElem?_other {α : Type} {n : Nat} (v : Vector α n) {i j : Nat} (f : α → α)
    (h : i ≠ j) : (vecModify v i f)[j]? = v[j]? := by
  unfold vecModify
  cases v[i]? with
  | none => rfl
  | some a => simp [h]

/-- A terminal read after it was changed. -/
theorem Yard.terminal_modifyTerminal_same (y : Yard) {t : Nat} (f : Terminal → Terminal) (h : t ≤ 7) :
    (y.modifyTerminal t f).terminal t = f (y.terminal t) := by
  have ht : t < 8 := by omega
  simp only [Yard.terminal, Yard.modifyTerminal, vecModify_getElem?_same]
  rw [Vector.getElem?_eq_getElem ht]
  rfl

theorem Yard.terminal_modifyTerminal_other (y : Yard) {t u : Nat} (f : Terminal → Terminal)
    (h : t ≠ u) : (y.modifyTerminal t f).terminal u = y.terminal u := by
  simp only [Yard.terminal, Yard.modifyTerminal, vecModify_getElem?_other _ _ h]

/-! ### Moves and jobs -/

/-- R132: a move that has ended is not held, and its stacks, packs, trucks, jobs and flags stay. -/
theorem Yard.dropMove_spec (y : Yard) (n : Nat) :
    (y.dropMove n).move? n = none ∧ (y.dropMove n).stack = y.stack ∧ (y.dropMove n).packs = y.packs
      ∧ (y.dropMove n).trucks = y.trucks ∧ (y.dropMove n).lanes = y.lanes
      ∧ (y.dropMove n).jobs = y.jobs ∧ (y.dropMove n).queues = y.queues
      ∧ (y.dropMove n).events = y.events := by
  unfold Yard.dropMove
  split
  · next h => exact ⟨h, rfl, rfl, rfl, rfl, rfl, rfl, rfl⟩
  · next m h =>
    refine ⟨Table.get?_drop_same .., ?_, ?_, ?_, ?_, ?_, ?_, ?_⟩ <;> cases m.dest <;> rfl

/-- R121: a job that has ended is not in the list, and stacks, trucks, lanes, moves and flags stay. -/
theorem Act.endJob_spec (a : Act) (n : Nat) :
    (a.endJob n).yard.job? n = none ∧ (a.endJob n).yard.stack = a.yard.stack
      ∧ (a.endJob n).yard.trucks = a.yard.trucks ∧ (a.endJob n).yard.lanes = a.yard.lanes
      ∧ (a.endJob n).yard.loader = a.yard.loader ∧ (a.endJob n).yard.events = a.yard.events
      ∧ (a.endJob n).freed = a.freed := by
  unfold Act.endJob
  split
  · next h => exact ⟨h, rfl, rfl, rfl, rfl, rfl, rfl⟩
  · next j h =>
    simp only
    have key : ∀ b : Act, (b.touchBayOf j.tag).yard = b.yard ∧ (b.touchBayOf j.tag).freed = b.freed := by
      intro b
      unfold Act.touchBayOf
      split <;> exact ⟨rfl, rfl⟩
    split <;> simp only [(key _).1, (key _).2, Act.touchBay] <;>
      exact ⟨Table.get?_drop_same .., rfl, rfl, rfl, rfl, rfl, rfl⟩

end Sys2Proof.Machine
end

