-- ==== Sys2Proof/Laws/Dispatch.lean ====
section
/-! SUPPORT. Stacks, claims, moves and terminals: no operation of an act before the sends touches them; what a send and the end of a move do to them; and that both keep Yard.Staging. -/

namespace Sys2Proof.Machine

/-! ### What allocation, placement, job needs and judgement leave alone -/

/-- The stacks, the claims and the loader link, which only sends, moves and stack changes write. -/
def Yard.calm (y : Yard) : Table (List Nat) × Table Nat × LoaderLink := (y.stack, y.claims, y.loader)

theorem Yard.calm_modifyTruck (y : Yard) (n : Nat) (f : Truck → Truck) :
    (y.modifyTruck n f).calm = y.calm := by
  unfold Yard.modifyTruck
  split <;> rfl

theorem Yard.calm_dropTruck (y : Yard) (n : Nat) : (y.dropTruck n).calm = y.calm := by
  unfold Yard.dropTruck
  split <;> rfl

theorem Yard.calm_unassign (y : Yard) (tag : Nat) : (y.unassign tag).calm = y.calm := by
  unfold Yard.unassign
  split
  · rfl
  · rw [Yard.calm_modifyTruck]; rfl

theorem Yard.calm_releaseLane (y : Yard) (n : Nat) : (y.releaseLane n).calm = y.calm := by
  unfold Yard.releaseLane
  split
  · exact Yard.calm_modifyTruck ..
  · rfl

theorem Yard.calm_testUnloaded (y : Yard) (n : Nat) : (y.testUnloaded n).calm = y.calm := by
  unfold Yard.testUnloaded
  split
  · exact (Yard.calm_dropTruck ..).trans (Yard.calm_releaseLane ..)
  · rfl

theorem Yard.calm_enterLoaded (y : Yard) (n : Nat) : (y.enterLoaded n).calm = y.calm := by
  unfold Yard.enterLoaded
  simp only
  split
  · split <;> exact Yard.calm_modifyTruck ..
  · exact Yard.calm_modifyTruck ..

theorem Yard.calm_testLoaded (y : Yard) (n : Nat) : (y.testLoaded n).calm = y.calm := by
  unfold Yard.testLoaded
  split
  · rfl
  · split
    · exact Yard.calm_enterLoaded ..
    · rfl

theorem Act.calm_newJob (a : Act) (w : JobWork) (tag : Nat) :
    (a.newJob w tag).yard.calm = a.yard.calm := by
  unfold Act.newJob
  split <;> rfl

theorem Act.calm_createJob (a : Act) (w : JobWork) (tag : Nat) :
    (a.createJob w tag).yard.calm = a.yard.calm := by
  rw [Act.createJob, Act.touchBayOf_yard, Act.calm_newJob]

theorem Act.calm_endJob (a : Act) (n : Nat) : (a.endJob n).yard.calm = a.yard.calm := by
  unfold Act.endJob
  split
  · rfl
  · simp only
    split <;> simp only [Act.touchBay, Act.touchBayOf_yard] <;> rfl

theorem foldl_calm {β : Type} (f : Act → β → Act)
    (h : ∀ a b, (f a b).yard.calm = a.yard.calm) (l : List β) (a : Act) :
    (l.foldl f a).yard.calm = a.yard.calm := by
  induction l generalizing a with
  | nil => rfl
  | cons b rest ih => rw [List.foldl_cons, ih, h]

theorem Act.calm_clearBay (a : Act) (b : Nat) : (a.clearBay b).yard.calm = a.yard.calm := by
  unfold Act.clearBay
  apply foldl_calm
  intro a tag
  split
  · exact a.calm_newJob _ _
  · rfl

theorem Act.calm_clearDue (a : Act) : a.clearDue.yard.calm = a.yard.calm :=
  foldl_calm _ Act.calm_clearBay _ _

theorem Act.calm_serveNeeds (fuel : Nat) (a : Act) :
    (Act.serveNeeds fuel a).yard.calm = a.yard.calm := by
  induction fuel generalizing a with
  | zero => rfl
  | succ n ih =>
    unfold Act.serveNeeds
    split
    · rfl
    · split
      · rw [ih, Act.calm_newJob]
      · rfl

theorem Act.calm_needs (a : Act) : a.needs.yard.calm = a.yard.calm := by
  unfold Act.needs
  split
  · exact a.calm_serveNeeds _
  · rfl

theorem Yard.calm_judge (e : Env) (y : Yard) (n : Nat) : (y.judge e n).calm = y.calm := by
  unfold Yard.judge
  split
  · rfl
  · split
    · split
      · unfold Yard.makeReady; split <;> rfl
      · unfold Yard.makeReady; split <;> rfl
      · split <;> rfl
    · rfl

/-- A judgement of the jobs leaves stacks, claims, moves and terminals as they were. -/
theorem Yard.calm_judgeAll (e : Env) (y : Yard) : (y.judgeAll e).calm = y.calm := by
  unfold Yard.judgeAll
  generalize y.jobs.keys = l
  induction l generalizing y with
  | nil => rfl
  | cons n rest ih => rw [List.foldl_cons, ih, Yard.calm_judge]

theorem Yard.calm_takePack (y : Yard) (number line tag : Nat) :
    (y.takePack number line tag).calm = y.calm :=
  Yard.calm_modifyTruck ..

theorem Yard.calm_modifyStockShort (y : Yard) (number line : Nat) (f : Nat → Nat) :
    (y.modifyStockShort number line f).calm = y.calm :=
  Yard.calm_modifyTruck ..

theorem Yard.calm_addWeightShort (y : Yard) (number line : Nat) :
    (y.addWeightShort number line).calm = y.calm :=
  Yard.calm_modifyTruck ..

theorem Yard.calm_reserve (y : Yard) (number line tag : Nat) :
    (y.reserve number line tag).calm = y.calm := by
  rw [Yard.reserve, Yard.calm_modifyStockShort, Yard.calm_takePack]

theorem Yard.calm_allocLine (e : Env) (number line room fuel total : Nat) (y : Yard) :
    (Yard.allocLine e number line room fuel total y).1.calm = y.calm := by
  induction fuel generalizing total y with
  | zero => rfl
  | succ n ih =>
    unfold Yard.allocLine
    split
    · rfl
    · split
      · rfl
      · rw [ih, Yard.calm_reserve]

theorem Yard.calm_allocLines (e : Env) (number room : Nat) (ls : List OrderLine) (line total : Nat)
    (y : Yard) : (Yard.allocLines e number room ls line total y).calm = y.calm := by
  induction ls generalizing line total y with
  | nil => rfl
  | cons l rest ih =>
    unfold Yard.allocLines
    simp only
    rw [ih, Yard.calm_allocLine]

theorem Yard.calm_allocate (e : Env) (y : Yard) (number : Nat) :
    (y.allocate e number).calm = y.calm := by
  unfold Yard.allocate
  split
  · rfl
  · exact Yard.calm_allocLines ..

theorem Act.calm_releaseForWeight (a : Act) (tag : Nat) :
    (a.releaseForWeight tag).yard.calm = a.yard.calm := by
  unfold Act.releaseForWeight
  split
  · rfl
  · exact (Yard.calm_addWeightShort ..).trans (Yard.calm_unassign ..)

theorem Act.calm_writePlan (a : Act) (number : Nat) (kept : List Entry) :
    (a.writePlan number kept).yard.calm = a.yard.calm := by
  unfold Act.writePlan
  simp only
  have h : (kept.foldl (fun a en => a.touchBayOf en.tag) (kept.foldl
      (fun a en => a.newJob (.load number en.ref) en.tag) (a.on fun y => y.modifyTruck number
        fun t => kept.foldl Truck.planEntry t.emptyBed))).yard.calm = a.yard.calm := by
    rw [foldl_calm _ (fun a en => by rw [Act.touchBayOf_yard]),
      foldl_calm _ (fun a en => a.calm_newJob _ _)]
    exact Yard.calm_modifyTruck ..
  rw [Act.calm_clearDue]
  split
  · exact (Yard.calm_enterLoaded ..).trans h
  · exact (Yard.calm_modifyTruck ..).trans h

theorem Act.calm_place (e : Env) (a : Act) (number : Nat) :
    (a.place e number).yard.calm = a.yard.calm := by
  unfold Act.place
  split
  · rfl
  · simp only [Act.on_yard]
    rw [Yard.calm_judgeAll, Act.calm_writePlan, foldl_calm _ Act.calm_releaseForWeight]

theorem Act.calm_endStockWait (e : Env) (a : Act) (number : Nat) :
    (a.endStockWait e number).yard.calm = a.yard.calm := by
  rw [Act.endStockWait, Act.calm_place]
  exact Yard.calm_modifyTruck ..

theorem Act.calm_offer (e : Env) (a : Act) (tag : Nat) :
    (a.offer e tag).yard.calm = a.yard.calm := by
  unfold Act.offer
  split
  · rfl
  · simp only
    split
    · split
      · exact Yard.calm_reserve ..
      · exact (Act.calm_endStockWait ..).trans (Yard.calm_reserve ..)
    · exact Yard.calm_reserve ..

theorem Act.calm_offerAll (e : Env) (fuel : Nat) (a : Act) :
    (Act.offerAll e fuel a).yard.calm = a.yard.calm := by
  induction fuel generalizing a with
  | zero => rfl
  | succ n ih =>
    unfold Act.offerAll
    split
    · rfl
    · rw [ih, Act.calm_offer]

theorem Act.calm_offers (e : Env) (a : Act) : (a.offers e).yard.calm = a.yard.calm :=
  Act.calm_offerAll ..

theorem Act.calm_afterRun (e : Env) (a : Act) (number : Nat) :
    (a.afterRun e number).yard.calm = a.yard.calm := by
  unfold Act.afterRun
  split
  · rfl
  · split
    · exact Yard.calm_modifyTruck ..
    · exact a.calm_place _ _

theorem Act.calm_grant (e : Env) (a : Act) (lane number : Nat) :
    (a.grant e lane number).yard.calm = a.yard.calm := by
  unfold Act.grant
  simp only
  rw [Act.calm_afterRun, Act.on_yard, Yard.calm_allocate]
  exact Yard.calm_modifyTruck ..

theorem Act.calm_grants (e : Env) (fuel : Nat) (a : Act) :
    (Act.grants e fuel a).yard.calm = a.yard.calm := by
  induction fuel generalizing a with
  | zero => rfl
  | succ n ih =>
    unfold Act.grants
    split
    · split
      · rw [ih, Act.calm_offers, Act.calm_grant]
      · rfl
    · rfl

/-- What an act causes leaves stacks, claims, moves and terminals as they were. -/
theorem Act.calm_settled (e : Env) (a : Act) : (a.settled e).yard.calm = a.yard.calm := by
  rw [Act.settled, Act.calm_offers, Act.on_yard, Yard.calm_judgeAll, Act.calm_needs, Act.calm_clearDue]

/-- How an act ends, up to the service of the queues, leaves stacks, claims, moves and terminals as they
were; the service then sends. -/
theorem Act.finish_spec (e : Env) (a : Act) :
    ∃ y : Yard, a.finish e = y.serveAll e ∧ y.calm = a.yard.calm :=
  ⟨_, rfl, by rw [Act.calm_grants, Act.calm_settled]⟩

theorem Yard.calm_restartExpiries (e : Env) (fuel : Nat) (y : Yard) :
    (Yard.restartExpiries e fuel y).calm = y.calm := by
  induction fuel generalizing y with
  | zero => rfl
  | succ fuel ih =>
    simp only [Yard.restartExpiries]
    split
    · exact (ih _).trans ((Act.calm_settled ..).trans (Act.calm_endStockWait ..))
    · rfl

theorem Act.calm_cancelPack (number : Nat) (a : Act) (tag : Nat) :
    (Act.cancelPack number a tag).yard.calm = a.yard.calm := by
  have h : (((a.endJobOf tag).on fun y => (y.unassign tag).vacatePlanned number tag)).yard.calm
      = a.yard.calm := by
    refine (Yard.calm_modifyTruck ..).trans ((Yard.calm_unassign ..).trans ?_)
    unfold Act.endJobOf
    split
    · exact Act.calm_endJob ..
    · rfl
  unfold Act.cancelPack
  split
  · simp only
    split
    · exact h
    · exact h
  · rfl

/-- R65 step 1, with its offers. -/
theorem Act.calm_cancelStep1 (e : Env) (a : Act) (t : Truck) :
    (a.cancelStep1 e t).yard.calm = a.yard.calm := by
  rw [Act.cancelStep1, Act.calm_offers, Act.on_yard, Yard.calm_judgeAll, Act.calm_clearDue]
  exact foldl_calm _ (Act.calm_cancelPack t.number) _ _

theorem Act.calm_unsend (a : Act) (n : Nat) (j : Job) : (a.unsend n j).yard.calm = a.yard.calm := by
  unfold Act.unsend
  split
  · simp only [Act.offerLater, Act.dropCancelled, Act.on]
    rw [Yard.calm_testUnloaded, Yard.vacatePlanned, Yard.calm_modifyTruck, Yard.calm_unassign,
      Act.calm_endJob]
    rfl
  · rfl

/-! ### The laws of moves and claims read stacks, claims, moves and terminals only -/

/-- Yards with the same stacks, claims, moves and terminals have the same laws of moves and claims. -/
theorem Yard.Staging.congr {y z : Yard} (h : y.Staging) (hs : z.stack = y.stack)
    (hc : z.claims = y.claims) (hm : z.loader.moves = y.loader.moves)
    (ht : z.loader.terminals = y.loader.terminals) : z.Staging := by
  have e1 : ∀ t, z.terminal t = y.terminal t := fun t => by simp only [Yard.terminal, ht]
  have e2 : ∀ n, z.move? n = y.move? n := fun n => by simp only [Yard.move?, hm]
  have e3 : ∀ b, z.claimsOf b = y.claimsOf b := fun b => by simp only [Yard.claimsOf, hc]
  have e4 : ∀ b, z.height b = y.height b := fun b => by simp only [Yard.height, Yard.stackOf, hs]
  have e5 : ∀ b, z.movesTo b = y.movesTo b := fun b => by simp only [Yard.movesTo, hm]
  refine ⟨?_, ?_, ?_, ?_, ?_, ?_, ?_⟩
  · intro t n hn
    have := h.listed t n (by rw [← e1]; exact hn)
    simpa only [Yard.moveAt?, e2] using this
  · intro n m hn
    rw [e1]
    exact h.held n m (by rw [← e2]; exact hn)
  · intro t; rw [e1]; exact h.once t
  · intro t; rw [e1]; exact h.credit t
  · intro t; rw [e1]; exact h.off t
  · intro b; rw [e3, e5]; exact h.claims b
  · intro b; rw [e3, e4]; exact h.height b

/-- The laws of moves and claims go over to a yard with the same calm part. -/
theorem Yard.Staging.of_calm {y z : Yard} (h : y.Staging) (e : z.calm = y.calm) : z.Staging := by
  simp only [Yard.calm, Prod.mk.injEq] at e
  exact h.congr e.1 e.2.1 (by rw [e.2.2]) (by rw [e.2.2])

/-! ### How many moves go to a bay -/

theorem Table.countP_putIn {α : Type} (l : List (Nat × α)) (i : Nat) (v : α) (p : Nat × α → Bool)
    (h : Table.findIn l i = none) :
    (Table.putIn l i v).countP p = l.countP p + if p (i, v) then 1 else 0 := by
  induction l with
  | nil => simp [Table.putIn, List.countP_cons]
  | cons e rest ih =>
    obtain ⟨k, w⟩ := e
    simp only [Table.findIn] at h
    split at h
    · cases h
    · next hk =>
      simp only [Table.putIn, if_neg (Ne.symm hk)]
      split
      · simp [List.countP_cons]
      · simp only [List.countP_cons, ih h]; omega

theorem Table.countP_drop {α : Type} (l : List (Nat × α)) (i : Nat) (v : α) (p : Nat × α → Bool)
    (hw : (l.map Prod.fst).Pairwise (· < ·)) (h : Table.findIn l i = some v) :
    (l.filter fun e => e.1 != i).countP p + (if p (i, v) then 1 else 0) = l.countP p := by
  induction l with
  | nil => cases h
  | cons e rest ih =>
    obtain ⟨k, w⟩ := e
    simp only [List.map_cons, List.pairwise_cons] at hw
    simp only [Table.findIn] at h
    split at h
    · next hk =>
      subst hk
      obtain rfl := Option.some.inj h
      have same : (rest.filter fun e => e.1 != k) = rest := by
        rw [List.filter_eq_self]
        intro e he
        have := hw.1 e.1 (List.mem_map_of_mem he)
        simp; omega
      simp [same, List.countP_cons]
    · next hk =>
      have hb : (k != i) = true := by simpa using hk
      simp only [List.filter_cons, hb, if_true, List.countP_cons, ← ih hw.2 h]
      omega

/-! ### The end of a move, and a send, keep the laws of moves and claims (R7, R8, R119, R132) -/

/-- A terminal that lists a move is one of the eight. -/
theorem Yard.terminal_le_of_mem (y : Yard) {t n : Nat} (h : n ∈ (y.terminal t).moves) : t ≤ 7 := by
  rcases Nat.lt_or_ge t 8 with ht | ht
  · omega
  · have e : y.loader.terminals[t]? = none := Vector.getElem?_eq_none ht
    simp [Yard.terminal, e, Terminal.initial] at h

/-- R132, R8: what the end of an outstanding move leaves of terminals, moves, claims and stacks. -/
theorem Yard.dropMove_reads (y : Yard) (n : Nat) (m : Move) (h : y.move? n = some m)
    (hm : m.terminal ≤ 7) :
    (∀ t, (y.dropMove n).terminal t = if t = m.terminal then
        { y.terminal t with
          moves := (y.terminal t).moves.filter fun k => k != n
          notices := (y.terminal t).notices.filter fun k => k.move != n }
      else y.terminal t)
    ∧ (y.dropMove n).loader.moves = y.loader.moves.drop n
    ∧ (∀ b, (y.dropMove n).claimsOf b = if m.dest = .bay b then y.claimsOf b - 1 else y.claimsOf b)
    ∧ (y.dropMove n).stack = y.stack := by
  unfold Yard.dropMove
  simp only [h]
  refine ⟨?_, ?_, ?_, ?_⟩
  · intro t
    by_cases ht : t = m.terminal
    · subst ht
      rw [if_pos rfl]
      refine (Yard.terminal_modifyTerminal_same (match m.dest with
        | .bay b => y.giveClaim b
        | .bed .. => y) _ hm).trans ?_
      cases m.dest <;> rfl
    · rw [if_neg ht]
      refine (Yard.terminal_modifyTerminal_other (match m.dest with
        | .bay b => y.giveClaim b
        | .bed .. => y) _ (Ne.symm ht)).trans ?_
      cases m.dest <;> rfl
  · cases m.dest <;> rfl
  · intro b
    cases hd : m.dest with
    | bed l r => simp; rfl
    | bay c =>
      by_cases hb : c = b
      · subst hb
        rw [if_pos rfl]
        exact Yard.claimsOf_giveClaim_same y c
      · rw [if_neg (by simpa using hb)]
        exact Yard.claimsOf_giveClaim_other y hb
  · cases m.dest <;> rfl

/-- The end of a move keeps the laws of moves and claims. -/
theorem Yard.Staging.dropMove {y : Yard} (h : y.Staging) (hw : y.loader.moves.wf = true) (n : Nat) :
    (y.dropMove n).Staging := by
  cases hn : y.move? n with
  | none => rw [Yard.dropMove, hn]; exact h
  | some m =>
    have hm : m.terminal ≤ 7 := y.terminal_le_of_mem (h.held n m hn)
    obtain ⟨et, em, ec, es⟩ := y.dropMove_reads n m hn hm
    have emv : ∀ k, (y.dropMove n).move? k = if k = n then none else y.move? k := by
      intro k
      simp only [Yard.move?, em]
      split
      · next hk => subst hk; exact Table.get?_drop_same ..
      · next hk => exact Table.get?_drop_other _ (Ne.symm hk)
    have eh : ∀ b, (y.dropMove n).height b = y.height b := fun b => by
      simp only [Yard.height, Yard.stackOf, es]
    have count : ∀ b, (y.dropMove n).movesTo b + (if m.dest = .bay b then 1 else 0) = y.movesTo b := by
      intro b
      have := Table.countP_drop y.loader.moves.entries n m
        (fun en => decide (en.2.dest = .bay b)) ((Table.rising_iff _).mp hw) hn
      simpa [Yard.movesTo, em, Table.drop] using this
    refine ⟨?_, ?_, ?_, ?_, ?_, ?_, ?_⟩
    · intro t k hk
      rw [et] at hk
      have hk' : k ∈ (y.terminal t).moves ∧ (t = m.terminal → k ≠ n) := by
        split at hk
        · simp only [List.mem_filter, bne_iff_ne, ne_eq] at hk; exact ⟨hk.1, fun _ => hk.2⟩
        · next ht => exact ⟨hk, fun h' => absurd h' ht⟩
      have old := h.listed t k hk'.1
      simp only [Yard.moveAt?, emv] at old ⊢
      have hne : k ≠ n := by
        intro e
        subst e
        rw [hn] at old
        simp only at old
        split at old
        · next ht => exact hk'.2 ht.symm rfl
        · cases old
      rw [if_neg hne]
      exact old
    · intro k v hk
      rw [emv] at hk
      split at hk
      · cases hk
      · next hne =>
        have := h.held k v hk
        rw [et]
        split
        · simp only [List.mem_filter, bne_iff_ne, ne_eq]; exact ⟨this, hne⟩
        · exact this
    · intro t
      rw [et]
      split
      · exact (h.once t).filter _
      · exact h.once t
    · intro t
      rw [et]
      split
      · exact ⟨Nat.le_trans (List.length_filter_le ..) (h.credit t).1, (h.credit t).2⟩
      · exact h.credit t
    · intro t
      rw [et]
      split
      · intro ho
        have := h.off t ho
        simp [this]
      · exact h.off t
    · intro b
      have := count b
      have hc := h.claims b
      rw [ec]
      split
      · next hd => rw [if_pos hd] at this; omega
      · next hd => rw [if_neg hd] at this; omega
    · intro b
      have := h.height b
      rw [ec, eh]
      split <;> omega

/-- R119: what a send leaves of terminals, moves, claims and stacks. -/
theorem Yard.send_reads (y : Yard) (pl : SendPlan) (hm : pl.terminal ≤ 7) :
    let k := freeMoveNumber y.loader.moves 33 y.loader.counter
    (∀ t, (y.send pl).terminal t = if t = pl.terminal then
        { y.terminal t with moves := (y.terminal t).moves ++ [k] } else y.terminal t)
    ∧ (y.send pl).loader.moves = y.loader.moves.put k
        { kind := pl.kind, job := pl.job, tag := pl.tag, terminal := pl.terminal,
          source := pl.source, dest := pl.dest, state := .sent, delivered := false }
    ∧ (∀ b, (y.send pl).claimsOf b = if pl.dest = .bay b then y.claimsOf b + 1 else y.claimsOf b)
    ∧ (y.send pl).stack = y.stack := by
  intro k
  unfold Yard.send
  simp only
  refine ⟨?_, ?_, ?_, ?_⟩
  · intro t
    by_cases ht : t = pl.terminal
    · subst ht
      rw [if_pos rfl]
      refine (Yard.terminal_modifyTerminal_same _ _ hm).trans ?_
      cases pl.dest <;> rfl
    · rw [if_neg ht]
      refine (Yard.terminal_modifyTerminal_other _ _ (Ne.symm ht)).trans ?_
      cases pl.dest <;> rfl
  · cases pl.dest <;> rfl
  · intro b
    cases hd : pl.dest with
    | bed l r => simp; rfl
    | bay c =>
      by_cases hb : c = b
      · subst hb
        rw [if_pos rfl]
        exact Yard.claimsOf_takeClaim_same _ c
      · rw [if_neg (by simpa using hb)]
        exact Yard.claimsOf_takeClaim_other _ hb
  · cases pl.dest <;> rfl

/-- A send to an ACTIVE terminal with a free credit, to a bed or to a bay not yet full, under a move
number that is free, keeps the laws of moves and claims. -/
theorem Yard.Staging.send {y : Yard} (h : y.Staging) (pl : SendPlan)
    (free : y.move? (freeMoveNumber y.loader.moves 33 y.loader.counter) = none)
    (take : (y.terminal pl.terminal).canTake = true)
    (room : ∀ b, pl.dest = .bay b → y.height b + y.claimsOf b < 6) : (y.send pl).Staging := by
  simp only [Terminal.canTake, Terminal.hasCredit, Bool.and_eq_true, decide_eq_true_eq] at take
  have hm : pl.terminal ≤ 7 := by
    rcases Nat.lt_or_ge pl.terminal 8 with ht | ht
    · omega
    · have e : y.loader.terminals[pl.terminal]? = none := Vector.getElem?_eq_none ht
      have := take.1
      simp [Yard.terminal, e, Terminal.initial] at this
  obtain ⟨et, em, ec, es⟩ := y.send_reads pl hm
  generalize freeMoveNumber y.loader.moves 33 y.loader.counter = k at free et em
  have emv : ∀ n, (y.send pl).move? n = if n = k then
      some { kind := pl.kind, job := pl.job, tag := pl.tag, terminal := pl.terminal,
             source := pl.source, dest := pl.dest, state := .sent, delivered := false }
      else y.move? n := by
    intro n
    simp only [Yard.move?, em]
    split
    · next hk => subst hk; exact Table.get?_put_same ..
    · next hk => exact Table.get?_put_other _ _ (Ne.symm hk)
  have eh : ∀ b, (y.send pl).height b = y.height b := fun b => by
    simp only [Yard.height, Yard.stackOf, es]
  have fresh : ∀ t, k ∉ (y.terminal t).moves := by
    intro t hk
    have := h.listed t k hk
    rw [Yard.moveAt?, free] at this
    cases this
  refine ⟨?_, ?_, ?_, ?_, ?_, ?_, ?_⟩
  · intro t n hn
    rw [et] at hn
    simp only [Yard.moveAt?, emv]
    by_cases hk : n = k
    · subst hk
      rw [if_pos rfl]
      split at hn
      · next ht => simp [ht]
      · exact absurd hn (fresh t)
    · rw [if_neg hk]
      have hn' : n ∈ (y.terminal t).moves := by
        split at hn
        · simpa [hk] using hn
        · exact hn
      exact h.listed t n hn'
  · intro n v hn
    rw [emv] at hn
    rw [et]
    split at hn
    · next hk =>
      subst hk
      obtain rfl := Option.some.inj hn
      simp
    · have := h.held n v hn
      split
      · simp [this]
      · exact this
  · intro t
    rw [et]
    split
    · simp only [List.nodup_append, List.nodup_cons, List.not_mem_nil, not_false_eq_true,
        List.nodup_nil, and_self, true_and]
      refine ⟨h.once t, ?_⟩
      intro a ha b hb e
      simp only [List.mem_singleton] at hb
      subst e hb
      exact fresh t ha
    · exact h.once t
  · intro t
    rw [et]
    split
    · next ht =>
      subst ht
      have := h.credit pl.terminal
      simp only [List.length_append, List.length_cons, List.length_nil]
      omega
    · exact h.credit t
  · intro t
    rw [et]
    split
    · next ht =>
      subst ht
      intro ho
      have : (y.terminal pl.terminal).state = .off := ho
      rw [take.1] at this
      cases this
    · exact h.off t
  · intro b
    have := Table.countP_putIn y.loader.moves.entries k
      ({ kind := pl.kind, job := pl.job, tag := pl.tag, terminal := pl.terminal,
         source := pl.source, dest := pl.dest, state := .sent, delivered := false } : Move)
      (fun en => decide (en.2.dest = .bay b)) free
    have hc := h.claims b
    have e : (y.send pl).movesTo b = y.movesTo b + if pl.dest = .bay b then 1 else 0 := by
      simpa [Yard.movesTo, em, Table.put] using this
    rw [ec, e]
    split <;> omega
  · intro b
    have := h.height b
    rw [ec, eh]
    split
    · next hd => have := room b hd; omega
    · exact this

end Sys2Proof.Machine
end

