-- ==== Sys2Proof/Laws/Finish.lean ====
section
/-! SUPPORT. What follows an act (clearance, needs, offers, grants, judgement, dispatch) leaves alone all that Yard.still keeps: one lemma for each operation. -/

namespace Sys2Proof.Machine

/-! ### Single writes -/

theorem Yard.still_modifyPack (y : Yard) (tag : Nat) (f : Pack → Pack)
    (h : ∀ p, (f p).still = p.still) : (y.modifyPack tag f).still = y.still := by
  simp only [Yard.still, Yard.modifyPack, Table.modify, Table.mapVal, List.map_map]
  congr 1
  refine congrArg Table.mk (List.map_congr_left ?_)
  intro e _
  simp only [Function.comp]
  split <;> simp [h]

theorem Table.still_modify (t : Table Truck) (i : Nat) (f : Truck → Truck)
    (h : ∀ p, (f p).still = p.still) :
    ((t.modify i f).mapVal fun _ t => t.still) = t.mapVal fun _ t => t.still := by
  simp only [Table.modify, Table.mapVal, List.map_map]
  congr 1
  apply List.map_congr_left
  intro e _
  simp only [Function.comp]
  split <;> simp [h]

theorem Yard.still_modifyTruck (y : Yard) (number : Nat) (f : Truck → Truck)
    (h : ∀ p, (f p).still = p.still) : (y.modifyTruck number f).still = y.still := by
  unfold Yard.modifyTruck
  split
  · simp only [Yard.still, Table.still_modify _ _ f h]
  · rfl

theorem Yard.still_modifyTerminal (y : Yard) (i : Nat) (f : Terminal → Terminal)
    (h : ∀ t : Terminal, { f t with moves := [] } = { t with moves := [] }) :
    (y.modifyTerminal i f).still = y.still := by
  have e : (vecModify y.loader.terminals i f).map (fun t => { t with moves := [] })
      = y.loader.terminals.map fun t => { t with moves := [] } := by
    unfold vecModify
    split
    · next a ha =>
      ext j hj
      simp only [Vector.getElem_map, Vector.getElem_setIfInBounds]
      split
      · next hij =>
        subst hij
        have : y.loader.terminals[i] = a := by
          rw [Vector.getElem?_eq_getElem hj] at ha
          exact Option.some.inj ha
        rw [h, this]
      · rfl
    · rfl
  simp only [Yard.still, Yard.modifyTerminal, LoaderLink.still, e]

theorem Yard.still_raise (y : Yard) (e : Event) (h : e.flag &&& ~~~ settleFlags = 0#24) :
    (y.raise e).still = y.still := by
  have : (y.events ||| e.flag) &&& ~~~ settleFlags = y.events &&& ~~~ settleFlags := by
    apply BitVec.eq_of_getLsbD_eq
    intro i hi
    have hb := congrArg (fun v => BitVec.getLsbD v i) h
    simp only [BitVec.getLsbD_and, BitVec.getLsbD_or, BitVec.getLsbD_zero] at hb ⊢
    rw [Bool.and_or_distrib_right, hb, Bool.or_false]
  simp only [Yard.still, Yard.raise, raiseIn, this]

theorem Yard.still_laneGranted (y : Yard) : (y.raise .laneGranted).still = y.still :=
  y.still_raise _ (by decide)

theorem Yard.still_truckLoaded (y : Yard) : (y.raise .truckLoaded).still = y.still :=
  y.still_raise _ (by decide)

theorem Yard.still_truckShort (y : Yard) : (y.raise .truckShort).still = y.still :=
  y.still_raise _ (by decide)

/-! ### Trucks -/

theorem Slot.still_setPos (sl : Slot) (t : BedTier) (p : BedPos) : (sl.setPos t p).still = sl.still := by
  cases t <;> rfl

theorem List.map_modify_same {α β : Type} (g : α → β) (f : α → α) (h : ∀ a, g (f a) = g a) :
    ∀ (l : List α) (i : Nat), (l.modify i f).map g = l.map g
  | [], i => by cases i <;> simp
  | a :: l, 0 => by simp [h]
  | a :: l, i + 1 => by simp [List.map_modify_same g f h l i]

theorem Truck.still_modifyPos (t : Truck) (r : BedRef) (f : BedPos → BedPos) :
    (t.modifyPos r f).still = t.still := by
  simp only [Truck.modifyPos, Truck.still]
  rw [List.map_modify_same Slot.still _ (fun sl => sl.still_setPos _ _)]

theorem Truck.still_modifyLine (t : Truck) (line : Nat) (f : OrderLine → OrderLine)
    (h : ∀ l, (f l).still = l.still) : (t.modifyLine line f).still = t.still := by
  unfold Truck.modifyLine
  split
  · rfl
  · simp only [Truck.still]
    rw [List.map_modify_same OrderLine.still f h]

theorem Truck.still_emptyBed (t : Truck) : t.emptyBed.still = t.still := by
  simp only [Truck.emptyBed, Truck.still, List.map_map]
  rfl

theorem Truck.still_planEntry (t : Truck) (en : Entry) : (t.planEntry en).still = t.still :=
  t.still_modifyPos _ _

theorem Truck.still_planEntries (t : Truck) (es : List Entry) :
    (es.foldl Truck.planEntry t).still = t.still := by
  induction es generalizing t with
  | nil => rfl
  | cons en rest ih => rw [List.foldl_cons, ih, t.still_planEntry]

/-! ### Jobs -/

theorem Yard.still_unassign (y : Yard) (tag : Nat) : (y.unassign tag).still = y.still := by
  unfold Yard.unassign
  split
  · rfl
  · refine (Yard.still_modifyTruck _ _ _ ?_).trans (Yard.still_modifyPack _ _ _ (by intro p; rfl))
    intro t
    exact t.still_modifyLine _ _ fun l => rfl

theorem Act.still_newJob (a : Act) (w : JobWork) (tag : Nat) :
    (a.newJob w tag).yard.still = a.yard.still := by
  unfold Act.newJob
  split
  · rfl
  · rw [Act.on_yard]
    refine (Yard.still_modifyPack _ _ _ ?_).trans rfl
    intro p
    rfl

theorem Act.still_createJob (a : Act) (w : JobWork) (tag : Nat) :
    (a.createJob w tag).yard.still = a.yard.still := by
  rw [Act.createJob, Act.touchBayOf_yard, Act.still_newJob]

theorem foldl_still {β : Type} (f : Act → β → Act)
    (h : ∀ a b, (f a b).yard.still = a.yard.still) (l : List β) (a : Act) :
    (l.foldl f a).yard.still = a.yard.still := by
  induction l generalizing a with
  | nil => rfl
  | cons b rest ih => rw [List.foldl_cons, ih, h]

theorem Act.still_clearBay (a : Act) (b : Nat) : (a.clearBay b).yard.still = a.yard.still := by
  unfold Act.clearBay
  apply foldl_still
  intro a tag
  split
  · exact a.still_newJob _ _
  · rfl

/-- The clearance rule leaves all that Yard.still keeps. -/
theorem Act.still_clearDue (a : Act) : a.clearDue.yard.still = a.yard.still :=
  foldl_still _ Act.still_clearBay _ _

theorem Act.still_serveNeeds (fuel : Nat) (a : Act) :
    (Act.serveNeeds fuel a).yard.still = a.yard.still := by
  induction fuel generalizing a with
  | zero => rfl
  | succ n ih =>
    unfold Act.serveNeeds
    split
    · rfl
    · split
      · rw [ih, Act.still_newJob]
      · rfl

/-- The pass over job needs leaves all that Yard.still keeps. -/
theorem Act.still_needs (a : Act) : a.needs.yard.still = a.yard.still := by
  unfold Act.needs
  split
  · exact a.still_serveNeeds _
  · rfl

theorem Yard.still_judge (e : Env) (y : Yard) (n : Nat) : (y.judge e n).still = y.still := by
  unfold Yard.judge
  split
  · rfl
  · split
    · split
      · unfold Yard.makeReady; split <;> rfl
      · unfold Yard.makeReady; split <;> rfl
      · split <;> rfl
    · rfl

/-- A judgement of every job leaves all that Yard.still keeps. -/
theorem Yard.still_judgeAll (e : Env) (y : Yard) : (y.judgeAll e).still = y.still := by
  unfold Yard.judgeAll
  generalize y.jobs.keys = l
  induction l generalizing y with
  | nil => rfl
  | cons n rest ih => rw [List.foldl_cons, ih, Yard.still_judge]

theorem Yard.still_send (y : Yard) (pl : SendPlan) : (y.send pl).still = y.still := by
  unfold Yard.send
  simp only
  refine (Yard.still_modifyTerminal _ _ _ ?_).trans ?_
  · intro t
    rfl
  · refine (Yard.still_modifyPack _ _ _ ?_).trans ?_
    · intro p
      rfl
    · split <;> rfl

theorem Yard.still_serveZone (e : Env) (zone fuel : Nat) (y : Yard) :
    (Yard.serveZone e zone fuel y).still = y.still := by
  induction fuel generalizing y with
  | zero => rfl
  | succ n ih =>
    unfold Yard.serveZone
    split
    · rfl
    · rw [ih, Yard.still_judgeAll, Yard.still_send]

/-- The service of the zone queues leaves all that Yard.still keeps. -/
theorem Yard.still_serveAll (e : Env) (y : Yard) : (y.serveAll e).still = y.still := by
  unfold Yard.serveAll
  split
  · simp only [List.foldl_cons, List.foldl_nil, Yard.still_serveZone]
  · rfl

/-! ### Allocation and placement -/

theorem Yard.still_takePack (y : Yard) (number line tag : Nat) :
    (y.takePack number line tag).still = y.still := by
  unfold Yard.takePack
  refine (Yard.still_modifyTruck _ _ _ ?_).trans (Yard.still_modifyPack _ _ _ (by intro p; rfl))
  intro t
  exact t.still_modifyLine _ _ fun l => rfl

theorem Yard.still_modifyStockShort (y : Yard) (number line : Nat) (f : Nat → Nat) :
    (y.modifyStockShort number line f).still = y.still :=
  y.still_modifyTruck _ _ (fun t => t.still_modifyLine _ _ (fun _ => rfl))

theorem Yard.still_addWeightShort (y : Yard) (number line : Nat) :
    (y.addWeightShort number line).still = y.still :=
  y.still_modifyTruck _ _ (fun t => t.still_modifyLine _ _ (fun _ => rfl))

theorem Yard.still_reserve (y : Yard) (number line tag : Nat) :
    (y.reserve number line tag).still = y.still := by
  rw [Yard.reserve, Yard.still_modifyStockShort, Yard.still_takePack]

theorem Yard.still_allocLine (e : Env) (number line room fuel total : Nat) (y : Yard) :
    (Yard.allocLine e number line room fuel total y).1.still = y.still := by
  induction fuel generalizing total y with
  | zero => rfl
  | succ n ih =>
    unfold Yard.allocLine
    split
    · rfl
    · split
      · rfl
      · rw [ih, Yard.still_reserve]

theorem Yard.still_allocLines (e : Env) (number room : Nat) (ls : List OrderLine) (line total : Nat)
    (y : Yard) : (Yard.allocLines e number room ls line total y).still = y.still := by
  induction ls generalizing line total y with
  | nil => rfl
  | cons l rest ih =>
    unfold Yard.allocLines
    simp only
    rw [ih, Yard.still_allocLine]

/-- The allocation run of a grant leaves all that Yard.still keeps. -/
theorem Yard.still_allocate (e : Env) (y : Yard) (number : Nat) :
    (y.allocate e number).still = y.still := by
  unfold Yard.allocate
  split
  · rfl
  · exact Yard.still_allocLines ..

theorem Act.still_setPackState (a : Act) (tag : Nat) (st : PackState) :
    (a.setPackState tag st).yard.still = a.yard.still :=
  a.yard.still_modifyPack _ _ (fun _ => rfl)

theorem Act.still_releaseForWeight (a : Act) (tag : Nat) :
    (a.releaseForWeight tag).yard.still = a.yard.still := by
  unfold Act.releaseForWeight
  split
  · rfl
  · rw [Act.offerLater_yard, Act.still_setPackState, Act.on_yard, Yard.still_addWeightShort,
      Yard.still_unassign]

theorem Yard.still_enterLoaded (y : Yard) (number : Nat) : (y.enterLoaded number).still = y.still := by
  unfold Yard.enterLoaded
  simp only
  have h : ((y.modifyTruck number fun t => { t with state := .loaded }).raise .truckLoaded).still
      = y.still := by
    refine (Yard.still_truckLoaded _).trans (Yard.still_modifyTruck _ _ _ ?_)
    intro t
    rfl
  split
  · split
    · rw [Yard.still_truckShort, h]
    · exact h
  · exact h

theorem Act.still_writePlan (a : Act) (number : Nat) (kept : List Entry) :
    (a.writePlan number kept).yard.still = a.yard.still := by
  unfold Act.writePlan
  simp only
  rw [Act.still_clearDue]
  have h1 : (a.on fun y => y.modifyTruck number fun t =>
      kept.foldl Truck.planEntry t.emptyBed).yard.still = a.yard.still := by
    rw [Act.on_yard]
    apply Yard.still_modifyTruck
    intro t
    rw [Truck.still_planEntries, Truck.still_emptyBed]
  have h2 : (kept.foldl (fun a en => a.touchBayOf en.tag) (kept.foldl
      (fun a en => a.newJob (.load number en.ref) en.tag) (a.on fun y => y.modifyTruck number
        fun t => kept.foldl Truck.planEntry t.emptyBed))).yard.still = a.yard.still := by
    rw [foldl_still _ (fun a en => by rw [Act.touchBayOf_yard]),
      foldl_still _ (fun a en => a.still_newJob _ _), h1]
  split
  · rw [Act.on_yard, Yard.still_enterLoaded, h2]
  · rw [Act.on_yard]
    refine (Yard.still_modifyTruck _ _ _ ?_).trans h2
    intro t
    rfl

/-- A placement leaves all that Yard.still keeps. -/
theorem Act.still_place (e : Env) (a : Act) (number : Nat) :
    (a.place e number).yard.still = a.yard.still := by
  unfold Act.place
  split
  · rfl
  · simp only [Act.on_yard]
    rw [Yard.still_judgeAll, Act.still_writePlan, foldl_still _ Act.still_releaseForWeight]

theorem Act.still_endStockWait (e : Env) (a : Act) (number : Nat) :
    (a.endStockWait e number).yard.still = a.yard.still := by
  rw [Act.endStockWait, Act.still_place, Act.on_yard]
  refine Yard.still_modifyTruck _ _ _ ?_
  intro t
  rfl

theorem Act.still_offer (e : Env) (a : Act) (tag : Nat) :
    (a.offer e tag).yard.still = a.yard.still := by
  unfold Act.offer
  split
  · rfl
  · simp only
    split
    · split
      · rw [Act.on_yard, Yard.still_reserve]
      · rw [Act.still_endStockWait, Act.on_yard, Yard.still_reserve]
    · rw [Act.on_yard, Yard.still_reserve]

theorem Act.still_offerAll (e : Env) (fuel : Nat) (a : Act) :
    (Act.offerAll e fuel a).yard.still = a.yard.still := by
  induction fuel generalizing a with
  | zero => rfl
  | succ n ih =>
    unfold Act.offerAll
    split
    · rfl
    · rw [ih, Act.still_offer]

/-- The offers of freed packs leave all that Yard.still keeps. -/
theorem Act.still_offers (e : Env) (a : Act) : (a.offers e).yard.still = a.yard.still :=
  Act.still_offerAll ..

theorem Act.still_afterRun (e : Env) (a : Act) (number : Nat) :
    (a.afterRun e number).yard.still = a.yard.still := by
  unfold Act.afterRun
  split
  · rfl
  · split
    · rw [Act.on_yard]
      refine Yard.still_modifyTruck _ _ _ ?_
      intro t
      rfl
    · exact a.still_place _ _

theorem Act.still_grant (e : Env) (a : Act) (lane number : Nat) :
    (a.grant e lane number).yard.still = a.yard.still := by
  unfold Act.grant
  simp only
  rw [Act.still_afterRun, Act.on_yard, Yard.still_allocate, Act.on_yard, Yard.still_laneGranted]
  refine (Yard.still_modifyTruck _ _ _ ?_).trans rfl
  intro t
  rfl

/-- The grants of the lane arbiter leave all that Yard.still keeps. -/
theorem Act.still_grants (e : Env) (fuel : Nat) (a : Act) :
    (Act.grants e fuel a).yard.still = a.yard.still := by
  induction fuel generalizing a with
  | zero => rfl
  | succ n ih =>
    unfold Act.grants
    split
    · split
      · rw [ih, Act.still_offers, Act.still_grant]
      · rfl
    · rfl

/-- What an act causes in the job list and the allocator leaves all that Yard.still keeps. -/
theorem Act.still_settled (e : Env) (a : Act) : (a.settled e).yard.still = a.yard.still := by
  rw [Act.settled, Act.still_offers, Act.on_yard, Yard.still_judgeAll, Act.still_needs,
    Act.still_clearDue]

/-- Everything that follows an act leaves all that Yard.still keeps: every stack, every pack's place,
product and water, every truck's vehicle, tares and measurements, and every terminal's state. -/
theorem Act.still_finish (e : Env) (a : Act) : (a.finish e).still = a.yard.still := by
  rw [Act.finish, Yard.still_serveAll, Act.still_grants, Act.still_settled]

/-- An act of the part leaves everything outside the yard as it was, and settles. -/
theorem Part.still_doAct (p : Part) (f : Env → Act → Act) :
    (p.doAct f).yard.still = (f p.env p.yard.act).yard.still :=
  Act.still_finish _ _

theorem Part.still_serve (p : Part) : p.serve.yard.still = p.yard.still := Yard.still_serveAll _ _

theorem Part.still_judgeAndServe (p : Part) : p.judgeAndServe.yard.still = p.yard.still := by
  show ((p.yard.judgeAll p.env).serveAll p.env).still = _
  rw [Yard.still_serveAll, Yard.still_judgeAll]

end Sys2Proof.Machine
end

