-- ==== Sys2Proof/Laws/PerInstr.lean ====
section
/-! SUPPORT. The family of statements made per command: which rows carry a host request, and that such a row is well formed as its request is and has a KIND of R176. -/

namespace Sys2Proof.Laws

open Sys2Proof.Machine

/-- The header and the request that a row carries; none for the arrivals and the part's own steps. -/
def requestOf : Instr → Option (Header × Request)
  | .setWindow h a => some (h, .setWindow a)
  | .setZoning h a => some (h, .setZoning a)
  | .setSpecies h species density trim => some (h, .setSpecies species density trim)
  | .setWeather h a => some (h, .setWeather a)
  | .setPlanning h a => some (h, .setPlanning a)
  | .setLoaderLink h timeout retry probe => some (h, .setLoaderLink timeout retry probe)
  | .setWeighing h a => some (h, .setWeighing a)
  | .setEventMask h mask => some (h, .setEventMask mask)
  | .readSettings h => some (h, .readSettings)
  | .storeSettings h => some (h, .storeSettings)
  | .recallSettings h => some (h, .recallSettings)
  | .setClock h clock => some (h, .setClock clock)
  | .readClock h => some (h, .readClock)
  | .identify h => some (h, .identify)
  | .registerPack h a => some (h, .registerPack a)
  | .removePack h tag => some (h, .removePack tag)
  | .holdPack h tag => some (h, .holdPack tag)
  | .releasePack h tag => some (h, .releasePack tag)
  | .locatePack h tag finding bay => some (h, .locatePack tag finding bay)
  | .readPack h tag => some (h, .readPack tag)
  | .readBay h bay => some (h, .readBay bay)
  | .announceTruck h a => some (h, .announceTruck a)
  | .cancelTruck h number => some (h, .cancelTruck number)
  | .pauseTruck h number => some (h, .pauseTruck number)
  | .resumeTruck h number => some (h, .resumeTruck number)
  | .departTruck h number => some (h, .departTruck number)
  | .readTruck h number part => some (h, .readTruck number part)
  | .listTrucks h => some (h, .listTrucks)
  | .openLane h lane => some (h, .openLane lane)
  | .closeLane h lane => some (h, .closeLane lane)
  | .readLanes h => some (h, .readLanes)
  | .enrollLoader h terminal credit silence => some (h, .enrollLoader terminal credit silence)
  | .retireLoader h terminal => some (h, .retireLoader terminal)
  | .readLoader h terminal => some (h, .readLoader terminal)
  | .readText h => some (h, .readText)
  | .weighIn h number => some (h, .weighIn number)
  | .weighOut h number => some (h, .weighOut number)
  | .abortWeighing h => some (h, .abortWeighing)
  | .readWeighbridge h => some (h, .readWeighbridge)
  | .readEvents h => some (h, .readEvents)
  | .runAudit h => some (h, .runAudit)
  | .restart h => some (h, .restart)
  | .unknownKind _ _ _ => none
  | .hostFrameComplete _ => none
  | .hostFrameCutShort _ _ => none
  | .hostFrameGap _ _ => none
  | .replyStart _ => none
  | .replySent => none
  | .powerOn _ => none
  | .powerFail => none
  | .retentionLatchSet => none
  | .resetAssert => none
  | .resetRelease _ => none
  | .restartSequence _ => none
  | .storeEnd _ => none
  | .recallEnd => none
  | .clockTick => none
  | .dryingExpiry => none
  | .stockWaitExpiry => none
  | .weighDeadlineExpiry => none
  | .rainPulse => none
  | .rainStep => none
  | .haltAssert => none
  | .haltRelease => none
  | .weighRecord _ => none
  | .weighDiscard _ => none
  | .loaderTurn => none
  | .probe => none
  | .clearAllExchange => none
  | .answerTimeout => none
  | .idle _ => none
  | .accept _ _ => none
  | .lifted _ _ => none
  | .done _ _ _ _ => none
  | .fault _ _ _ => none
  | .withdrawn _ _ => none
  | .tooLate _ _ => none
  | .text _ _ => none
  | .hostFrameBegin => none
  | .weighRecordBegin _ => none
  | .rainOtherEdge => none

/-- R176: a row that carries a request is that request's row, is well formed exactly when the request
is, and has a KIND that names a request; any other row is the row of no request. -/
def KindOfRow.Statement (i : Instr) : Prop :=
  match requestOf i with
  | some (h, r) =>
    i = commandOf h r ∧ i.wf = r.wf ∧ decodeRequest (requestKind r) (requestBody r) ≠ .unknownKind
  | none => ∀ (h : Header) (r : Request), i ≠ commandOf h r

/-- A body of a fixed length is never taken for one of an unknown KIND. -/
theorem fixed_ne_unknownKind (len : Nat) (b : List Byte) (r : Request) : fixed len b r ≠ .unknownKind := by
  unfold fixed
  split <;> simp

/-- An ANNOUNCE TRUCK body is never taken for one of an unknown KIND. -/
theorem decodeTruck_ne_unknownKind (b : List Byte) : decodeTruck b ≠ .unknownKind := by
  unfold decodeTruck
  split
  · simp
  · simp only
    split
    · simp
    · split <;> simp

theorem KindOfRow.setWindow (h : Header) (a : WindowArgs) : KindOfRow.Statement (.setWindow h a) :=
  ⟨rfl, rfl, fixed_ne_unknownKind _ _ _⟩

theorem KindOfRow.setZoning (h : Header) (a : ZoningArgs) : KindOfRow.Statement (.setZoning h a) :=
  ⟨rfl, rfl, fixed_ne_unknownKind _ _ _⟩

theorem KindOfRow.setSpecies (h : Header) (species density trim : Nat) :
    KindOfRow.Statement (.setSpecies h species density trim) :=
  ⟨rfl, rfl, fixed_ne_unknownKind _ _ _⟩

theorem KindOfRow.setWeather (h : Header) (a : WeatherArgs) : KindOfRow.Statement (.setWeather h a) :=
  ⟨rfl, rfl, fixed_ne_unknownKind _ _ _⟩

theorem KindOfRow.setPlanning (h : Header) (a : PlanningArgs) : KindOfRow.Statement (.setPlanning h a) :=
  ⟨rfl, rfl, fixed_ne_unknownKind _ _ _⟩

theorem KindOfRow.setLoaderLink (h : Header) (timeout retry probe : Nat) :
    KindOfRow.Statement (.setLoaderLink h timeout retry probe) :=
  ⟨rfl, rfl, fixed_ne_unknownKind _ _ _⟩

theorem KindOfRow.setWeighing (h : Header) (a : WeighingArgs) : KindOfRow.Statement (.setWeighing h a) :=
  ⟨rfl, rfl, fixed_ne_unknownKind _ _ _⟩

theorem KindOfRow.setEventMask (h : Header) (mask : Nat) : KindOfRow.Statement (.setEventMask h mask) :=
  ⟨rfl, rfl, fixed_ne_unknownKind _ _ _⟩

theorem KindOfRow.readSettings (h : Header) : KindOfRow.Statement (.readSettings h) :=
  ⟨rfl, rfl, fixed_ne_unknownKind _ _ _⟩

theorem KindOfRow.storeSettings (h : Header) : KindOfRow.Statement (.storeSettings h) :=
  ⟨rfl, rfl, fixed_ne_unknownKind _ _ _⟩

theorem KindOfRow.recallSettings (h : Header) : KindOfRow.Statement (.recallSettings h) :=
  ⟨rfl, rfl, fixed_ne_unknownKind _ _ _⟩

theorem KindOfRow.setClock (h : Header) (clock : Nat) : KindOfRow.Statement (.setClock h clock) :=
  ⟨rfl, rfl, fixed_ne_unknownKind _ _ _⟩

theorem KindOfRow.readClock (h : Header) : KindOfRow.Statement (.readClock h) :=
  ⟨rfl, rfl, fixed_ne_unknownKind _ _ _⟩

theorem KindOfRow.identify (h : Header) : KindOfRow.Statement (.identify h) :=
  ⟨rfl, rfl, fixed_ne_unknownKind _ _ _⟩

theorem KindOfRow.registerPack (h : Header) (a : PackArgs) : KindOfRow.Statement (.registerPack h a) :=
  ⟨rfl, rfl, fixed_ne_unknownKind _ _ _⟩

theorem KindOfRow.removePack (h : Header) (tag : Nat) : KindOfRow.Statement (.removePack h tag) :=
  ⟨rfl, rfl, fixed_ne_unknownKind _ _ _⟩

theorem KindOfRow.holdPack (h : Header) (tag : Nat) : KindOfRow.Statement (.holdPack h tag) :=
  ⟨rfl, rfl, fixed_ne_unknownKind _ _ _⟩

theorem KindOfRow.releasePack (h : Header) (tag : Nat) : KindOfRow.Statement (.releasePack h tag) :=
  ⟨rfl, rfl, fixed_ne_unknownKind _ _ _⟩

theorem KindOfRow.locatePack (h : Header) (tag finding bay : Nat) :
    KindOfRow.Statement (.locatePack h tag finding bay) :=
  ⟨rfl, rfl, fixed_ne_unknownKind _ _ _⟩

theorem KindOfRow.readPack (h : Header) (tag : Nat) : KindOfRow.Statement (.readPack h tag) :=
  ⟨rfl, rfl, fixed_ne_unknownKind _ _ _⟩

theorem KindOfRow.readBay (h : Header) (bay : Nat) : KindOfRow.Statement (.readBay h bay) :=
  ⟨rfl, rfl, fixed_ne_unknownKind _ _ _⟩

theorem KindOfRow.announceTruck (h : Header) (a : TruckArgs) :
    KindOfRow.Statement (.announceTruck h a) :=
  ⟨rfl, rfl, decodeTruck_ne_unknownKind _⟩

theorem KindOfRow.cancelTruck (h : Header) (number : Nat) :
    KindOfRow.Statement (.cancelTruck h number) :=
  ⟨rfl, rfl, fixed_ne_unknownKind _ _ _⟩

theorem KindOfRow.pauseTruck (h : Header) (number : Nat) : KindOfRow.Statement (.pauseTruck h number) :=
  ⟨rfl, rfl, fixed_ne_unknownKind _ _ _⟩

theorem KindOfRow.resumeTruck (h : Header) (number : Nat) :
    KindOfRow.Statement (.resumeTruck h number) :=
  ⟨rfl, rfl, fixed_ne_unknownKind _ _ _⟩

theorem KindOfRow.departTruck (h : Header) (number : Nat) :
    KindOfRow.Statement (.departTruck h number) :=
  ⟨rfl, rfl, fixed_ne_unknownKind _ _ _⟩

theorem KindOfRow.readTruck (h : Header) (number part : Nat) :
    KindOfRow.Statement (.readTruck h number part) :=
  ⟨rfl, rfl, fixed_ne_unknownKind _ _ _⟩

theorem KindOfRow.listTrucks (h : Header) : KindOfRow.Statement (.listTrucks h) :=
  ⟨rfl, rfl, fixed_ne_unknownKind _ _ _⟩

theorem KindOfRow.openLane (h : Header) (lane : Nat) : KindOfRow.Statement (.openLane h lane) :=
  ⟨rfl, rfl, fixed_ne_unknownKind _ _ _⟩

theorem KindOfRow.closeLane (h : Header) (lane : Nat) : KindOfRow.Statement (.closeLane h lane) :=
  ⟨rfl, rfl, fixed_ne_unknownKind _ _ _⟩

theorem KindOfRow.readLanes (h : Header) : KindOfRow.Statement (.readLanes h) :=
  ⟨rfl, rfl, fixed_ne_unknownKind _ _ _⟩

theorem KindOfRow.enrollLoader (h : Header) (terminal credit silence : Nat) :
    KindOfRow.Statement (.enrollLoader h terminal credit silence) :=
  ⟨rfl, rfl, fixed_ne_unknownKind _ _ _⟩

theorem KindOfRow.retireLoader (h : Header) (terminal : Nat) :
    KindOfRow.Statement (.retireLoader h terminal) :=
  ⟨rfl, rfl, fixed_ne_unknownKind _ _ _⟩

theorem KindOfRow.readLoader (h : Header) (terminal : Nat) :
    KindOfRow.Statement (.readLoader h terminal) :=
  ⟨rfl, rfl, fixed_ne_unknownKind _ _ _⟩

theorem KindOfRow.readText (h : Header) : KindOfRow.Statement (.readText h) :=
  ⟨rfl, rfl, fixed_ne_unknownKind _ _ _⟩

theorem KindOfRow.weighIn (h : Header) (number : Nat) : KindOfRow.Statement (.weighIn h number) :=
  ⟨rfl, rfl, fixed_ne_unknownKind _ _ _⟩

theorem KindOfRow.weighOut (h : Header) (number : Nat) : KindOfRow.Statement (.weighOut h number) :=
  ⟨rfl, rfl, fixed_ne_unknownKind _ _ _⟩

theorem KindOfRow.abortWeighing (h : Header) : KindOfRow.Statement (.abortWeighing h) :=
  ⟨rfl, rfl, fixed_ne_unknownKind _ _ _⟩

theorem KindOfRow.readWeighbridge (h : Header) : KindOfRow.Statement (.readWeighbridge h) :=
  ⟨rfl, rfl, fixed_ne_unknownKind _ _ _⟩

theorem KindOfRow.readEvents (h : Header) : KindOfRow.Statement (.readEvents h) :=
  ⟨rfl, rfl, fixed_ne_unknownKind _ _ _⟩

theorem KindOfRow.runAudit (h : Header) : KindOfRow.Statement (.runAudit h) :=
  ⟨rfl, rfl, fixed_ne_unknownKind _ _ _⟩

theorem KindOfRow.restart (h : Header) : KindOfRow.Statement (.restart h) :=
  ⟨rfl, rfl, fixed_ne_unknownKind _ _ _⟩

theorem KindOfRow.unknownKind (h : Header) (kind : Byte) (body : List Byte) :
    KindOfRow.Statement (.unknownKind h kind body) :=
  fun _ r => by cases r <;> simp [commandOf]

theorem KindOfRow.hostFrameComplete (rest : List Byte) : KindOfRow.Statement (.hostFrameComplete rest) :=
  fun _ r => by cases r <;> simp [commandOf]

theorem KindOfRow.hostFrameCutShort (rest : List Byte) (stopError : Bool) :
    KindOfRow.Statement (.hostFrameCutShort rest stopError) :=
  fun _ r => by cases r <;> simp [commandOf]

theorem KindOfRow.hostFrameGap (byte : Byte) (stopError : Bool) :
    KindOfRow.Statement (.hostFrameGap byte stopError) :=
  fun _ r => by cases r <;> simp [commandOf]

theorem KindOfRow.replyStart (hrdy : Bool) : KindOfRow.Statement (.replyStart hrdy) :=
  fun _ r => by cases r <;> simp [commandOf]

theorem KindOfRow.replySent : KindOfRow.Statement .replySent :=
  fun _ r => by cases r <;> simp [commandOf]

theorem KindOfRow.powerOn (pins : Pins) : KindOfRow.Statement (.powerOn pins) :=
  fun _ r => by cases r <;> simp [commandOf]

theorem KindOfRow.powerFail : KindOfRow.Statement .powerFail :=
  fun _ r => by cases r <;> simp [commandOf]

theorem KindOfRow.retentionLatchSet : KindOfRow.Statement .retentionLatchSet :=
  fun _ r => by cases r <;> simp [commandOf]

theorem KindOfRow.resetAssert : KindOfRow.Statement .resetAssert :=
  fun _ r => by cases r <;> simp [commandOf]

theorem KindOfRow.resetRelease (pins : Pins) : KindOfRow.Statement (.resetRelease pins) :=
  fun _ r => by cases r <;> simp [commandOf]

theorem KindOfRow.restartSequence (pins : Pins) : KindOfRow.Statement (.restartSequence pins) :=
  fun _ r => by cases r <;> simp [commandOf]

theorem KindOfRow.storeEnd (agrees : Bool) : KindOfRow.Statement (.storeEnd agrees) :=
  fun _ r => by cases r <;> simp [commandOf]

theorem KindOfRow.recallEnd : KindOfRow.Statement .recallEnd :=
  fun _ r => by cases r <;> simp [commandOf]

theorem KindOfRow.clockTick : KindOfRow.Statement .clockTick :=
  fun _ r => by cases r <;> simp [commandOf]

theorem KindOfRow.dryingExpiry : KindOfRow.Statement .dryingExpiry :=
  fun _ r => by cases r <;> simp [commandOf]

theorem KindOfRow.stockWaitExpiry : KindOfRow.Statement .stockWaitExpiry :=
  fun _ r => by cases r <;> simp [commandOf]

theorem KindOfRow.weighDeadlineExpiry : KindOfRow.Statement .weighDeadlineExpiry :=
  fun _ r => by cases r <;> simp [commandOf]

theorem KindOfRow.rainPulse : KindOfRow.Statement .rainPulse :=
  fun _ r => by cases r <;> simp [commandOf]

theorem KindOfRow.rainStep : KindOfRow.Statement .rainStep :=
  fun _ r => by cases r <;> simp [commandOf]

theorem KindOfRow.haltAssert : KindOfRow.Statement .haltAssert :=
  fun _ r => by cases r <;> simp [commandOf]

theorem KindOfRow.haltRelease : KindOfRow.Statement .haltRelease :=
  fun _ r => by cases r <;> simp [commandOf]

theorem KindOfRow.weighRecord (chars : List LineChar) : KindOfRow.Statement (.weighRecord chars) :=
  fun _ r => by cases r <;> simp [commandOf]

theorem KindOfRow.weighDiscard (chars : List LineChar) : KindOfRow.Statement (.weighDiscard chars) :=
  fun _ r => by cases r <;> simp [commandOf]

theorem KindOfRow.loaderTurn : KindOfRow.Statement .loaderTurn :=
  fun _ r => by cases r <;> simp [commandOf]

theorem KindOfRow.probe : KindOfRow.Statement .probe :=
  fun _ r => by cases r <;> simp [commandOf]

theorem KindOfRow.clearAllExchange : KindOfRow.Statement .clearAllExchange :=
  fun _ r => by cases r <;> simp [commandOf]

theorem KindOfRow.answerTimeout : KindOfRow.Statement .answerTimeout :=
  fun _ r => by cases r <;> simp [commandOf]

theorem KindOfRow.idle (line : AnswerLine) : KindOfRow.Statement (.idle line) :=
  fun _ r => by cases r <;> simp [commandOf]

theorem KindOfRow.accept (line : AnswerLine) (move : Nat) :
    KindOfRow.Statement (.accept line move) :=
  fun _ r => by cases r <;> simp [commandOf]

theorem KindOfRow.lifted (line : AnswerLine) (move : Nat) :
    KindOfRow.Statement (.lifted line move) :=
  fun _ r => by cases r <;> simp [commandOf]

theorem KindOfRow.done (line : AnswerLine) (move : Nat) (tag moisture : Option Nat) :
    KindOfRow.Statement (.done line move tag moisture) :=
  fun _ r => by cases r <;> simp [commandOf]

theorem KindOfRow.fault (line : AnswerLine) (move reason : Nat) :
    KindOfRow.Statement (.fault line move reason) :=
  fun _ r => by cases r <;> simp [commandOf]

theorem KindOfRow.withdrawn (line : AnswerLine) (move : Nat) :
    KindOfRow.Statement (.withdrawn line move) :=
  fun _ r => by cases r <;> simp [commandOf]

theorem KindOfRow.tooLate (line : AnswerLine) (move : Nat) :
    KindOfRow.Statement (.tooLate line move) :=
  fun _ r => by cases r <;> simp [commandOf]

theorem KindOfRow.text (line : AnswerLine) (chars : List Byte) :
    KindOfRow.Statement (.text line chars) :=
  fun _ r => by cases r <;> simp [commandOf]

theorem KindOfRow.hostFrameBegin : KindOfRow.Statement .hostFrameBegin :=
  fun _ r => by cases r <;> simp [commandOf]

theorem KindOfRow.weighRecordBegin (digit : LineChar) : KindOfRow.Statement (.weighRecordBegin digit) :=
  fun _ r => by cases r <;> simp [commandOf]

theorem KindOfRow.rainOtherEdge : KindOfRow.Statement .rainOtherEdge :=
  fun _ r => by cases r <;> simp [commandOf]

end Sys2Proof.Laws
end

