-- ==== Sys2Proof/Tests/Slice0.lean ====
section
/-! SUPPORT. Tests: ill-formed commands refused, the worked examples of the spec, one step of each family, and a witness for the hypotheses of each statement. -/

namespace Sys2Proof.Tests

open Sys2Proof Sys2Proof.Machine

-- One theorem is checked at a time: each waiting thread of the kernel takes its own stack.
set_option Elab.async false

/-! ### Small states -/

/-- A header without a CHECK. -/
def hd : Header := { seq := 7#8, check := false }

/-- The reset state with its part changed. -/
def partBy (f : Part → Part) : State := State.reset.withPart (f Part.reset)

/-- The reset state with its yard changed. -/
def yardBy (f : Yard → Yard) : State := partBy fun p => { p with yard := f p.yard }

/-- Pack F of chapter 3, standing in bay 70. -/
def packF : Pack where
  grade := 1
  sectionCode := 2
  lengthClass := 3
  species := 2
  volume := 2400
  moisture := 18
  measured := false
  footprint := 576
  registeredAt := 0
  water := 0
  state := .free
  place := .bay 70 1
  prior := none
  assignment := none
  job := none
  loadedMass := none

/-- A yard with the pack of tag 5 in bay 70, in a state. -/
def packYard (st : PackState) (y : Yard) : Yard :=
  (y.addPack 5 { packF with state := st }).setStack 70 [5]

/-- The reset state with the pack of tag 5 in bay 70, in a state. -/
def packIn (st : PackState) : State := yardBy (packYard st)

/-- A vacant slot at x. -/
def slotAt (x : Nat) : Slot := { x := x, one := BedPos.vacant, two := BedPos.vacant }

/-- Truck 760 of chapter 6, with an order line that wants one pack, in a state. -/
def truck760 (st : TruckState) : Truck where
  number := 760
  announcedAt := 0
  cls := 0
  shortMode := .partialLoad
  frontLimit := 16000
  rearLimit := 18000
  grossLimit := 27000
  wheelbase := 800
  slots := [slotAt 200, slotAt 450, slotAt 700]
  tare := some { front := 7200, rear := 6800 }
  lines := [{ grade := 1, sectionCode := 2, lengthClass := 3, species := none, wanted := 1,
              assigned := [], stockShort := 1, weightShort := 0 }]
  lane := some 3
  grantedAt := some 0
  deadline := none
  state := st
  weighedOut := false
  measured := none

/-- A yard with truck 760 at table index 0, in a state, in lane 3. -/
def truckYard (st : TruckState) (y : Yard) : Yard :=
  (y.addTruck 0 (truck760 st)).modifyLane 3 fun _ => { state := .occupied, holder := some 760 }

/-- The reset state with truck 760, in a state. -/
def truckIn (st : TruckState) : State := yardBy (truckYard st)

/-- The reset state with lane 3 in a state. -/
def laneIn (st : LaneState) : State :=
  yardBy fun y => y.modifyLane 3 fun _ => { state := st, holder := none }

/-- A job for the pack of tag 5. -/
def jobOf (w : JobWork) (st : JobState) : Job :=
  { work := w, tag := 5, state := st, bound := none, move := some 9 }

/-- A move of the pack of tag 5 at terminal 2, for job 4. -/
def moveOf (k : MoveKind) (dest : Spot) (st : MoveState) : Move where
  kind := k
  job := 4
  tag := 5
  terminal := 2
  source := .bay 70
  dest := dest
  state := st
  delivered := true

/-- A turn with terminal 2 in flight, sending a message. -/
def turnOf2 (m : LinkMessage) (p : Purpose) (resends : Nat) : Exchange where
  terminal := 2
  message := m
  purpose := p
  resends := resends
  timeoutMs := 50
  retryLimit := 2

/-- The yard with terminal 2 in a state, and an exchange with it in flight. -/
def linkYard (st : TerminalState) (x : Option Exchange) (y : Yard) : Yard :=
  (y.modifyTerminal 2 fun t => { t with state := st }).onLink fun l => { l with exchange := x }

/-- A turn of terminal 2 in flight, with nothing to report on. -/
def turnState : State := yardBy (linkYard .active (some (turnOf2 .poll .turn 0)))

/-- A turn of terminal 2 in flight, where it holds move 9 of the pack of tag 5, for job 4. -/
def moveState (w : JobWork) (k : MoveKind) (dest : Spot) (st : MoveState) (pk : Pack) : State :=
  yardBy fun y =>
    (linkYard .active (some (turnOf2 .poll .turn 0))
      { ((truckYard .loading y).addPack 5 pk).setStack 70 (if st = .lifted then [] else [5]) with
        jobs := (Table.mk []).put 4 (jobOf w .sent) }).onLink fun l =>
      { l with moves := (Table.mk []).put 9 (moveOf k dest st) }

/-- The pack of tag 5 MOVING, with job 4. -/
def movingPack : Pack := { packF with state := .moving, prior := some .free, job := some 4 }

/-- The pack of tag 5 MOVING in transit. -/
def liftedPack : Pack := { movingPack with place := .nowhere }

/-- A character without error. -/
def chr (n : Nat) : LineChar := { data := n, parity := false, stop := true }

/-- The eleven characters of a record of chapter 9: deck, plus sign, 13,560 kg, S or U. -/
def record13560 (deck mark : Nat) : List Nat := [deck, 32, 43, 48, 49, 51, 53, 54, 48, 32, mark]

/-- The weighbridge with characters collected and a weighing armed for truck 760, deck 2 taken. -/
def weighState (chars : List Nat) (d : Direction) (deck1 deck2 : Option Nat) (st : TruckState) : State :=
  partBy fun p =>
    { p with
      yard := truckYard st p.yard
      weigh := { p.weigh with
        receiver := .collecting chars
        arming := some { truck := 760, direction := d, deadline := 60, deck1 := deck1, deck2 := deck2 } } }

/-- The state after a command, where it answers a next one. -/
def after (c : Instr) (s : State) : Option State :=
  match exec c s with
  | .next t => some t
  | _ => none

/-- The result and the body of the last ready reply after a command. -/
def replyAfter (c : Instr) (s : State) : Option (Result × List Byte) :=
  (after c s).bind fun t => t.part.host.ready.getLast?.map fun r => (r.reply.result, r.reply.body)

/-! ### Ill-formed commands are refused by WellFormed, one for each check -/

theorem test_wf_settings :
    ([.setWindow hd ⟨256, 0, 0, 0, 0, 1⟩, .setWindow hd ⟨0, 0, 0, 0, 0, 256⟩,
      .setZoning hd ⟨256, 0, 0, 0, 0, 0, 0⟩, .setZoning hd ⟨0, 0, 0, 0, 0, 0, 256⟩,
      .setSpecies hd 0 65536 0, .setSpecies hd 256 250 0, .setWeather hd ⟨0, 256, 1, 0, 0, 0, 1⟩,
      .setPlanning hd ⟨0, 0, 0, 0, 256⟩, .setLoaderLink hd 20 256 1,
      .setWeighing hd ⟨0, 13, 32768, 0, 5⟩, .setWeighing hd ⟨0, 13, 0, -32769, 5⟩,
      .setEventMask hd (2 ^ 24), .setClock hd (2 ^ 32)] : List Instr).all (fun c => !c.wf) = true := by
  decide +kernel

theorem test_wf_records :
    ([.registerPack hd ⟨2 ^ 24, 0, 0, 0, 0, 0, 100, 6, 20⟩,
      .registerPack hd ⟨1, 0, 0, 0, 0, 0, 65536, 6, 20⟩, .removePack hd (2 ^ 24), .holdPack hd (2 ^ 24),
      .releasePack hd (2 ^ 24), .locatePack hd 1 256 0, .readPack hd (2 ^ 24), .readBay hd 256,
      .announceTruck hd ⟨65536, 0, 0, 0, 0, 0, 0, [], []⟩,
      .announceTruck hd ⟨1, 0, 0, 0, 0, 0, 0, [65536], []⟩,
      .announceTruck hd ⟨1, 0, 0, 0, 0, 0, 0, [], [⟨0, 0, 0, 256, 1⟩]⟩,
      .announceTruck hd ⟨1, 0, 0, 0, 0, 0, 0, List.replicate 52 0, []⟩, .cancelTruck hd 65536,
      .pauseTruck hd 65536, .resumeTruck hd 65536, .departTruck hd 65536, .readTruck hd 1 256,
      .openLane hd 256, .closeLane hd 256, .enrollLoader hd 0 256 0, .retireLoader hd 256,
      .readLoader hd 256, .weighIn hd 65536, .weighOut hd 65536] : List Instr).all (fun c => !c.wf)
      = true := by
  decide +kernel

theorem test_wf_arrivals :
    ([.unknownKind hd 0x2C#8 [], .unknownKind hd 0x2F#8 (List.replicate 121 0#8),
      .hostFrameComplete (List.replicate 126 0#8), .hostFrameCutShort (List.replicate 126 0#8) false,
      .powerOn ⟨4, false, false⟩, .resetRelease ⟨4, false, false⟩, .restartSequence ⟨4, false, false⟩,
      .weighRecord [chr 256], .weighDiscard [chr 256], .weighRecordBegin (chr 256), .idle (.clear 8),
      .accept (.clear 8) 1, .accept (.clear 0) 0, .lifted (.clear 0) 65536,
      .done (.clear 0) 0 none none, .done (.clear 0) 1 (some 0) none,
      .done (.clear 0) 1 none (some 256), .fault (.clear 0) 1 5, .fault (.clear 0) 1 0,
      .withdrawn (.clear 0) 0, .tooLate (.clear 0) 0,
      .text (.clear 0) [], .text (.clear 0) [0x1F#8], .text (.clear 0) (List.replicate 33 0x20#8)] : List Instr).all
      (fun c => !c.wf) = true := by
  decide +kernel

theorem test_wf_terminals :
    ([.lifted (.clear 8) 1, .done (.clear 8) 1 none none, .fault (.clear 8) 1 1, .withdrawn (.clear 8) 1,
      .tooLate (.clear 8) 1, .text (.clear 8) [0x20#8]] : List Instr).all (fun c => !c.wf) = true := by
  decide +kernel

/-! ### Worked examples and figures of the spec -/

/-- R157: the check example of the CRC. -/
theorem test_crc : crc [0x31#8, 0x32#8, 0x33#8, 0x34#8, 0x35#8, 0x36#8, 0x37#8, 0x38#8, 0x39#8] = 0xF7#8 := by
  decide +kernel

/-- R14: the table of bays 17, 64, 130 and 249. -/
theorem test_zones :
    ([17, 64, 130, 249].map fun b =>
      [ZoningMode.block.zoneOf b, ZoningMode.pair.zoneOf b, ZoningMode.row.zoneOf b])
      = [[0, 1, 1], [1, 0, 0], [2, 2, 2], [3, 3, 1]] := by
  decide

/-- R38, chapter 3: the estimate of pack F at registration, and after the measured moisture. -/
theorem test_estimate :
    woodMass 2400 450 1000 18 = 1274 ∧ woodMass 2400 450 1008 16 = 1263 ∧ waterMass 841 = 1
      ∧ waterMass 1152 = 1 ∧ waterMass 576 = 1 := by
  decide

/-- R49, R53, chapter 3: the gain of pack F, the largest gain, and the losses of the drying expiries. -/
theorem test_water :
    rainGain 576 2 50 = 576 ∧ rainGain 999 20 100 = 19980 ∧ dryWater 10 1152 = 1037
      ∧ dryWater 10 1037 = 934 ∧ dryWater 10 934 = 841 ∧ dryWater 10 9 = 8 ∧ dryWater 10 0 = 0 := by
  decide

/-- R94, R96, R97, chapter 6: effective limits, balance point and slot order of truck 760. -/
theorem test_placement :
    effectiveLimit 16000 2 = 15680 ∧ effectiveLimit 18000 2 = 17640 ∧ effectiveLimit 27000 2 = 26460
      ∧ balancePoint 800 8480 10840 = 449
      ∧ (truck760 .loading).slotOrder 449 = [(1, 450), (0, 200), (2, 700)] := by
  decide

/-- R100, chapter 6: the rear shares of the six packs. -/
theorem test_shares :
    [rearShare 2600 450 800, rearShare 2500 200 800, rearShare 2400 700 800, rearShare 2300 450 800,
      rearShare 2200 200 800, rearShare 1275 700 800] = [1463, 625, 2100, 1294, 550, 1116] := by
  decide

/-- R151, chapter 9: the trim arithmetic. -/
theorem test_trims :
    trimError 12420 12000 = 35 ∧ trimAfter 1000 35 = 1008 ∧ trimError 11000 12000 = -83
      ∧ trimAfter 1008 (-83) = 988 ∧ trimError 1800 1200 = 200 ∧ trimAfter 1120 200 = 1150
      ∧ trimError 6000 9000 = -200 ∧ trimAfter 880 (-200) = 850 := by
  decide

/-- R144, chapter 9: a record of deck 1 parses, one with five digits does not, and the offset is added. -/
theorem test_record :
    parseRecord [49, 32, 43, 48, 48, 55, 49, 57, 48, 32, 83] = some (1, 7190, true)
      ∧ parseRecord [50, 32, 45, 48, 48, 55, 49, 57, 48, 32, 85] = some (2, -7190, false)
      ∧ parseRecord [50, 32, 43, 48, 54, 55, 57, 48, 32, 83] = none
      ∧ deckValue 7190 10 = 7200 ∧ deckValue (-20) 10 = 0 ∧ deckValue 70000 0 = 60000 := by
  decide

/-- R10, chapter 1: window 0 of the worked example matches bays 248 to 255, window 2 bays 248 to 251. -/
theorem test_windows :
    (allBays.filter fun b => Window.covers { enable := true, kind := .staging, base := 248#8, mask := 248#8, limit := 6 } b)
        = [248, 249, 250, 251, 252, 253, 254, 255]
      ∧ (allBays.filter fun b => Window.covers { enable := true, kind := .height, base := 248#8, mask := 252#8, limit := 3 } b)
        = [248, 249, 250, 251] := by
  decide +kernel

/-- R176: the words of SET SPECIES and of WEIGH IN, written out byte by byte, decode to their requests. -/
theorem test_bodies :
    decodeRequest 0x03 [0x02#8, 0xC2#8, 0x01#8, 0xE8#8, 0x03#8] = .request (.setSpecies 2 450 1000)
      ∧ decodeRequest 0x28 [0xF8#8, 0x02#8] = .request (.weighIn 760)
      ∧ decodeRequest 0x28 [0xF8#8] = .badLength ∧ decodeRequest 0x2F [] = .unknownKind := by
  decide

/-- R178: an ACCEPT of move 258 from terminal 3, written out byte by byte but for its CHECK. -/
theorem test_answer_frame :
    (Answer.accept 258).frame 3
      = [0xA5#8, 0x83#8, 0x11#8, 0x02#8, 0x02#8, 0x01#8,
          crc [0x83#8, 0x11#8, 0x02#8, 0x02#8, 0x01#8]] := by
  decide +kernel

/-- No row of the table gives bits, so no word spells a command. -/
theorem test_no_word : decodeTableWord 8 0 = none ∧ State.reset.withFetchWord 8 0 = State.reset := ⟨rfl, rfl⟩

/-! ### One step of each family, expected from its rule -/

/-- R42: a density is written, KEEP leaves the trim. -/
theorem test_set_species :
    (after (.setSpecies hd 2 450 0) State.reset).map (fun t =>
      (t.part.settings.density 2, trimOf t.part.trims 2, t.part.settings.density 1))
      = some (450, 1000, 500) := by
  decide +kernel

/-- R42: a density of 249 is refused. -/
theorem test_set_species_low : replyAfter (.setSpecies hd 2 249 0) State.reset = some (.badValue, []) := by
  decide +kernel

/-- R54: a cap lowered to 0 dries every pack. -/
theorem test_set_weather_cap :
    (after (.setWeather hd ⟨0, 1, 2, 50, 0, 30, 10⟩)
      (yardBy fun y => (packYard .held y).modifyPack 5 fun p => { p with water := 841 })).map (fun t =>
      (t.part.yard.pack? 5).map Pack.water) = some (some 0) := by
  decide +kernel

/-- R166: the snapshot is taken and the completion mark cleared. -/
theorem test_store_settings :
    (after (.storeSettings hd) State.reset).map (fun t => (t.part.store.complete, t.part.flight))
      = some (false, .store Settings.factory factoryTrims) := by
  decide +kernel

/-- R169: the reply carries the clock before and after. -/
theorem test_set_clock :
    replyAfter (.setClock hd 258) State.reset
      = some (.ok, [0#8, 0#8, 0#8, 0#8, 2#8, 1#8, 0#8, 0#8]) := by
  decide +kernel

/-- R169: the clock goes from its top to 0. -/
theorem test_clock_tick :
    (after .clockTick (partBy fun p => { p with clock := 4294967295 })).map (fun t => t.part.clock)
      = some 0 := by
  decide +kernel

/-- R25: a pack joins the top of the bay, and the reply carries its tier. -/
theorem test_register_pack :
    (after (.registerPack hd ⟨8, 70, 1, 2, 3, 2, 2400, 18, 576⟩) (packIn .free)).map (fun t =>
      (t.part.yard.stackOf 70, t.part.host.ready.map fun r => r.reply.body)) = some ([5, 8], [[2#8]]) := by
  decide +kernel

/-- R27: a hold of a FREE pack. -/
theorem test_hold_pack :
    (after (.holdPack hd 5) (packIn .free)).map (fun t => (t.part.yard.pack? 5).map Pack.state)
      = some (some .held) := by
  decide +kernel

/-- R30: the reply carries the state and place before; the record is gone. -/
theorem test_remove_pack :
    (after (.removePack hd 5) (packIn .held)).map (fun t =>
      (t.part.yard.pack? 5, t.part.yard.stackOf 70, t.part.host.ready.map fun r => r.reply.body))
      = some (none, [], [[2#8, 1#8, 70#8, 1#8, 0#8]]) := by
  decide +kernel

/-- R33: a pack in doubt found in a bay is FREE on top of it. -/
theorem test_locate_pack :
    (after (.locatePack hd 5 0 71)
      (yardBy fun y => y.addPack 5 { packF with state := .doubt, place := .nowhere })).map (fun t =>
      (t.part.yard.stackOf 71, (t.part.yard.pack? 5).map Pack.state)) = some ([5], some .free) := by
  decide +kernel

/-- R60: the lowest free table index is answered. -/
theorem test_announce_truck :
    replyAfter (.announceTruck hd ⟨761, 1, 0, 16000, 18000, 27000, 800, [200, 450], [⟨1, 2, 3, 255, 4⟩]⟩)
      (truckIn .queued) = some (.ok, [1#8]) := by
  decide +kernel

/-- R73, R76, R104: a weigh-in makes the truck QUEUED, and the arbiter grants it the lowest FREE lane;
the pack in stock is planned and its truck LOADING. -/
theorem test_weigh_in_grants :
    (after (.weighRecord [chr 13])
      ((weighState (record13560 49 83) .weighIn none (some 6800) .announced).withPart
        { (weighState (record13560 49 83) .weighIn none (some 6800) .announced).part with
          yard := packYard .free (Part.reset.yard.addTruck 0
            { truck760 .announced with lane := none, tare := none }) })).map (fun t =>
      (t.part.yard.truckState? 760, (t.part.yard.truck? 760).bind Truck.lane,
        (t.part.yard.pack? 5).map Pack.state, t.part.weigh.arming))
      = some (some .loading, some 0, some .reserved, none) := by
  decide +kernel

/-- R150: within the limits the truck is CLEARED and its lane FREE. -/
theorem test_weigh_out_clears :
    (after (.weighRecord [chr 13])
      (weighState (record13560 49 83) .weighOut none (some 13440) .loaded)).map (fun t =>
      (t.part.yard.truckState? 760, (t.part.yard.lane 3).state,
        holdsFlag t.part.yard.events .truckCleared)) = some (some .cleared, .free, true) := by
  decide +kernel

/-- R150: 13,560 + 13,441 is above the gross limit of 27,000. -/
theorem test_weigh_out_over :
    (after (.weighRecord [chr 13])
      (weighState (record13560 49 83) .weighOut none (some 13441) .loaded)).map (fun t =>
      holdsFlag t.part.yard.events .truckOver) = some true := by
  decide +kernel

/-- R143: a record of five digits is a discard. -/
theorem test_weigh_discard :
    (after (.weighDiscard [chr 13])
      (weighState [50, 32, 43, 48, 54, 55, 57, 48, 32, 83] .weighIn none none .announced)).map (fun t =>
      (t.part.weigh.discards, holdsFlag t.part.yard.events .weighLine)) = some (1, true) := by
  decide +kernel

/-- R48, R49: with prescale 1 a pulse is a rain step, and pack F gains 576 g. -/
theorem test_rain_pulse :
    (after .rainPulse (packIn .free)).map (fun t =>
      ((t.part.yard.pack? 5).map Pack.water, t.part.weather.deadline)) = some (some 576, some 1800) := by
  decide +kernel

/-- R53: 841 g lose 84 g. -/
theorem test_drying_expiry :
    (after .dryingExpiry (partBy fun p =>
      { p with clock := 1800,
               yard := (packYard .free p.yard).modifyPack 5 fun p => { p with water := 841 } })).map
      (fun t => ((t.part.yard.pack? 5).map Pack.water, t.part.weather.deadline))
      = some (some 757, some 3600) := by
  decide +kernel

/-- R71: CLOSE LANE of an OCCUPIED lane, and OPEN LANE of a CLOSING one. -/
theorem test_lanes :
    replyAfter (.closeLane hd 3) (laneIn .occupied) = some (.ok, [2#8])
      ∧ replyAfter (.openLane hd 3) (laneIn .closing) = some (.ok, [1#8])
      ∧ replyAfter (.openLane hd 6) (laneIn .closing) = some (.badValue, []) := by
  decide +kernel

/-- R128: the first turn after reset goes to the lowest ACTIVE terminal, with a POLL. -/
theorem test_loader_turn :
    (after .loaderTurn (yardBy (linkYard .active none))).map (fun t =>
      (t.part.yard.loader.exchange.map Exchange.terminal, t.part.yard.loader.exchange.map Exchange.message,
        t.part.yard.loader.lastServed)) = some (some 2, some .poll, 2) := by
  decide +kernel

/-- R130: the third timeout of a turn makes the terminal SILENT. -/
theorem test_answer_timeout :
    (after .answerTimeout (yardBy (linkYard .active (some (turnOf2 .poll .turn 2))))).map (fun t =>
      ((t.part.yard.terminal 2).state, (t.part.yard.terminal 2).nextProbe)) = some (.silent, some 5) := by
  decide +kernel

/-- R134: the pack leaves its bay. -/
theorem test_lifted :
    (after (.lifted (.clear 2) 9) (moveState (.clear 70) .toStaging (.bay 200) .accepted movingPack)).map (fun t =>
      (t.part.yard.stackOf 70, (t.part.yard.pack? 5).map Pack.place)) = some ([], some .nowhere) := by
  decide +kernel

/-- R135: the pack joins the destination bay, FREE as before, and its CLEAR job has ended. -/
theorem test_done :
    (after (.done (.clear 2) 9 (some 5) none)
      (moveState (.clear 70) .toStaging (.bay 200) .lifted liftedPack)).map (fun t =>
      (t.part.yard.stackOf 200, (t.part.yard.pack? 5).map Pack.state, t.part.yard.jobs.size))
      = some ([5], some .free, 0) := by
  decide +kernel

/-- R137: LOST after the lift leaves the pack in doubt and the job suspended. -/
theorem test_fault :
    (after (.fault (.clear 2) 9 4) (moveState (.clear 70) .toStaging (.bay 200) .lifted liftedPack)).map (fun t =>
      ((t.part.yard.pack? 5).map Pack.state, (t.part.yard.job? 4).map Job.state,
        holdsFlag t.part.yard.events .moveFault)) = some (some .doubt, some .suspended, true) := by
  decide +kernel

/-- R141: a text joins the queue with the yard time. -/
theorem test_text :
    (after (.text (.clear 2) [0x41#8]) turnState).map (fun t => t.part.yard.loader.texts)
      = some [{ terminal := 2, time := 0, chars := [0x41#8] }] := by
  decide +kernel

/-- R179: the characters of an ACCEPT with one wrong stop bit are no answer; with right ones they are. -/
theorem test_stop_bit :
    hearAnswer 2 ((Answer.accept 258).chars 2) = some (.accept 258)
      ∧ hearAnswer 2 (((Answer.accept 258).chars 2).set 3 { data := 2#8, stop := false }) = none
      ∧ (after (.accept (.changed [{ data := 0xA5#8, stop := false }]) 9) turnState).map (fun t =>
        t.part.yard.loader.exchange) = some (some (turnOf2 .poll .turn 0)) := by
  decide +kernel

/-- R138, R114: two recalls are made one by one, oldest send first, and their jobs join the queue in that
order, not by job number. -/
theorem test_recall_order :
    (after (.retireLoader hd 2) (yardBy fun y =>
      (({ ((y.addPack 5 movingPack).addPack 6 { movingPack with place := .bay 71 1, job := some 3 }) with
          stack := ⟨[(70, [5]), (71, [6])]⟩
          jobs := ⟨[(3, { jobOf (.clear 71) .sent with tag := 6, move := some 8 }),
            (4, jobOf (.clear 70) .sent)]⟩ } : Yard).modifyTerminal 2 fun t =>
        { t with state := .active, moves := [9, 8] }).onLink fun l =>
        { l with moves := ⟨[(8, { moveOf .toStaging (.bay 201) .sent with job := 3, tag := 6 }),
            (9, moveOf .toStaging (.bay 200) .sent)]⟩ })).map (fun t =>
      (t.part.yard.queue 1, t.part.yard.loader.moves.size)) = some ([4, 3], 0) := by
  decide +kernel

/-- The reset state with a late answer of terminal 2 awaited, of an exchange of 50 ms. -/
def lateState : State :=
  yardBy fun y => y.onLink fun l => { l with late := [{ terminal := 2, timeoutMs := 50 }] }

/-- R127, R179: a late report is stale while its answer is awaited, and passed over once its time ended. -/
theorem test_late_answer :
    (after (.lifted (.clear 2) 9) lateState).map (fun t => holdsFlag t.part.yard.events .staleDone)
        = some true
      ∧ ((after .answerTimeout lateState).bind (after (.lifted (.clear 2) 9))).map (fun t =>
        holdsFlag t.part.yard.events .staleDone) = some false := by
  decide +kernel

/-- R156, R177: the frame of READ CLOCK, byte by byte, is taken and answered. -/
theorem test_host_frame :
    (after (.hostFrameComplete [0x00#8, 0x0D#8, 0x07#8, 0x00#8])
      (partBy fun p => { p with host := { p.host with receiver := .inFrame [] } })).map (fun t =>
      t.part.host.ready.map fun r => r.reply.bytes)
      = some [[0xC3#8, 4#8, 0x8D#8, 7#8, 0#8, 0#8, 0#8, 0#8, 0#8]] := by
  decide +kernel

/-- R164: the flags read are cleared, and ATTN falls. -/
theorem test_read_events :
    (after (.readEvents hd) State.reset).map (fun t =>
      (t.part.host.ready.map fun r => r.reply.body, t.part.attn))
      = some ([[3#8, 0#8, 0#8, 0xFF#8, 0xFF#8, 0xFF#8]], false) := by
  decide +kernel

/-- R170, R171: a power-on with the latch clear keeps the clock and a stack, and pauses a truck that
was loading. -/
theorem test_power_on :
    (after (.powerOn ⟨3, true, true⟩)
      (partBy fun p =>
        { p with clock := 99, power := { p.power with vdd := false },
                 yard := packYard .free (truckYard .loading p.yard) })).map (fun t =>
      (t.part.clock, t.part.yard.stackOf 70, t.part.yard.truckState? 760, t.part.lastAudit))
      = some (99, [5], some .paused, .pass) := by
  decide +kernel

/-- R171: a power-on with the latch set empties the tables and clears the clock. -/
theorem test_retain_lost :
    (after (.powerOn ⟨0, false, false⟩)
      (partBy fun p =>
        { p with clock := 99, power := { vdd := false, resetPin := false, latch := true },
                 yard := packYard .free p.yard })).map (fun t =>
      (t.part.clock, t.part.yard.stackOf 70, t.part.power.latch,
        holdsFlag t.part.yard.events .retainLost)) = some (0, [], false, true) := by
  decide +kernel

/-! ### Witnesses: the hypotheses of each statement, and of each of its clauses, are met -/

/-- Two requests whose replies wait, so that no frame can be taken. -/
def waits : List Awaiting :=
  [{ kind := 0x24#8, seq := 1#8, check := false, what := .enroll 0 },
    { kind := 0x24#8, seq := 2#8, check := false, what := .enroll 1 }]

/-- The reset state with both reply buffers occupied, some frames inbound, and replies ready. -/
def fullHost (inbound : List Frame) (ready : List ReadyReply) : State :=
  partBy fun p => { p with host :=
    { p.host with awaiting := waits, inbound := inbound, ready := ready } }

/-- The frame of a READ CLOCK. -/
def clockFrame : Frame := frameOf hd .readClock

/-- A reply in the refusal slot. -/
def refusalReply : ReadyReply := fullReply clockFrame

/-- The reset state with a store in flight. -/
def storing : State :=
  partBy fun p => { p with flight := .store Settings.factory factoryTrims }

/-- The reset state with a recall in flight, whose reply waits. -/
def recalling : State :=
  partBy fun p =>
    { p with
      flight := .recall
      host := { p.host with awaiting :=
        [{ kind := 0x0B#8, seq := 7#8, check := false, what := .recall 3#8 }] } }

/-- The reset state with a weighing armed. -/
def armed : State :=
  let a : Arming :=
    { truck := 760, direction := .weighIn, deadline := 60, deck1 := none, deck2 := none }
  partBy fun p => { p with weigh := { p.weigh with arming := some a } }

/-- The reset state with one job. -/
def withJob : State :=
  yardBy fun y => { y with jobs := (Table.mk []).put 4 (jobOf (.clear 70) .waiting) }

/-- The reset state with one move outstanding. -/
def withMove : State := moveState (.clear 70) .toStaging (.bay 200) .sent movingPack

/-- The reset state with its store's mark clear. -/
def badStore : State := partBy fun p => { p with store := { p.store with complete := false } }

theorem witness_StepRunsFront :
    ({ State.reset with pending := [.clockTick] } : State).pending = .clockTick :: []
      ∧ State.reset.pending = [] := by
  decide +kernel

theorem witness_RequestTaken : State.reset.takesNow := by
  decide +kernel

theorem witness_RequestWaits :
    (fullHost [clockFrame] []).part.running = true ∧ (fullHost [clockFrame] []).part.host.canTake = false
      ∧ (fullHost [clockFrame] []).part.host.inbound.length < 2
      ∧ (fullHost [clockFrame, clockFrame] []).part.running = true
      ∧ (fullHost [clockFrame, clockFrame] []).part.host.canTake = false
      ∧ 2 ≤ (fullHost [clockFrame, clockFrame] []).part.host.inbound.length
      ∧ (fullHost [clockFrame, clockFrame] []).part.host.slotEmpty = true := by
  decide +kernel

theorem witness_RequestWaits_lost :
    (fullHost [clockFrame, clockFrame] [refusalReply]).part.running = true
      ∧ (fullHost [clockFrame, clockFrame] [refusalReply]).part.host.canTake = false
      ∧ 2 ≤ (fullHost [clockFrame, clockFrame] [refusalReply]).part.host.inbound.length
      ∧ (fullHost [clockFrame, clockFrame] [refusalReply]).part.host.slotEmpty = false := by
  decide +kernel

theorem witness_StoppedPartIgnores :
    (partBy fun p => { p with power := { p.power with vdd := false } }).part.running = false
      ∧ needsRunning (.readClock hd) = true := by
  decide +kernel

theorem witness_RefusalChangesNothing :
    Part.reset.perform (.removePack 0) = (Part.reset, .reply .badValue []) ∧ Result.badValue ≠ .ok := by
  decide +kernel

theorem witness_FrameChecks :
    ({ clockFrame with check := some 0#8 } : Frame).check.any
        (fun c => c != crc ({ clockFrame with check := some 0#8 } : Frame).covered) = true
      ∧ clockFrame.check.any (fun c => c != crc clockFrame.covered) = false
      ∧ decodeRequest 0x0F [] = .unknownKind ∧ decodeRequest 0x0D [0#8] = .badLength
      ∧ decodeRequest clockFrame.kind.toNat clockFrame.body = .request .readClock
      ∧ clockFrame.flags &&& 0xFE#8 = 0#8
      ∧ ({ clockFrame with flags := 2#8 } : Frame).flags &&& 0xFE#8 ≠ 0#8
      ∧ State.reset.takesNow ∧ decodeRequest (0xFF#8).toNat [] = .unknownKind := by
  decide +kernel

theorem witness_RequestCodec :
    (Request.registerPack ⟨16777215, 255, 255, 255, 255, 255, 65535, 255, 65535⟩).wf = true
      ∧ (Request.setWeighing ⟨2, 127, -32768, 32767, 255⟩).wf = true := by
  decide +kernel

theorem witness_FrameTaken :
    State.reset.takesNow ∧ State.reset.part.host.receiver = .hunting
      ∧ (Request.announceTruck ⟨65535, 3, 1, 0, 0, 16777215, 0, [65535], [⟨255, 0, 0, 0, 0⟩]⟩).wf = true := by
  decide +kernel

theorem witness_AnswerCodec :
    (7 : Nat) ≤ 7 ∧ (Answer.done 65535 (some 16777215) (some 255)).wf = true ∧ (0 : Nat) ≤ 7
      ∧ (0 : Nat) ≠ 7 := by
  decide +kernel

theorem witness_AnswerCodec_lines :
    turnState.part.running = true
      ∧ turnState.part.yard.loader.exchange.map Exchange.terminal = some 2
      ∧ lateState.part.running = true ∧ lateState.part.yard.loader.exchange = none
      ∧ lateState.part.yard.loader.late = { terminal := 2, timeoutMs := 50 } :: []
      ∧ (∃ c ∈ [({ data := 0xA5#8, stop := false } : LinkChar)], c.stop = false)
      ∧ (∀ t ∈ turnState.part.yard.loader.listensTo,
        hearAnswer t ([{ data := 0xA5#8, stop := true }] : List LinkChar) = none) := by
  decide +kernel

/-! ### Small yards in which every law of the tables holds -/

/-- A yard whose ACTIVE terminal 2 has a CLEAR of the pack of tag 5 outstanding, from bay 70 to bay 200. -/
def sentYard (y : Yard) : Yard :=
  (({ (y.addPack 5 movingPack).setStack 70 [5] with
      claims := ⟨[(200, 1)]⟩
      jobs := ⟨[(4, jobOf (.clear 70) .sent)]⟩ } : Yard).modifyTerminal 2 fun t =>
    { t with state := .active, moves := [9] }).onLink fun l =>
    { l with moves := ⟨[(9, moveOf .toStaging (.bay 200) .sent)]⟩ }

/-- Terminals 8 and above have no record. -/
theorem terminal_far (y : Yard) {t : Nat} (h : 8 ≤ t) : y.terminal t = Terminal.initial := by
  have e : y.loader.terminals[t]? = none := Vector.getElem?_eq_none h
  simp [Yard.terminal, e]

/-- A property of all terminals is decided on the eight of them and on the cleared record. -/
theorem each_terminal (y : Yard) {p : Nat → Terminal → Prop} (h : ∀ t, t < 8 → p t (y.terminal t))
    (far : ∀ t, p t Terminal.initial) (t : Nat) : p t (y.terminal t) := by
  rcases Nat.lt_or_ge t 8 with ht | ht
  · exact h t ht
  · rw [terminal_far y ht]; exact far t

/-- The laws of moves and claims hold of the yard with one clearance outstanding. -/
theorem sentYard_staging : (sentYard Part.reset.yard).Staging where
  listed t n := by
    refine each_terminal _ (p := fun t k => n ∈ k.moves →
      ((sentYard Part.reset.yard).moveAt? t n).isSome = true) ?_ ?_ t
    · intro t ht hn
      have key : ∀ t, t < 8 → ∀ n ∈ ((sentYard Part.reset.yard).terminal t).moves,
          ((sentYard Part.reset.yard).moveAt? t n).isSome = true := by decide +kernel
      exact key t ht n hn
    · intro t hn
      simp [Terminal.initial] at hn
  held n m h := by
    have e : (sentYard Part.reset.yard).move? n
        = if 9 = n then some (moveOf .toStaging (.bay 200) .sent) else none := rfl
    rw [e] at h
    split at h
    · next hn => subst hn; cases h; decide +kernel
    · cases h
  once t := each_terminal _ (p := fun _ k => k.moves.Nodup) (by decide +kernel) (fun _ => by decide) t
  credit t := each_terminal _ (p := fun _ k => k.moves.length ≤ k.credit ∧ k.credit ≤ 4)
    (by decide +kernel) (fun _ => by decide) t
  off t := each_terminal _ (p := fun _ k => k.state = .off → k.moves = []) (by decide +kernel)
    (fun _ => by decide) t
  claims b := by
    have e : (sentYard Part.reset.yard).claimsOf b = (if 200 = b then some 1 else none).getD 0 := rfl
    have m : (sentYard Part.reset.yard).movesTo b
        = [(9, moveOf .toStaging (.bay 200) .sent)].countP fun en => decide (en.2.dest = .bay b) := rfl
    rw [e, m]
    by_cases h : 200 = b <;> simp [moveOf, h]
  height b := by
    have e : (sentYard Part.reset.yard).claimsOf b = (if 200 = b then some 1 else none).getD 0 := rfl
    have k : (sentYard Part.reset.yard).height b = ((if 70 = b then some [5] else none).getD []).length :=
      rfl
    rw [e, k]
    by_cases h : 200 = b
    · subst h; decide
    · by_cases h' : 70 = b
      · subst h'; decide
      · simp [h, h']

/-- A state with a tick at the front of its queue, at the top of the clock. -/
def ticking : State :=
  { partBy fun p => { p with clock := 4294967295 } with pending := [.clockTick] }

theorem witness_StepKeepsInv : ticking.part.Inv ∧ ∃ t, step ticking = .next t := by
  refine ⟨?_, _, rfl⟩
  constructor <;> decide +kernel

/-- That yard's clearance outstanding, with truck 760 LOADED, a weigh-out of it armed, and a tick in the
queue. -/
def busyState : State :=
  { (weighState [49] .weighOut none none .loaded).withPart
      { (weighState [49] .weighOut none none .loaded).part with
        yard := sentYard (weighState [49] .weighOut none none .loaded).part.yard } with
    pending := [.clockTick] }

theorem witness_StepKeepsTables :
    busyState.part.yard.Tables ∧ ∃ t, step busyState = .next t := by
  refine ⟨?_, _, rfl⟩
  constructor <;> decide +kernel

theorem witness_StepKeepsTables_laws :
    busyState.part.yard.Staging ∧ busyState.part.Lanes ∧ busyState.part.weigh.arming ≠ none := by
  refine ⟨?_, ⟨by decide +kernel, by decide +kernel, ?_⟩, by decide +kernel⟩
  · exact { sentYard_staging with
      listed := sentYard_staging.listed
      held := sentYard_staging.held }
  · intro a h _
    obtain rfl := Option.some.inj h
    decide +kernel

theorem witness_LoaderRowsFrame :
    onLoaderLink (.idle (.clear 2)) = true ∧ ∃ t, exec (.idle (.clear 2)) turnState = .next t :=
  ⟨rfl, _, rfl⟩

theorem witness_WeatherRowsFrame :
    ofWeather .rainPulse = true ∧ ∃ t, exec .rainPulse (packIn .free) = .next t :=
  ⟨rfl, _, rfl⟩

/-! ### The settings -/

theorem witness_SetWindowWrites :
    State.reset.takesNow ∧ State.reset.storeIdle ∧ storing.takesNow ∧ ¬ storing.storeIdle
      ∧ windowNamed ⟨7, 1, 3, 255, 255, 6⟩
          { enable := true, kind := .height, base := 255#8, mask := 255#8, limit := 6 }
      ∧ windowNamed ⟨0, 0, 0, 0, 0, 1⟩
          { enable := false, kind := .covered, base := 0#8, mask := 0#8, limit := 1 } := by
  decide +kernel

theorem witness_SetWindowWrites_bad : ¬ ∃ w, windowNamed ⟨0, 0, 0, 0, 0, 7⟩ w := by
  rintro ⟨w, h⟩
  have : (7 : Nat) ≤ 6 := h.2.2.2.2.2.2.2
  omega

theorem witness_SetZoningWrites :
    State.reset.takesNow ∧ State.reset.storeIdle ∧ State.reset.part.yard.jobs.size = 0
      ∧ zoningNamed ⟨2, 3, 0, 3, 0, 3, 0⟩ .row #v[3, 0, 3, 0, 3, 0]
      ∧ withJob.takesNow ∧ withJob.storeIdle ∧ withJob.part.yard.jobs.size ≠ 0 := by
  decide +kernel

theorem witness_SetZoningWrites_bad : ¬ ∃ m z, zoningNamed ⟨0, 4, 0, 0, 0, 0, 0⟩ m z := by
  rintro ⟨m, z, h⟩
  have : (4 : Nat) ≤ 3 := h.2.2.1
  omega

theorem witness_SetSpeciesWrites :
    State.reset.takesNow ∧ State.reset.storeIdle ∧ speciesNamed 7 900 1150 ∧ speciesNamed 0 250 850
      ∧ speciesNamed 0 250 0 ∧ ¬ speciesNamed 8 250 0 ∧ ¬ speciesNamed 0 901 0
      ∧ ¬ speciesNamed 0 250 849 ∧ storing.takesNow ∧ ¬ storing.storeIdle := by
  decide +kernel

theorem witness_SetWeatherWrites :
    State.reset.takesNow ∧ State.reset.storeIdle
      ∧ weatherNamed ⟨1, 8, 20, 100, 200, 240, 50⟩ ⟨.falling, 8, 20, 100, 200, 240, 50⟩
      ∧ weatherNamed ⟨0, 1, 1, 0, 0, 0, 1⟩ ⟨.rising, 1, 1, 0, 0, 0, 1⟩
      ∧ storing.takesNow ∧ ¬ storing.storeIdle := by
  decide +kernel

theorem witness_SetWeatherWrites_bad : ¬ ∃ w, weatherNamed ⟨0, 1, 2, 50, 20, 9, 10⟩ w := by
  rintro ⟨w, -, -, -, -, -, h, -, -, -, -, -, -, hr, -⟩
  change 9 = w.interval at h
  omega

theorem witness_SetPlanningWrites :
    State.reset.takesNow ∧ State.reset.storeIdle
      ∧ planningNamed ⟨5, 240, 240, 10, 1⟩ ⟨5, 240, 240, 10, true⟩
      ∧ planningNamed ⟨0, 0, 0, 2, 0⟩ ⟨0, 0, 0, 2, false⟩
      ∧ State.reset.part.yard.someLoading = false ∧ (truckIn .paused).takesNow
      ∧ (truckIn .paused).part.yard.someLoading = true
      ∧ (10 : Nat) ≠ (truckIn .paused).part.settings.planning.headroom := by
  decide +kernel

theorem witness_SetPlanningWrites_bad : ¬ ∃ q, planningNamed ⟨6, 0, 0, 0, 0⟩ q := by
  rintro ⟨q, h, -, -, -, -, hq, -⟩
  change 6 = q.digLimit at h
  omega

theorem witness_LinkWeighingAndMaskWrite :
    (State.reset.takesNow ∧ State.reset.storeIdle ∧ State.reset.part.weigh.arming = none)
      ∧ (linkNamed 20 0 1 ∧ linkNamed 200 3 10 ∧ ¬ linkNamed 201 3 10)
      ∧ weighingNamed ⟨2, 127, -500, 500, 120⟩ ⟨.odd, 127, -500, 500, 120⟩
      ∧ weighingNamed ⟨0, 1, 0, 0, 5⟩ ⟨.none, 1, 0, 0, 5⟩
      ∧ (armed.takesNow ∧ armed.part.weigh.arming ≠ none ∧ storing.takesNow ∧ ¬ storing.storeIdle) := by
  refine ⟨?_, ?_, ?_, ?_, ?_⟩ <;> decide +kernel

theorem witness_LinkWeighingAndMaskWrite_bad : ¬ ∃ w, weighingNamed ⟨0, 48, 0, 0, 5⟩ w := by
  rintro ⟨w, -, h, -, -, -, -, -, hr, -⟩
  change 48 = w.endChar at h
  apply hr
  left
  omega

theorem witness_StoreSettingsWrites :
    State.reset.takesNow ∧ State.reset.storeIdle ∧ State.reset.part.yard.loader.moves.size = 0
      ∧ State.reset.part.weigh.arming = none ∧ withMove.takesNow
      ∧ withMove.part.yard.loader.moves.size ≠ 0 ∧ storing.part.running = true
      ∧ storing.part.flight = .store Settings.factory factoryTrims := by
  decide +kernel

theorem witness_RecallSettingsCopies :
    State.reset.takesNow ∧ State.reset.part.store.good = true ∧ badStore.takesNow ∧ badStore.storeIdle
      ∧ badStore.part.store.good = false ∧ recalling.part.running = true
      ∧ recalling.part.flight = .recall
      ∧ recalling.part.host.awaiting
        = [{ kind := 0x0B#8, seq := 7#8, check := false, what := .recall 3#8 }] := by
  decide +kernel

theorem witness_ClockCommands :
    State.reset.takesNow ∧ (4294967295 : Nat) ≤ 4294967295
      ∧ due 1799 State.reset.part.weather.deadline = false
      ∧ due 1799 (State.reset.part.weigh.arming.map Arming.deadline) = false
      ∧ State.reset.part.yard.expiredWait 1799 = none := by
  decide +kernel

theorem witness_ReadsAnswer :
    (packIn .held).takesNow ∧ (packIn .held).part.yard.pack? 5 = some { packF with state := .held }
      ∧ (truckIn .over).takesNow ∧ (truckIn .over).part.yard.truckNo? 760 = some (0, truck760 .over)
      ∧ (packIn .held).storeIdle ∧ (packIn .held).part.yard.loader.moves.size = 0 := by
  decide +kernel

/-! ### Packs -/

/-- The body of a REGISTER PACK at the ends of its ranges. -/
def packArgs : PackArgs := ⟨16777215, 70, 15, 63, 15, 7, 9999, 80, 999⟩

/-- The reset state with bay 70 of height 6. -/
def fullBay : State := yardBy fun y => y.setStack 70 [1, 2, 3, 4, 5, 6]

/-- The reset state with 1,024 packs. -/
def fullTable : State :=
  yardBy fun y => { y with packs := ⟨(List.range 1024).map fun i => (i + 1, packF)⟩ }

/-- The reset state with one text waiting. -/
def oneText : State :=
  yardBy fun y => y.onLink fun l =>
    let waiting : List TextEntry := [{ terminal := 2, time := 60, chars := [0x41#8] }]
    { l with texts := waiting }

theorem witness_DrainingReads :
    State.reset.takesNow ∧ State.reset.part.yard.loader.texts = [] ∧ oneText.takesNow
      ∧ oneText.part.yard.loader.texts ≠ [] := by
  decide +kernel

theorem witness_RegisterPackJoins :
    (packIn .free).takesNow ∧ packInRange packArgs = true
      ∧ packInRange { packArgs with volume := 99 } = false
      ∧ packInRange { packArgs with tag := 5 } = true
      ∧ ((packIn .free).part.yard.pack? 5).isSome = true
      ∧ (packIn .free).part.yard.pack? 16777215 = none ∧ (packIn .free).part.yard.packs.size < 1024
      ∧ 0 < (packIn .free).part.yard.room (packIn .free).part.settings 70 := by
  decide +kernel

theorem witness_RegisterPackJoins_full :
    fullBay.takesNow ∧ fullBay.part.yard.pack? 16777215 = none ∧ fullBay.part.yard.packs.size < 1024
      ∧ fullBay.part.yard.room fullBay.part.settings 70 = 0 ∧ fullTable.takesNow
      ∧ fullTable.part.yard.pack? 16777215 = none ∧ 1024 ≤ fullTable.part.yard.packs.size := by
  decide +kernel

/-- One pack in one bay: its stack and its place agree. -/
theorem packIn_placed : (packIn .free).part.yard.Placed := by
  intro b i tag
  have e : (packIn .free).part.yard.stackOf b = (if 70 = b then some [5] else none).getD [] := rfl
  have k : (packIn .free).part.yard.pack? tag
      = if 5 = tag then some { packF with state := .free } else none := rfl
  rw [e, k]
  by_cases hb : 70 = b <;> by_cases ht : 5 = tag <;> cases i <;> simp [hb, ht, packF]

theorem witness_RegisterPackJoins_placed :
    (packIn .free).part.yard.Placed ∧ 5 ∈ (packIn .free).part.yard.stackOf 70
      ∧ (State.reset.part.yard.addPack 5 { packF with place := .nowhere }).Placed
      ∧ ({ packF with place := .nowhere } : Pack).standing = false := by
  refine ⟨packIn_placed, by decide +kernel, ?_, rfl⟩
  intro b i tag
  have e : (State.reset.part.yard.addPack 5 { packF with place := .nowhere }).stackOf b = [] := rfl
  have k : (State.reset.part.yard.addPack 5 { packF with place := .nowhere }).pack? tag
      = if 5 = tag then some { packF with place := .nowhere } else none := rfl
  rw [e, k]
  by_cases ht : 5 = tag <;> simp [ht]

theorem witness_HoldPackOutcomes_and_ReleasePackOutcomes :
    (packIn .free).takesNow ∧ (1 : Nat) ≤ 5 ∧ 5 ≤ 16777215 ∧ (packIn .free).part.yard.pack? 6 = none
      ∧ ([.free, .reserved, .held, .moving, .onTruck, .doubt] : List PackState).all (fun st =>
        decide ((packIn st).takesNow) && decide (((packIn st).part.yard.pack? 5).map Pack.state = some st))
        = true := by
  decide +kernel

/-- The pack of tag 5 in a state, with job 4. -/
def jobPack (st : PackState) (w : JobWork) (js : JobState) : State :=
  yardBy fun y =>
    { (truckYard .loading y).addPack 5
        { packF with state := st, place := .nowhere, job := some 4 } with
      jobs := (Table.mk []).put 4 (jobOf w js) }

theorem witness_RemovePackOutcomes :
    (jobPack .doubt (.clear 70) .suspended).part.yard.jobOfPack? 5
        = some (4, jobOf (.clear 70) .suspended)
      ∧ (jobPack .held (.clear 70) .waiting).takesNow
      ∧ (jobPack .held (.clear 70) .waiting).part.yard.jobOfPack? 5
        = some (4, jobOf (.clear 70) .waiting)
      ∧ (jobOf (.clear 70) .waiting).state ≠ .suspended
      ∧ (packIn .held).part.yard.jobOfPack? 5 = none := by
  decide +kernel

/-- Truck 760 OVER, a pack of its bed in doubt with a SUSPENDED OFFLOAD job. -/
def offloadPack : State :=
  yardBy fun y =>
    { (truckYard .over y).addPack 5
        { packF with state := .doubt, place := .nowhere, job := some 4, loadedMass := some 1264 } with
      jobs := (Table.mk []).put 4 (jobOf (.offload 760 ⟨0, .one⟩) .suspended) }

theorem witness_LocatePackOutcomes :
    (jobPack .doubt (.load 760 ⟨0, .one⟩) .suspended).takesNow
      ∧ (jobPack .doubt (.load 760 ⟨0, .one⟩) .suspended).part.yard.room Settings.factory 255 = 6
      ∧ (jobPack .doubt (.load 760 ⟨0, .one⟩) .suspended).part.yard.jobOfPack? 5
        = some (4, jobOf (.load 760 ⟨0, .one⟩) .suspended)
      ∧ (jobPack .doubt (.load 760 ⟨0, .one⟩) .suspended).part.yard.loadLocatable 760 ⟨0, .one⟩ = true
      ∧ (jobPack .doubt (.load 760 ⟨0, .one⟩) .suspended).part.yard.loadLocatable 760 ⟨0, .two⟩ = false
      ∧ offloadPack.takesNow ∧ offloadPack.part.yard.offloadLocatable 760 ⟨0, .one⟩ = true
      ∧ offloadPack.part.yard.offloadLocatable 760 ⟨0, .two⟩ = false := by
  decide +kernel

theorem witness_LocatePackOutcomes_noRoom :
    (yardBy fun _ => (fullBay.part.yard.addPack 7 { packF with state := .doubt })).takesNow
      ∧ (fullBay.part.yard.addPack 7 { packF with state := .doubt }).room Settings.factory 70 = 0
      ∧ ((fullBay.part.yard.addPack 7 { packF with state := .doubt }).pack? 7).map Pack.state
        = some .doubt := by
  decide +kernel

/-! ### Trucks and lanes -/

/-- The body of an ANNOUNCE TRUCK with as many slots and lines as there may be. -/
def truckArgs : TruckArgs :=
  ⟨65535, 3, 1, 40000, 40000, 80000, 1500, [0, 1, 2, 3, 4, 5, 6, 1500], List.replicate 6 ⟨15, 63, 15, 255, 2⟩⟩

/-- The reset state with 24 trucks. -/
def fullTrucks : State :=
  yardBy fun y => { y with trucks := ⟨(List.range 24).map fun i => (i, truck760 .queued)⟩ }

theorem witness_AnnounceTruckAdds :
    (truckIn .queued).takesNow ∧ announceInRange truckArgs = true
      ∧ announceInRange { truckArgs with wheelbase := 199 } = false
      ∧ announceInRange { truckArgs with number := 760 } = true
      ∧ ((truckIn .queued).part.yard.truck? 760).isSome = true
      ∧ (truckIn .queued).part.yard.truck? 65535 = none ∧ (1 : Nat) < 24
      ∧ (truckIn .queued).part.yard.trucks.has 1 = false
      ∧ (truckIn .queued).part.yard.trucks.has 0 = true := by
  decide +kernel

theorem witness_AnnounceTruckAdds_full :
    fullTrucks.takesNow ∧ fullTrucks.part.yard.truck? 65535 = none
      ∧ ∀ i, i < 24 → fullTrucks.part.yard.trucks.has i = true := by
  decide +kernel

/-- The pack of tag 5 RESERVED to line 1 of truck 760, which lists it. -/
def reservedYard (y : Yard) : Yard :=
  let held : Pack :=
    { packF with state := .reserved, assignment := some { truck := 760, line := 1 } }
  (((truckYard .shortWait y).addPack 5 held).setStack 70 [5]).modifyTruck 760 fun t =>
    t.modifyLine 1 fun l => { l with assigned := [5], stockShort := 0 }

theorem witness_AnnounceTruckAdds_sums :
    ((truckIn .queued).part.yard.truck? 760).bind (fun t => t.line? 1)
        = (truck760 .queued).line? 1
      ∧ ((truck760 .queued).line? 1).map OrderLine.stockShort = some 1
      ∧ ((truck760 .queued).line? 1).map OrderLine.addsUp = some true
      ∧ ((reservedYard Part.reset.yard).pack? 5).map Pack.assignment
        = some (some { truck := 760, line := 1 })
      ∧ (((reservedYard Part.reset.yard).truck? 760).bind fun t => t.line? 1).map (fun l =>
        (l.assigned.count 5, l.addsUp)) = some (1, true) := by
  decide +kernel

theorem witness_CancelTruckOutcomes_PauseAndResume_DepartTruckDeletes :
    (1 : Nat) ≤ 760 ∧ 760 ≤ 65535 ∧ (truckIn .queued).part.yard.truckNo? 761 = none
      ∧ (truckIn .queued).part.weigh.arming.map Arming.truck ≠ some 760
      ∧ ([.announced, .queued, .shortWait, .loading, .paused, .loaded, .over, .cleared, .unloading] :
        List TruckState).all (fun st => decide ((truckIn st).takesNow)
          && decide ((truckIn st).part.yard.truckNo? 760 = some (0, truck760 st))) = true := by
  decide +kernel

theorem witness_CancelTruckOutcomes_armed :
    (weighState [] .weighIn none none .queued).takesNow
      ∧ (weighState [] .weighIn none none .queued).part.weigh.arming.map Arming.truck = some 760
      ∧ (weighState [] .weighIn none none .queued).part.weigh.arming ≠ none
      ∧ (weighState [] .weighIn none none .queued).part.yard.truckState? 760 = some .queued := by
  decide +kernel

/-- A yard with the packs of tags 5 and 6 in bay 70, tag 5 lower, and a job 4 for the one of tag 5. -/
def jobYard (w : JobWork) (js : JobState) (covered : Bool) : Yard :=
  let y := truckYard .loading Part.reset.yard
  { ((y.addPack 5 { packF with state := .reserved, job := some 4 }).addPack 6
      { packF with place := .bay 70 2 }).setStack 70 (if covered then [5, 6] else [5]) with
    jobs := ⟨[(4, { jobOf w js with move := none })]⟩
    queues := if js.judged && js != .waiting then #v[[], [4], [], []] else Vector.replicate 4 [] }

/-- A yard where job 4, of a tier-2 place over a tier 1 not yet loaded, has a pack with a job below. -/
def asideYard (js : JobState) : Yard :=
  { ((jobYard (.load 760 ⟨0, .two⟩) js false).addPack 6
      { packF with state := .reserved, job := some 3 }).setStack 70 [6, 5] with
    jobs := ⟨[(3, { jobOf (.load 760 ⟨0, .one⟩) .waiting with tag := 6, move := none }),
      (4, { jobOf (.load 760 ⟨0, .two⟩) js with move := none })]⟩ }

theorem witness_PauseAndResume_judge :
    ([.waiting, .ready] : List JobState).all (fun js =>
      js.judged
        && decide ((jobYard (.clear 70) js false).job? 4
          = some { jobOf (.clear 70) js with move := none })
        && decide ((jobYard (.clear 70) js false).verdict Part.reset.env
          { jobOf (.clear 70) js with move := none } = .ready none)
        && decide ((jobYard (.clear 70) js true).verdict Part.reset.env
          { jobOf (.clear 70) js with move := none } = .neither)
        && decide ((asideYard js).verdict Part.reset.env
          { jobOf (.load 760 ⟨0, .two⟩) js with move := none } = .aside none)
        && (jobYard (.clear 70) js true).jobs.wf && (asideYard js).jobs.wf) = true
      ∧ JobState.suspended.judged = false ∧ (jobYard (.clear 70) .suspended true).jobs.wf = true
      ∧ (jobYard (.clear 70) .suspended true).job? 4
        = some { jobOf (.clear 70) .suspended with move := none } := by
  decide +kernel

/-- The queue of bay 70's zone lists the one job, and agrees with it. -/
theorem jobYard_queued : (jobYard (.clear 70) .ready true).Queued Part.reset.env := by
  intro n zone hz
  by_cases hn : n = 4
  · subst hn
    have key : ∀ z, z < 4 → ((jobYard (.clear 70) .ready true).queue z).count 4
        = if (jobYard (.clear 70) .ready true).belongsIn Part.reset.env 4 z then 1 else 0 := by
      decide +kernel
    exact key zone hz
  · have hj : (jobYard (.clear 70) .ready true).job? n = none := by
      have e : (jobYard (.clear 70) .ready true).job? n
          = if 4 = n then some { jobOf (.clear 70) .ready with move := none } else none := rfl
      rw [e, if_neg (Ne.symm hn)]
    have hb : (jobYard (.clear 70) .ready true).belongsIn Part.reset.env n zone = false := by
      simp [Yard.belongsIn, hj]
    have hq : ∀ z, z < 4 → ∀ m ∈ (jobYard (.clear 70) .ready true).queue z, m = 4 := by decide +kernel
    rw [hb, List.count_eq_zero.mpr fun h => hn (hq zone hz n h)]
    rfl

theorem witness_PauseAndResume_queues : ∃ y : Yard, y.Queued Part.reset.env := ⟨_, jobYard_queued⟩

theorem witness_OpenAndCloseLane :
    (5 : Nat) < 6 ∧ (3 : Nat) ≤ 5
      ∧ ([.free, .occupied, .closing, .closed] : List LaneState).all (fun st =>
        decide ((laneIn st).takesNow)
          && decide ((laneIn st).part.yard.lanes[3]? = some { state := st, holder := none })) = true := by
  decide +kernel

/-! ### Terminals, weighing, links and supplies -/

/-- The reset state with terminal 7 enrolling and its CLEAR ALL pending. -/
def enrolling : State := yardBy fun y => y.enroll 7 4 .report

theorem witness_EnrollAndRetire :
    State.reset.takesNow ∧ (7 : Nat) ≤ 7 ∧ (1 : Nat) ≤ 4 ∧ (4 : Nat) ≤ 4
      ∧ (State.reset.part.yard.terminal 7).enrolling = false
      ∧ (State.reset.part.yard.terminal 7).state = .off
      ∧ enrolling.takesNow ∧ (enrolling.part.yard.terminal 7).enrolling = true
      ∧ enrolling.part.running = true ∧ enrolling.part.yard.loader.exchange = none
      ∧ enrolling.part.yard.loader.clearAlls = 7 :: [] := by
  decide +kernel

theorem witness_EnrollAndRetire_active :
    turnState.takesNow ∧ (turnState.part.yard.terminal 2).enrolling = false
      ∧ (turnState.part.yard.terminal 2).state ≠ .off
      ∧ (yardBy (linkYard .off (some (turnOf2 .clearAll .clearAll 0)))).part.running = true
      ∧ (yardBy (linkYard .off (some (turnOf2 .clearAll .clearAll 0)))).part.yard.loader.exchange
        = some (turnOf2 .clearAll .clearAll 0) := by
  decide +kernel

theorem witness_EnrollAndRetire_answers :
    (Answer.done 9 (some 5) none).wf = true ∧ (Answer.done 9 (some 5) none).isReport = true
      ∧ Answer.idle.wf = true
      ∧ ∀ n : Nat,
        (yardBy (linkYard .off (some (turnOf2 .clearAll .clearAll 0)))).part.yard.moveAt? 2 n = none :=
  ⟨by decide, by decide, by decide, fun _ => rfl⟩

theorem witness_ArmAndAbort :
    (truckIn .queued).takesNow ∧ (truckIn .queued).part.yard.truckState? 760 = some .queued
      ∧ (truckIn .loaded).part.yard.truckState? 760 = some .loaded
      ∧ (truckIn .loading).part.yard.truckState? 760 = some .loading
      ∧ (truckIn .queued).part.yard.truckState? 65535 = none
      ∧ (truckIn .queued).part.weigh.arming = none ∧ armed.takesNow ∧ armed.part.weigh.arming
        = some { truck := 760, direction := .weighIn, deadline := 60, deck1 := none, deck2 := none } := by
  decide +kernel

/-- The reset state with its RESTART reply gone. -/
def restartDue : State := partBy fun p => { p with host := { p.host with restartDue := true } }

theorem witness_RestartTaken :
    State.reset.takesNow ∧ ({ HostLink.initial 0 with closing := true } : HostLink).closing = true
      ∧ restartDue.part.running = true ∧ restartDue.part.host.restartDue = true
      ∧ restartDue.part.flight = .nothing ∧ State.reset.part.host.restartDue = false
      ∧ storing.part.flight = .store Settings.factory factoryTrims := by
  decide +kernel

/-- The reset state with bytes of a frame collected. -/
def inFrame (bytes : List Byte) : State :=
  partBy fun p => { p with host := { p.host with receiver := .inFrame bytes } }

theorem witness_FrameReceiver :
    State.reset.part.running = true ∧ State.reset.part.host.receiver = .hunting
      ∧ (inFrame [4#8]).part.running = true ∧ (inFrame [4#8]).part.host.receiver = .inFrame [4#8]
      ∧ lenTooLong ([4#8] ++ [0xC3#8]) = false ∧ frameWhole ([4#8] ++ [0xC3#8]) = false
      ∧ (inFrame []).part.host.receiver = .inFrame [] ∧ 120 < (121#8).toNat := by
  decide +kernel

/-- The reset state with the FULL reply ready, or leaving. -/
def replying (leaving : Option ReadyReply) (ready : List ReadyReply) : State :=
  partBy fun p => { p with host := { p.host with leaving := leaving, ready := ready } }

theorem witness_RepliesLeave :
    (replying none [refusalReply]).part.running = true
      ∧ (replying none [refusalReply]).part.host.leaving = none
      ∧ (replying none [refusalReply]).part.host.restartDue = false
      ∧ (replying none [refusalReply]).part.host.ready = refusalReply :: []
      ∧ (replying (some refusalReply) []).part.host.leaving = some refusalReply
      ∧ (replying (some refusalReply) []).part.host.inbound = [] := by
  decide +kernel

/-- The reset state with its supplies and pin as given. -/
def supplies (vdd resetPin : Bool) : State :=
  partBy fun p => { p with power := { vdd := vdd, resetPin := resetPin, latch := false } }

theorem witness_SupplyRows :
    (supplies false false).part.power.vdd = false ∧ (supplies false false).part.power.resetPin = false
      ∧ (supplies false true).part.power.resetPin = true ∧ (supplies false true).part.power.vdd = false
      ∧ (supplies true true).part.power.vdd = true ∧ (supplies true true).part.power.resetPin = true := by
  decide +kernel

theorem witness_RestartLeaves :
    badStore.part.store.good = false ∧ State.reset.part.store.good = true
      ∧ (⟨3, true, true⟩ : Pins).halt = true ∧ State.reset.part.power.latch = false
      ∧ ({ Part.reset with power := { Part.reset.power with latch := true } } : Part).power.latch = true
      ∧ (State.reset.part.restart ⟨3, true, true⟩).lastAudit = .pass := by
  decide +kernel

/-- A part whose only stack lists a tag twice, so that check 1 of the audit fails at bay 70. -/
def unsound : Part := { Part.reset with yard := Part.reset.yard.setStack 70 [5, 5] }

theorem witness_RestartLeaves_audit :
    unsound.power.latch = false ∧ unsound.yard.audit = .fails 1 (.bay 70)
      ∧ (packIn .free).part.power.latch = false ∧ (packIn .free).part.yard.audit = .pass := by
  decide +kernel

/-- A yard with the pack of tag 5 and its one job 4 in a state, with truck 760 in a state. -/
def fixYard (w : JobWork) (js : JobState) (ts : TruckState) : Yard :=
  { (truckYard ts Part.reset.yard).addPack 5 (if js = .lifted then liftedPack else movingPack) with
    stack := if js = .lifted then ⟨[]⟩ else ⟨[(70, [5])]⟩
    jobs := ⟨[(4, jobOf w js)]⟩ }

/-- Its job is the only one of its pack. -/
theorem fixYard_alone (w : JobWork) (js : JobState) (ts : TruckState) (u : Nat) (i : Job)
    (h : (fixYard w js ts).job? u = some i) : u = 4 := by
  have e : (fixYard w js ts).job? u = if 4 = u then some (jobOf w js) else none := rfl
  rw [e] at h
  split at h
  · next hu => exact hu.symm
  · cases h

theorem witness_RestartLeaves_fixUps :
    (fixYard (.clear 70) .sent .loading).Tables
      ∧ (fixYard (.clear 70) .sent .loading).truckState? 760 = some .loading
      ∧ ([.waiting, .sent, .accepted, .lifted, .suspended] : List JobState).all (fun js =>
        decide ((fixYard (.clear 70) js .loading).job? 4 = some (jobOf (.clear 70) js))
          && ((fixYard (.clear 70) js .loading).pack? 5).isSome
          && decide ((fixYard (.clear 70) js .loading).cancelledLoad? (jobOf (.clear 70) js) = none)
          && ((fixYard (.load 760 ⟨0, .one⟩) js .unloading).cancelledLoad?
            (jobOf (.load 760 ⟨0, .one⟩) js)).isSome) = true
      ∧ ∀ (u : Nat) (i : Job), (fixYard (.load 760 ⟨0, .one⟩) .lifted .unloading).job? u = some i →
        i.tag = 5 → u = 4 := by
  refine ⟨?_, by decide +kernel, by decide +kernel, fun u i h _ => fixYard_alone _ _ _ u i h⟩
  constructor <;> decide +kernel

theorem witness_RestartLeaves_fixUps_tables :
    (fixYard (.clear 70) .lifted .loading).Tables
      ∧ (fixYard (.load 760 ⟨0, .one⟩) .sent .unloading).Tables
      ∧ (fixYard (.load 760 ⟨0, .one⟩) .lifted .unloading).Tables := by
  refine ⟨?_, ?_, ?_⟩ <;> constructor <;> decide +kernel

/-! ### Time, weather and HALT -/

/-- The reset state at a time, with truck 760 waiting for stock until 60. -/
def waitingAt (now : Nat) : State :=
  partBy fun p =>
    { p with clock := now,
             yard := p.yard.addTruck 0 { truck760 .shortWait with deadline := some 60 } }

theorem witness_Expiries :
    (partBy fun p => { p with clock := 1800 }).part.running = true
      ∧ due 1800 State.reset.part.weather.deadline = true
      ∧ due 1799 State.reset.part.weather.deadline = false
      ∧ (waitingAt 60).part.yard.expiredWait (waitingAt 60).part.clock = some 760
      ∧ (waitingAt 59).part.yard.expiredWait (waitingAt 59).part.clock = none
      ∧ armed.part.weigh.arming
        = some { truck := 760, direction := .weighIn, deadline := 60, deck1 := none, deck2 := none }
      ∧ (60 : Nat) ≤ ({ armed.part with clock := 60 } : Part).clock ∧ armed.part.clock < 60 := by
  decide +kernel

/-- The reset state with a rain level and a prescale. -/
def rainAt (level : Bool) (prescale : Nat) : State :=
  partBy fun p =>
    { p with
      weather := { p.weather with rainLevel := level }
      settings := { p.settings with weather := { p.settings.weather with prescale := prescale } } }

theorem witness_RainRows :
    (rainAt false 2).part.running = true
      ∧ (rainAt false 2).part.weather.rainLevel
        ≠ decide ((rainAt false 2).part.settings.weather.edge = .rising)
      ∧ (rainAt false 2).part.weather.prescaleCount + 1 < (rainAt false 2).part.settings.weather.prescale
      ∧ (rainAt false 1).part.settings.weather.prescale ≤ (rainAt false 1).part.weather.prescaleCount + 1
      ∧ (rainAt true 1).part.weather.rainLevel
        = decide ((rainAt true 1).part.settings.weather.edge = .rising) := by
  decide +kernel

theorem witness_HaltRows :
    State.reset.part.running = true ∧ State.reset.part.halt = false
      ∧ (partBy fun p => { p with halt := true }).part.running = true
      ∧ (partBy fun p => { p with halt := true }).part.halt = true := by
  decide +kernel

/-- The settings with bay 200 a staging bay. -/
def stagingEnv : Env :=
  let w : Window := { enable := true, kind := .staging, base := 200#8, mask := 255#8, limit := 6 }
  { Part.reset.env with settings :=
    { Part.reset.env.settings with windows := Part.reset.env.settings.windows.set 0 w } }

/-- A yard with a READY job 4 in the queue of zone 1, and terminal 1 ACTIVE. -/
def sendYard (w : JobWork) : Yard :=
  (jobYard w .ready false).modifyTerminal 1 fun t => { t with state := .active }

theorem witness_HaltRows_send :
    (sendYard (.clear 70)).job? 4 = some { jobOf (.clear 70) .ready with move := none }
      ∧ ((sendYard (.clear 70)).sendPlan? stagingEnv 1 4).map SendPlan.dest = some (.bay 200)
      ∧ ((sendYard (.load 760 ⟨0, .one⟩)).sendPlan? Part.reset.env 1 4).map SendPlan.dest
        = some (.bed 3 ⟨0, .one⟩)
      ∧ ((sendYard (.clear 70)).pack? 5).isSome = true
      ∧ (sentYard Part.reset.yard).move? 9 = some (moveOf .toStaging (.bay 200) .sent) := by
  decide +kernel

theorem witness_HaltRows_laws :
    (sentYard Part.reset.yard).Tables ∧ (sentYard Part.reset.yard).Staging
      ∧ (jobYard (.clear 70) .ready true).Queued Part.reset.env := by
  refine ⟨?_, sentYard_staging, jobYard_queued⟩
  constructor <;> decide +kernel

/-! ### The weighbridge line -/

theorem witness_WeighLineRows :
    State.reset.part.running = true ∧ State.reset.part.weigh.receiver = .hunting
      ∧ charGood .none (chr 50) = true ∧ (chr 50).data = 50 ∧ charGood .none { chr 50 with stop := false } = false
      ∧ (chr 51).data ≠ 49 ∧ (chr 51).data ≠ 50
      ∧ (chr 65).data ≠ (weighState [49] .weighIn none none .queued).part.settings.weighing.endChar
      ∧ (15 : Nat) ≤ (List.replicate 15 49).length ∧ (List.replicate 14 49).length < 15 := by
  decide +kernel

theorem witness_WeighLineRows_ends :
    (weighState (record13560 49 83) .weighIn none none .queued).part.weigh.receiver
        = .collecting (record13560 49 83)
      ∧ (chr 13).data = State.reset.part.settings.weighing.endChar ∧ charGood .none (chr 13) = true
      ∧ parseRecord [49] = none ∧ parseRecord (record13560 49 85) = some (1, 13560, false)
      ∧ parseRecord (record13560 49 83) = some (1, 13560, true)
      ∧ parseRecord (record13560 50 83) = some (2, 13560, true)
      ∧ (weighState (record13560 49 83) .weighIn none none .queued).part.weigh.arming
        = some { truck := 760, direction := .weighIn, deadline := 60, deck1 := none, deck2 := none } := by
  decide +kernel

theorem witness_WeighCompletes :
    (weighState (record13560 49 83) .weighIn none (some 6800) .queued).part.running = true
      ∧ (weighState (record13560 49 83) .weighIn none (some 6800) .queued).part.yard.truckState? 760
        = some .queued
      ∧ (weighState (record13560 49 83) .weighIn none (some 6800) .loading).part.yard.truckState? 760
        = some .loading
      ∧ (13560 : Nat) = deckValue 13560 0
      ∧ (weighState (record13560 50 83) .weighOut (some 13440) none .loaded).part.yard.truck? 760
        = some (truck760 .loaded)
      ∧ (truck760 .loaded).weighedOut = false ∧ 13440 ≤ (truck760 .loaded).frontLimit
      ∧ 13440 + 13560 ≤ (truck760 .loaded).grossLimit
      ∧ (truck760 .loaded).grossLimit < 13441 + 13560 := by
  decide +kernel

theorem witness_WeighCompletes_table :
    (weighState (record13560 50 83) .weighOut (some 13440) none .loaded).part.yard.trucks.wf = true
      ∧ (761 : Nat) ≠ 760
      ∧ ({ truck760 .loaded with weighedOut := true } : Truck).weighedOut = true := by
  decide +kernel

/-! ### The loader link -/

theorem witness_TurnAndProbe :
    (yardBy (linkYard .active none)).part.running = true
      ∧ (yardBy (linkYard .active none)).part.yard.loader.lastServed ≤ 7
      ∧ ((yardBy (linkYard .active none)).part.yard.terminal 2).qualifies 0 = true
      ∧ ((yardBy (linkYard .active none)).part.yard.terminal 2).state = .active
      ∧ (∀ u : Nat, u ≤ 7 →
        (u + 7 - (yardBy (linkYard .active none)).part.yard.loader.lastServed) % 8
          < (2 + 7 - (yardBy (linkYard .active none)).part.yard.loader.lastServed) % 8 →
        ((yardBy (linkYard .active none)).part.yard.terminal u).qualifies 0 = false) := by
  decide +kernel

/-- The yard with terminal 2 SILENT, its probe due. -/
def silentYard (y : Yard) : Yard :=
  (linkYard .silent none y).modifyTerminal 2 fun t => { t with nextProbe := some 0 }

theorem witness_TurnAndProbe_silent :
    ((yardBy silentYard).part.yard.terminal 2).qualifies 0 = true
      ∧ ((yardBy silentYard).part.yard.terminal 2).state = .silent
      ∧ (∀ u : Nat, u ≤ 7 →
        (u + 7 - (yardBy silentYard).part.yard.loader.lastServed) % 8
          < (2 + 7 - (yardBy silentYard).part.yard.loader.lastServed) % 8 →
        ((yardBy silentYard).part.yard.terminal u).qualifies 0 = false) := by
  decide +kernel

theorem witness_AnswerTimeouts :
    turnState.part.running = true ∧ State.reset.part.yard.loader.exchange = none
      ∧ turnState.part.yard.loader.exchange = some (turnOf2 .poll .turn 0)
      ∧ (turnOf2 .poll .turn 1).resends < (turnOf2 .poll .turn 1).retryLimit
      ∧ (turnOf2 .poll .turn 2).retryLimit ≤ (turnOf2 .poll .turn 2).resends
      ∧ (turnOf2 .poll .probe 2).purpose = .probe ∧ (turnOf2 .clearAll .clearAll 2).purpose = .clearAll
      ∧ (turnState.part.yard.terminal 2).silence = .recall := by
  decide +kernel

theorem witness_AnswerTimeouts_recall :
    (∀ n ∈ ((sentYard Part.reset.yard).terminal 2).moves,
        ((sentYard Part.reset.yard).moveAt? 2 n).isSome = true)
      ∧ ((sentYard Part.reset.yard).terminal 2).silence = .recall
      ∧ (sentYard Part.reset.yard).job? 4 = some (jobOf (.clear 70) .sent)
      ∧ ((sentYard Part.reset.yard).pack? 5).isSome = true
      ∧ (sentYard Part.reset.yard).cancelledLoad? (jobOf (.clear 70) .sent) = none
      ∧ (moveOf .toStaging (.bay 200) .sent).state ≠ .lifted
      ∧ (moveOf .toStaging (.bay 200) .lifted).state = .lifted
      ∧ ({ Terminal.initial with silence := .report } : Terminal).silence = .report := by
  decide +kernel

theorem witness_IdleTextAndStale :
    turnState.inTurn 2 (turnOf2 .poll .turn 0) ∧ (1 : Nat) ≤ ([0x7E#8] : List Byte).length
      ∧ ([0x20#8, 0x7E#8] : List Byte).all textChar = true
      ∧ turnState.part.yard.loader.texts.length < 8
      ∧ (turnState.heard (turnOf2 .poll .turn 0)).moveAt? 2 65535 = none
      ∧ 8 ≤ ((turnState.part.yard.onLink fun l =>
          let full : List TextEntry := List.replicate 8 { terminal := 2, time := 0, chars := [] }
          { l with texts := full }).loader.texts.length) := by
  decide +kernel

theorem witness_IdleTextAndStale_probe :
    (yardBy (linkYard .silent (some (turnOf2 .poll .probe 0)))).part.running = true
      ∧ (yardBy (linkYard .silent (some (turnOf2 .poll .probe 0)))).part.yard.loader.exchange
        = some (turnOf2 .poll .probe 0) := by
  decide +kernel

theorem witness_AcceptAndWithdraw :
    withMove.inTurn 2 (turnOf2 .poll .turn 0)
      ∧ (withMove.heard (turnOf2 .poll .turn 0)).moveAt? 2 9
        = some (moveOf .toStaging (.bay 200) .sent)
      ∧ (withMove.heard (turnOf2 .poll .turn 0)).job? 4 = some (jobOf (.clear 70) .sent) := by
  decide +kernel

/-- A LOAD of truck 760, which unloads. -/
def cancelledMove : State :=
  yardBy fun _ => truckYard .unloading
    (moveState (.load 760 ⟨0, .one⟩) .toTruck (.bed 3 ⟨0, .one⟩) .sent movingPack).part.yard

theorem witness_AcceptAndWithdraw_unloading :
    cancelledMove.inTurn 2 (turnOf2 .poll .turn 0)
      ∧ (cancelledMove.heard (turnOf2 .poll .turn 0)).moveAt? 2 9
        = some (moveOf .toTruck (.bed 3 ⟨0, .one⟩) .sent)
      ∧ (cancelledMove.heard (turnOf2 .poll .turn 0)).job? 4
        = some (jobOf (.load 760 ⟨0, .one⟩) .sent)
      ∧ (cancelledMove.heard (turnOf2 .poll .turn 0)).truckState? 760 = some .unloading := by
  decide +kernel

/-- A move whose pack has another above it in its bay. -/
def coveredMove : State := yardBy fun _ => withMove.part.yard.setStack 70 [5, 6]

theorem witness_LiftedReport :
    withMove.inTurn 2 (turnOf2 .poll .turn 0) ∧ (moveOf .toStaging (.bay 200) .sent).state ≠ .lifted
      ∧ (withMove.heard (turnOf2 .poll .turn 0)).liftAllowed (moveOf .toStaging (.bay 200) .sent) = true
      ∧ coveredMove.inTurn 2 (turnOf2 .poll .turn 0)
      ∧ (coveredMove.heard (turnOf2 .poll .turn 0)).moveAt? 2 9
        = some (moveOf .toStaging (.bay 200) .sent)
      ∧ (coveredMove.heard (turnOf2 .poll .turn 0)).liftAllowed (moveOf .toStaging (.bay 200) .sent)
        = false := by
  decide +kernel

/-- Truck 760 OVER, with the pack of tag 5 at its one loaded position. -/
def loadedTruck : Truck :=
  let pl : Plan := { tag := 5, mass := 1264, front := 948, rear := 316 }
  { truck760 .over with
    slots := [{ slotAt 200 with one := { plan := some pl, loaded := true } }, slotAt 450, slotAt 700] }

/-- A turn of terminal 2, which takes that pack off the truck to bay 200. -/
def offMove : State :=
  yardBy fun y =>
    (linkYard .active (some (turnOf2 .poll .turn 0))
      { ((truckYard .over y).modifyTruck 760 fun _ => loadedTruck).addPack 5
          { movingPack with place := .bed 3 ⟨0, .one⟩, prior := some .onTruck } with
        jobs := ⟨[(4, jobOf (.offload 760 ⟨0, .one⟩) .sent)]⟩ }).onLink fun l =>
      { l with moves := ⟨[(9, { moveOf .fromTruck (.bay 200) .sent with source := .bed 3 ⟨0, .one⟩ })]⟩ }

theorem witness_LiftedReport_fromTruck :
    offMove.inTurn 2 (turnOf2 .poll .turn 0)
      ∧ (offMove.heard (turnOf2 .poll .turn 0)).moveAt? 2 9
        = some { moveOf .fromTruck (.bay 200) .sent with source := .bed 3 ⟨0, .one⟩ }
      ∧ (offMove.heard (turnOf2 .poll .turn 0)).job? 4
        = some (jobOf (.offload 760 ⟨0, .one⟩) .sent)
      ∧ (offMove.heard (turnOf2 .poll .turn 0)).truck? 760 = some loadedTruck
      ∧ (offMove.heard (turnOf2 .poll .turn 0)).liftAllowed
          { moveOf .fromTruck (.bay 200) .sent with source := .bed 3 ⟨0, .one⟩ } = true := by
  decide +kernel

/-- R134: a FROM_TRUCK lift vacates the bed position. -/
theorem test_lifted_fromTruck :
    (after (.lifted (.clear 2) 9) offMove).map (fun t =>
      ((t.part.yard.truck? 760).map (fun k => k.pos ⟨0, .one⟩),
        (t.part.yard.pack? 5).map Pack.place)) = some (some BedPos.vacant, some .nowhere) := by
  decide +kernel

/-- A lifted move to truck 760, and one from it. -/
def liftedMove (w : JobWork) (k : MoveKind) (dest : Spot) : State := moveState w k dest .lifted liftedPack

theorem witness_DoneReport :
    (liftedMove (.load 760 ⟨0, .one⟩) .toTruck (.bed 3 ⟨0, .one⟩)).inTurn 2 (turnOf2 .poll .turn 0)
      ∧ ((liftedMove (.load 760 ⟨0, .one⟩) .toTruck (.bed 3 ⟨0, .one⟩)).heard
          (turnOf2 .poll .turn 0)).moveAt? 2 9 = some (moveOf .toTruck (.bed 3 ⟨0, .one⟩) .lifted)
      ∧ ((liftedMove (.load 760 ⟨0, .one⟩) .toTruck (.bed 3 ⟨0, .one⟩)).heard
          (turnOf2 .poll .turn 0)).job? 4 = some (jobOf (.load 760 ⟨0, .one⟩) .sent)
      ∧ ((liftedMove (.load 760 ⟨0, .one⟩) .toTruck (.bed 3 ⟨0, .one⟩)).heard
          (turnOf2 .poll .turn 0)).pack? 5 = some liftedPack
      ∧ ((liftedMove (.load 760 ⟨0, .one⟩) .toTruck (.bed 3 ⟨0, .one⟩)).heard
          (turnOf2 .poll .turn 0)).truck? 760 = some (truck760 .loading)
      ∧ (truck760 .loading).lane = some 3 ∧ (16777215 : Nat) ≠ 5 := by
  decide +kernel

theorem witness_DoneReport_bays :
    (liftedMove (.offload 760 ⟨0, .one⟩) .fromTruck (.bay 200)).inTurn 2 (turnOf2 .poll .turn 0)
      ∧ ((liftedMove (.offload 760 ⟨0, .one⟩) .fromTruck (.bay 200)).heard
          (turnOf2 .poll .turn 0)).job? 4 = some (jobOf (.offload 760 ⟨0, .one⟩) .sent)
      ∧ (liftedMove (.clear 70) .toStaging (.bay 200)).inTurn 2 (turnOf2 .poll .turn 0)
      ∧ ((liftedMove (.clear 70) .toStaging (.bay 200)).heard (turnOf2 .poll .turn 0)).job? 4
        = some (jobOf (.clear 70) .sent) := by
  decide +kernel

theorem witness_DoneReport_aside :
    (liftedMove (.load 760 ⟨0, .one⟩) .toStaging (.bay 200)).inTurn 2 (turnOf2 .poll .turn 0)
      ∧ ((liftedMove (.load 760 ⟨0, .one⟩) .toStaging (.bay 200)).heard
          (turnOf2 .poll .turn 0)).job? 4 = some (jobOf (.load 760 ⟨0, .one⟩) .sent)
      ∧ ((liftedMove (.load 760 ⟨0, .one⟩) .toStaging (.bay 200)).heard
          (turnOf2 .poll .turn 0)).truckState? 760 = some .loading := by
  decide +kernel

/-- A lifted move of the pack of tag 5, beside a pack of tag 6 in a state, with a job or none. -/
def besides (st : PackState) (job : Option Nat) : State :=
  yardBy fun _ =>
    let y := (liftedMove (.clear 70) .toStaging (.bay 200)).part.yard
    { y.addPack 6 { packF with state := st, place := .bay 71 1, job := job } with
      jobs := ⟨[(3, { jobOf (.clear 71) .ready with tag := 6, move := none }),
        (4, jobOf (.clear 70) .sent)]⟩
      stack := ⟨[(71, [6])]⟩ }

theorem witness_DoneReport_scanned :
    (besides .reserved none).inTurn 2 (turnOf2 .poll .turn 0) ∧ (6 : Nat) ≠ 5 ∧ (3 : Nat) ≠ 4
      ∧ ((besides .reserved none).heard (turnOf2 .poll .turn 0)).moveAt? 2 9
        = some (moveOf .toStaging (.bay 200) .lifted)
      ∧ ([.free, .reserved, .held, .moving, .onTruck, .doubt] : List PackState).all (fun st =>
        decide ((((besides st none).heard (turnOf2 .poll .turn 0)).pack? 6).map Pack.state = some st))
        = true
      ∧ (((besides .reserved (some 3)).heard (turnOf2 .poll .turn 0)).pack? 6).map Pack.job
        = some (some 3)
      ∧ (((besides .reserved (some 3)).heard (turnOf2 .poll .turn 0)).job? 3).isSome = true := by
  decide +kernel

theorem witness_FaultReport :
    withMove.inTurn 2 (turnOf2 .poll .turn 0)
      ∧ (withMove.heard (turnOf2 .poll .turn 0)).moveAt? 2 9
        = some (moveOf .toStaging (.bay 200) .sent)
      ∧ (jobOf (.clear 70) .sent).tag = 5
      ∧ (withMove.heard (turnOf2 .poll .turn 0)).pack? 5 = some movingPack
      ∧ (withMove.heard (turnOf2 .poll .turn 0)).cancelledLoad? (jobOf (.clear 70) .sent) = none := by
  decide +kernel

theorem witness_FlagsStay :
    Instr.wf .clockTick = true ∧ State.reset.part.host.inbound = []
      ∧ (∃ t, exec .clockTick State.reset = .next t)
      ∧ holdsFlag State.reset.part.yard.events .restart = true :=
  ⟨rfl, rfl, ⟨_, rfl⟩, by decide⟩

/-! ### Several trucks: the offers of a cancel, offers taken whole, and stock waits at a restart -/

/-- A pack reserved to line 1 of a truck, standing in a bay. -/
def reservedTo (number bay tier : Nat) : Pack :=
  { packF with
    state := .reserved, place := .bay bay tier, assignment := some { truck := number, line := 1 } }

/-- Truck 760 or another with its one line's assigned list, waiting for one more pack. -/
def shortTruck (number lane : Nat) (st : TruckState) (tags : List Nat) : Truck :=
  { truck760 st with
    number := number
    lane := some lane
    lines := (truck760 st).lines.map fun l => { l with wanted := tags.length + 1, assigned := tags } }

/-- A yard with truck 760 in lane 3 and truck 761, in SHORT_WAIT, in lane 4. -/
def twoTrucks (t u : Truck) : Yard :=
  (((Part.reset.yard.addTruck 0 t).addTruck 1 u).modifyLane 3 fun _ =>
    { state := .occupied, holder := some 760 }).modifyLane 4 fun _ =>
    { state := .occupied, holder := some 761 }

/-- Truck 760 LOADING, with pack 5 on its bed and pack 6 in bay 77 with LOAD job 0; truck 761 waits for
one pack. -/
def cancelYard : Yard :=
  let t := ((shortTruck 760 3 .loading [5, 6]).modifyPos ⟨0, .one⟩ fun _ =>
    { plan := some ⟨5, 1200, 600, 600⟩, loaded := true }).modifyPos ⟨0, .two⟩ fun _ =>
    { plan := some ⟨6, 1200, 600, 600⟩, loaded := false }
  { ((twoTrucks t { shortTruck 761 4 .shortWait [] with deadline := some 60 }).addPack 5
      { reservedTo 760 77 1 with
        state := .onTruck, place := .bed 3 ⟨0, .one⟩, loadedMass := some 1200 }).addPack 6
      { reservedTo 760 77 1 with job := some 0 } with
    stack := ⟨[(77, [6])]⟩
    jobs := ⟨[(0, { work := .load 760 ⟨0, .two⟩, tag := 6, state := .waiting, move := none,
                    bound := none })]⟩ }

-- R65 (worked example "a cancel during loading"): step 1 deletes job 0 and offers pack 6 before step 4
-- looks for records, so the truck that the offer fills takes record 0 and the OFFLOAD job record 1.
theorem test_cancelTruck_offers_first :
    (after (.cancelTruck hd 760) (yardBy fun _ => cancelYard)).map (fun s =>
        s.part.yard.jobs.entries.map fun e => (e.1, e.2.work, e.2.tag))
      = some [(0, .load 761 ⟨1, .one⟩, 6), (1, .offload 760 ⟨0, .one⟩, 5)] := by
  decide +kernel

/-- Two stock waits, passed at 60; truck 760 was granted first. Pack 8 stands over pack 5, both of truck
760, and its pack 7 over pack 9 of truck 761. -/
def waitsYard : Yard :=
  let y := twoTrucks
    { shortTruck 760 3 .shortWait [5, 6, 7, 8] with
      deadline := some 60, grantedAt := some 10, slots := [slotAt 450, slotAt 700] }
    { shortTruck 761 4 .shortWait [9] with deadline := some 60, grantedAt := some 20 }
  { ((((y.addPack 5 (reservedTo 760 70 1)).addPack 6 (reservedTo 760 71 1)).addPack 7
      (reservedTo 760 72 2)).addPack 8 (reservedTo 760 70 2)).addPack 9 (reservedTo 761 72 1) with
    stack := ⟨[(70, [5, 8]), (71, [6]), (72, [9, 7])]⟩ }

-- R74, R114, R171: each expiry is taken whole, its jobs judged before the next. Job 2 (pack 7) can go
-- aside only once pack 9 under it has a job, so it joins the queue of zone 1 behind jobs 1 and 3.
theorem test_restart_expiries_whole :
    let q := ((partBy fun p => { p with clock := 100, yard := waitsYard }).part.restart
      ⟨0, false, false⟩).yard
    q.queue 1 = [1, 3, 2] ∧ (q.job? 2).map Job.tag = some 7 ∧ (q.job? 4).map Job.tag = some 9 := by
  decide +kernel

/-- Truck 762 waits with packs 6 and 9. Pack 6 is what truck 760 still lacks, and pack 9, under pack 7 of
truck 760, is what truck 761 lacks; the wait of 760 began first. -/
def offersYard : Yard :=
  let y := ((twoTrucks
    { shortTruck 760 3 .shortWait [5, 7, 8] with
      deadline := some 60, grantedAt := some 10, slots := [slotAt 450, slotAt 700] }
    { shortTruck 761 4 .shortWait [] with deadline := some 60, grantedAt := some 20 }).addTruck 2
    { shortTruck 762 5 .shortWait [6, 9] with deadline := some 60, grantedAt := some 30 }).modifyLane 5
      fun _ => { state := .occupied, holder := some 762 }
  { ((((y.addPack 5 (reservedTo 760 70 1)).addPack 6 (reservedTo 762 71 1)).addPack 7
      (reservedTo 760 72 2)).addPack 8 (reservedTo 760 70 2)).addPack 9 (reservedTo 762 72 1) with
    stack := ⟨[(70, [5, 8]), (71, [6]), (72, [9, 7])]⟩ }

-- R83, R85, R104, R114: CANCEL TRUCK 762 frees packs 6 and 9. The offer of 6 fills and places truck 760,
-- whose jobs 1 and 3 are ready then. Only the next offer gives pack 9 a job, so that job 2 can go aside.
theorem test_offers_whole :
    (after (.cancelTruck hd 762) (yardBy fun _ => offersYard)).map (fun s =>
        (s.part.yard.queue 1, s.part.yard.jobs.entries.map fun e => (e.1, e.2.tag)))
      = some ([1, 3, 2], [(0, 5), (1, 6), (2, 7), (3, 8), (4, 9)]) := by
  decide +kernel

-- R172 and log entry 20: a tag in bays 70 and 71 is reported at bay 71.
theorem test_audit_twice :
    ((Part.reset.yard.setStack 70 [5]).setStack 71 [5]).audit = .fails 1 (.bay 71) := by
  decide +kernel

/-! ### States for the clauses about cancels, findings and faults -/

/-- Lanes and trucks agree in a part with nothing armed, once the records say so. -/
theorem lanes_of (p : Part) (hn : (p.yard.trucks.entries.map fun en => en.2.number).Nodup)
    (ha : p.yard.audit6 = none) (hw : p.weigh.arming = none) : p.Lanes :=
  ⟨hn, ha, fun a h => by rw [hw] at h; cases h⟩

theorem witness_CancelTruckOutcomes_left :
    (truckIn .loading).part.yard.Tables ∧ (truckIn .loading).part.Lanes
      ∧ (truckIn .loading).part.yard.cancelLeaves (truckIn .loading).part.env (truck760 .loading)
        = true := by
  refine ⟨?_, lanes_of _ ?_ ?_ ?_, ?_⟩
  · constructor <;> decide +kernel
  all_goals decide +kernel

theorem witness_CancelTruckOutcomes_unloads :
    let s : State := yardBy fun _ => cancelYard
    s.takesNow ∧ s.part.yard.Tables ∧ s.part.Lanes ∧ s.part.weigh.arming = none
      ∧ (s.part.yard.truck? 760).map Truck.state = some .loading
      ∧ (s.part.yard.truck? 760).map (s.part.yard.cancelLeaves s.part.env) = some false := by
  refine ⟨?_, ?_, lanes_of _ ?_ ?_ ?_, ?_, ?_, ?_⟩
  · decide +kernel
  · constructor <;> decide +kernel
  all_goals decide +kernel

/-- The pack of tag 5 in doubt with no job, assigned or not. -/
def doubtPack (a : Option Assignment) : State :=
  yardBy fun y => (truckYard .loading y).addPack 5
    { packF with state := .doubt, place := .nowhere, assignment := a }

theorem witness_LocatePackOutcomes_inBay :
    ([none, some { truck := 760, line := 1 }] : List (Option Assignment)).all (fun a =>
        decide ((doubtPack a).takesNow)
          && decide ((doubtPack a).part.yard.jobOfPack? 5 = none)
          && decide (0 < (doubtPack a).part.yard.room (doubtPack a).part.settings 255)
          && decide (((doubtPack a).part.yard.pack? 5).map Pack.assignment = some a)) = true
      ∧ (jobPack .doubt (.clear 70) .suspended).part.yard.jobOfPack? 5
        = some (4, jobOf (.clear 70) .suspended)
      ∧ (jobOf (.clear 70) .suspended).work.isLoad = false
      ∧ (jobOf (.load 760 ⟨0, .one⟩) .suspended).work.isLoad = true := by
  decide +kernel

theorem witness_LocatePackOutcomes_onBed :
    ((jobPack .doubt (.load 760 ⟨0, .one⟩) .suspended).part.yard.truck? 760).bind Truck.lane = some 3
      ∧ (jobPack .doubt (.load 760 ⟨0, .one⟩) .suspended).part.yard.truck? 760
        = some (truck760 .loading)
      ∧ 0 < (truck760 .loading).slots.length
      ∧ offloadPack.part.yard.truck? 760 = some (truck760 .over) ∧ (truck760 .over).lane = some 3
      ∧ (offloadPack.part.yard.pack? 5).bind Pack.loadedMass = some 1264
      ∧ (truck760 .over).slots[0]? = some (slotAt 200) := by
  decide +kernel

/-- R34, R100: set back at x 200 of a wheelbase of 800, 1,264 kg have a rear share of 316 kg. -/
theorem test_locate_offload :
    (after (.locatePack hd 5 1 0) offloadPack).bind (fun s =>
        (s.part.yard.truck? 760).map fun t => t.pos ⟨0, .one⟩)
      = some { plan := some { tag := 5, mass := 1264, front := 948, rear := 316 }, loaded := true } := by
  decide +kernel

/-- A turn of terminal 2, which is to load the pack of tag 5, assigned to line 1 of truck 760. -/
def assignedMove : State :=
  moveState (.load 760 ⟨0, .one⟩) .toTruck (.bed 3 ⟨0, .one⟩) .sent
    { movingPack with prior := some .reserved, assignment := some { truck := 760, line := 1 } }

theorem witness_FaultReport_load :
    assignedMove.inTurn 2 (turnOf2 .poll .turn 0)
      ∧ (assignedMove.heard (turnOf2 .poll .turn 0)).moveAt? 2 9
        = some (moveOf .toTruck (.bed 3 ⟨0, .one⟩) .sent)
      ∧ (assignedMove.heard (turnOf2 .poll .turn 0)).job? 4
        = some (jobOf (.load 760 ⟨0, .one⟩) .sent)
      ∧ ((assignedMove.heard (turnOf2 .poll .turn 0)).pack? 5).map Pack.job = some (some 4)
      ∧ (((assignedMove.heard (turnOf2 .poll .turn 0)).pack? 5).bind Pack.assignment).isSome = true
      ∧ ((cancelledMove.heard (turnOf2 .poll .turn 0)).cancelledLoad?
          (jobOf (.load 760 ⟨0, .one⟩) .sent)).isSome = true
      ∧ ((cancelledMove.heard (turnOf2 .poll .turn 0)).pack? 5).isSome = true := by
  decide +kernel

theorem witness_FaultReport_offload :
    ((offMove.heard (turnOf2 .poll .turn 0)).pack? 5).isSome = true
      ∧ offMove.part.yard.Tables ∧ offMove.part.Lanes
      ∧ ((offMove.heard (turnOf2 .poll .turn 0)).act.faulted offMove.part.env 9
          { moveOf .fromTruck (.bay 200) .sent with source := .bed 3 ⟨0, .one⟩ } .damaged).yard.truckState?
          760 = some .loaded := by
  refine ⟨by decide +kernel, ?_, lanes_of _ ?_ ?_ ?_, by decide +kernel⟩
  · constructor <;> decide +kernel
  all_goals decide +kernel

theorem witness_HaltRows_withheld :
    (partBy fun p => { p with halt := true }).part.halt = true ∧ storing.part.flight ≠ .nothing
      ∧ storing.part.env.dispatch = false := by
  decide +kernel

/-! ### Withdraw (R134, R139) -/

/-- A move of a cancelled truck with its WITHDRAW pending, where terminal 2's turn carries a message. -/
def askedMove (msg : LinkMessage) : State :=
  yardBy fun _ => (cancelledMove.part.yard.addWithdraw 2 9).onLink fun l =>
    { l with exchange := some (turnOf2 msg .turn 0) }

/-- The notices of terminal 2 and the state of move 9. -/
def askedView (s : State) : List Notice × Option MoveState :=
  ((s.part.yard.terminal 2).notices, (s.part.yard.move? 9).map Move.state)

/-- R139: a LIFTED that answers the WITHDRAW leaves the notice pending. -/
theorem test_withdraw_kept :
    (after (.lifted (.clear 2) 9) (askedMove (.withdraw 9))).map askedView
      = some ([.withdraw 9], some .lifted) := by
  decide +kernel

/-- R134: a LIFTED that is taken before the WITHDRAW is sent discards the notice. -/
theorem test_withdraw_dropped :
    (after (.lifted (.clear 2) 9) (askedMove .poll)).map askedView = some ([], some .lifted) := by
  decide +kernel

/-- R139: the next turn carries the WITHDRAW again, and TOO_LATE removes it. -/
theorem test_withdraw_sent_again :
    let again := ((after (.lifted (.clear 2) 9) (askedMove (.withdraw 9))).bind (after .loaderTurn))
    (again.bind fun s => s.part.yard.loader.exchange.map Exchange.message) = some (.withdraw 9)
      ∧ (again.bind (after (.tooLate (.clear 2) 9))).map askedView = some ([], some .lifted) := by
  decide +kernel

theorem witness_LiftedReport_withdraw :
    (askedMove (.withdraw 9)).inTurn 2 (turnOf2 (.withdraw 9) .turn 0)
      ∧ ((askedMove (.withdraw 9)).heard (turnOf2 (.withdraw 9) .turn 0)).moveAt? 2 9
        = some (moveOf .toTruck (.bed 3 ⟨0, .one⟩) .sent)
      ∧ ((askedMove (.withdraw 9)).heard (turnOf2 (.withdraw 9) .turn 0)).liftAllowed
        (moveOf .toTruck (.bed 3 ⟨0, .one⟩) .sent) = true := by
  decide +kernel

/-! ### Estimate, balance point, placement and class -/

theorem witness_EstimateBounds :
    (packIn .free).part.env.settings.density 2 = 500 ∧ trimOf (packIn .free).part.env.trims 2 = 1000
      ∧ 100 ≤ packF.volume ∧ packF.volume ≤ 9999 ∧ 6 ≤ packF.moisture ∧ packF.moisture ≤ 80
      ∧ packF.water ≤ (packIn .free).part.env.settings.weather.capKg * 1000
      ∧ (packIn .free).part.env.settings.weather.capKg ≤ 200 := by
  decide +kernel

theorem witness_BalancePoint_and_PlacementPasses :
    (truck760 .loading).carriesNothing 2 = false ∧ (truck760 .loading).wheelbase ≤ 1500
      ∧ 17640 - 6800 ≤ 40000 := by
  decide +kernel

theorem witness_SlotOrder : ((truck760 .loading).slots.map Slot.x).Pairwise (· < ·) := by
  decide

theorem witness_EffectiveClass :
    let e : Env := { State.reset.part.env with clock := 5400 }
    0 < e.settings.planning.ageing * 60 ∧ (truck760 .queued).announcedAt ≤ e.clock
      ∧ (truck760 .queued).announcedAt + 3 * (e.settings.planning.ageing * 60) ≤ e.clock
      ∧ (truck760 .queued).cls = 0
      ∧ (truck760 .queued).announcedAt + 2 * (e.settings.planning.ageing * 60) ≤ 3600 := by
  decide +kernel

end Sys2Proof.Tests
end

section
/-! SUPPORT. One induction for every law of a step: what a relation of parts must hold of, one field for each
operation of the part that a row is made of, so that every step keeps it. -/

namespace Sys2Proof.Machine

/-- A relation between the part before and after is kept by every operation of the part that the rows of the
table are made of. -/
structure Part.StepLaw (R : Part → Part → Prop) : Prop where
  refl : ∀ p, R p p
  trans : ∀ {p q r}, R p q → R q r → R p r
  perform : ∀ p r kind seq check, p.host.canTake = true →
    R p (Part.answer (p.perform r) kind seq check)
  refuse : ∀ p res kind seq check, p.host.canTake = true →
    R p (Part.answer (p.refuse res) kind seq check)
  stored : ∀ p f, p.host.inbound.length < 2 →
    R p { p with host := { p.host with inbound := p.host.inbound ++ [f] } }
  unstored : ∀ p f rest, p.host.inbound = f :: rest →
    R p { p with host := { p.host with inbound := rest } }
  full : ∀ p f, R p { p with host := p.host.putReady (fullReply f) }
  linkError : ∀ p, R p (p.raise .linkError)
  receiver : ∀ p r, R p { p with host := { p.host with receiver := r } }
  started : ∀ p hrdy, R p { p with host := p.host.start hrdy }
  sent : ∀ p r, p.host.leaving = some r → R p { p with host := p.host.sent r }
  power : ∀ p w, R p { p with power := w }
  flightEnds : ∀ p, R p { p with flight := .nothing }
  restart : ∀ p pins, R p (p.restart pins)
  storeEnds : ∀ p agrees, R p (p.storeEnds agrees)
  recallEnds : ∀ p, R p p.recallEnds
  clock : ∀ p, R p { p with clock := tick p.clock }
  dryingExpiry : ∀ p, R p p.dryingExpiry
  stockExpiry : ∀ p n, p.yard.expiredWait p.clock = some n → R p (p.stockExpiry n)
  weighExpiry : ∀ p, R p p.weighExpiry
  rainPulse : ∀ p, R p p.rainPulse
  rainOtherEdge : ∀ p, R p p.rainOtherEdge
  haltOn : ∀ p, R p p.haltOn
  haltOff : ∀ p, R p p.haltOff
  lineChar : ∀ p c, R p (p.lineChar c)
  loaderTurn : ∀ p, R p p.loaderTurn
  probeTurn : ∀ p, R p p.probeTurn
  clearAllBegins : ∀ p, R p p.clearAllBegins
  answerTimeout : ∀ p, R p p.answerTimeout
  answered : ∀ p terminal ans, R p (p.answered terminal ans)

namespace Part.StepLaw

variable {R : Part → Part → Prop}

/-! ### The host link -/

theorem takeFrame (L : StepLaw R) (p : Part) (f : Frame) (h : p.host.canTake = true) :
    R p (p.takeFrame f) := by
  unfold Part.takeFrame Part.judgeFrame
  split
  · exact L.refuse _ _ _ _ _ h
  · split
    · exact L.refuse _ _ _ _ _ h
    · exact L.refuse _ _ _ _ _ h
    · split
      · exact L.perform _ _ _ _ _ h
      · exact L.refuse _ _ _ _ _ h

theorem takeFrames (L : StepLaw R) (fuel : Nat) (p : Part) : R p (Part.takeFrames fuel p) := by
  induction fuel generalizing p with
  | zero => exact L.refl p
  | succ fuel ih =>
    unfold Part.takeFrames
    split
    · exact L.refl p
    · next f rest hin =>
      split
      · next hcan =>
        exact L.trans (L.unstored p f rest hin) (L.trans (L.takeFrame _ f hcan) (ih _))
      · exact L.refl p

theorem frameArrives (L : StepLaw R) (p : Part) (f : Frame) : R p (p.frameArrives f) := by
  unfold Part.frameArrives
  split
  · next h => exact L.trans (L.stored p f h) (L.takeFrames _ _)
  · split
    · exact L.full p f
    · exact L.linkError p

theorem request (L : StepLaw R) (p : Part) (h : Header) (r : Request) : R p (p.request h r) := by
  unfold Part.request
  split
  · exact L.refl p
  · split
    · next hcan =>
      simp only [Bool.and_eq_true] at hcan
      exact L.perform _ _ _ _ _ hcan.1
    · exact L.frameArrives _ _

theorem anyFrame (L : StepLaw R) (p : Part) (f : Frame) : R p (p.anyFrame f) := by
  unfold Part.anyFrame
  split
  · exact L.frameArrives _ _
  · exact L.refl p

theorem cutFrame (L : StepLaw R) (p : Part) : R p p.cutFrame :=
  L.trans (L.receiver p .hunting) (L.linkError _)

theorem frameEnds (L : StepLaw R) (p : Part) (bytes : List Byte) : R p (p.frameEnds bytes) := by
  unfold Part.frameEnds
  simp only
  split
  · exact L.trans (L.receiver p .hunting) (L.frameArrives _ _)
  · exact L.receiver p .hunting

theorem hostByte (L : StepLaw R) (p : Part) (b : Byte) (err : Bool) : R p (p.hostByte b err) := by
  unfold Part.hostByte
  split
  · split
    · exact L.receiver p _
    · exact L.refl p
  · split
    · exact L.cutFrame p
    · split
      · exact L.frameEnds p _
      · exact L.receiver p _

theorem hostBytes (L : StepLaw R) (err : Bool) (bytes : List Byte) (p : Part) :
    R p (p.hostBytes err bytes) := by
  induction bytes generalizing p with
  | nil => exact L.refl p
  | cons b rest ih =>
    cases rest with
    | nil => exact L.hostByte p b err
    | cons c more => exact L.trans (L.hostByte p b false) (ih _)

theorem hostGap (L : StepLaw R) (p : Part) (b : Byte) (err : Bool) : R p (p.hostGap b err) := by
  unfold Part.hostGap
  split
  · exact L.hostByte p b err
  · exact L.trans (L.cutFrame p) (L.hostByte _ b err)

theorem replySent (L : StepLaw R) (p : Part) : R p p.replySent := by
  unfold Part.replySent
  split
  · next r h => exact L.trans (L.sent p r h) (L.takeFrames _ _)
  · exact L.refl p

/-! ### Supplies, the weighbridge line and the loader link -/

theorem powerOn (L : StepLaw R) (p : Part) (pins : Pins) : R p (p.powerOn pins) := by
  unfold Part.powerOn
  split
  · exact L.refl p
  · simp only
    split
    · exact L.power p _
    · exact L.trans (L.power p _) (L.restart _ pins)

theorem powerFail (L : StepLaw R) (p : Part) : R p p.powerFail :=
  L.trans (L.power p { p.power with vdd := false }) (L.flightEnds _)

theorem resetAsserted (L : StepLaw R) (p : Part) : R p p.resetAsserted :=
  L.trans (L.power p { p.power with resetPin := true }) (L.flightEnds _)

theorem latchSet (L : StepLaw R) (p : Part) : R p p.latchSet := by
  unfold Part.latchSet
  split
  · exact L.refl p
  · exact L.power p _

theorem resetReleased (L : StepLaw R) (p : Part) (pins : Pins) : R p (p.resetReleased pins) := by
  unfold Part.resetReleased
  split
  · simp only
    split
    · exact L.trans (L.power p _) (L.restart _ pins)
    · exact L.power p _
  · exact L.refl p

theorem lineChars (L : StepLaw R) (cs : List LineChar) (p : Part) : R p (p.lineChars cs) := by
  unfold Part.lineChars
  induction cs generalizing p with
  | nil => exact L.refl p
  | cons c rest ih => exact L.trans (L.lineChar p c) (ih _)

theorem charsArrive (L : StepLaw R) (p : Part) (chars : List LinkChar) :
    R p (p.charsArrive chars) := by
  unfold Part.charsArrive
  split
  · exact L.answered p _ _
  · exact L.refl p

theorem stockWaitRow (L : StepLaw R) (p : Part) :
    R p (match p.yard.expiredWait p.clock with | some n => p.stockExpiry n | none => p) := by
  cases h : p.yard.expiredWait p.clock with
  | some n => exact L.stockExpiry p n h
  | none => exact L.refl p

/-! ### Rows -/

variable {s t : State} {f : Part → Part}

theorem onPart (hf : ∀ p, R p (f p)) (h : s.onPart f = .next t) : R s.part t.part := by
  obtain rfl := Host.Outcome.next.inj h
  exact hf s.part

theorem whileRunning (L : StepLaw R) (hf : ∀ p, R p (f p)) (h : s.whileRunning f = .next t) :
    R s.part t.part := by
  refine onPart (fun p => ?_) h
  unfold Part.whileRunning
  split
  · exact hf p
  · exact L.refl p

theorem ifThen (L : StepLaw R) {test : Part → Bool} (hf : ∀ p, R p (f p))
    (h : s.ifThen test f = .next t) : R s.part t.part := by
  refine L.whileRunning (fun p => ?_) h
  split
  · exact hf p
  · exact L.refl p

theorem requestRow (L : StepLaw R) {hd : Header} {r : Request} (h : s.request hd r = .next t) :
    R s.part t.part :=
  onPart (fun p => L.request p hd r) h

theorem answerRow (L : StepLaw R) {line : AnswerLine} {a : Option Answer}
    (h : s.answered line a = .next t) : R s.part t.part := by
  unfold State.answered at h
  split at h
  · exact L.ifThen (fun p => L.answered p _ _) h
  · obtain rfl := Host.Outcome.next.inj h
    exact L.refl _
  · exact L.whileRunning (fun p => L.charsArrive p _) h

/-- Every row of the table keeps a relation that the operations it is made of keep. -/
theorem exec (L : StepLaw R) {c : Instr} (h : Machine.exec c s = .next t) : R s.part t.part := by
  cases c with
  | setWindow | setZoning | setSpecies | setWeather | setPlanning | setLoaderLink | setWeighing
  | setEventMask | readSettings | storeSettings | recallSettings | setClock | readClock | identify
  | registerPack | removePack | holdPack | releasePack | locatePack | readPack | readBay
  | announceTruck | cancelTruck | pauseTruck | resumeTruck | departTruck | readTruck | listTrucks
  | openLane | closeLane | readLanes | enrollLoader | retireLoader | readLoader | readText | weighIn
  | weighOut | abortWeighing | readWeighbridge | readEvents | runAudit | restart =>
    exact L.requestRow h
  | idle | accept | lifted | done | fault | withdrawn | tooLate | text => exact L.answerRow h
  | unknownKind => exact onPart (fun p => L.anyFrame p _) h
  | hostFrameBegin => exact L.whileRunning (fun p => L.hostByte p _ _) h
  | hostFrameComplete => exact L.whileRunning (fun p => L.hostBytes _ _ p) h
  | hostFrameCutShort => exact L.whileRunning (fun p => L.hostBytes _ _ p) h
  | hostFrameGap => exact L.whileRunning (fun p => L.hostGap p _ _) h
  | replyStart => exact L.whileRunning (fun p => L.started p _) h
  | replySent => exact L.whileRunning L.replySent h
  | powerOn => exact onPart (fun p => L.powerOn p _) h
  | powerFail => exact onPart L.powerFail h
  | retentionLatchSet => exact onPart L.latchSet h
  | resetAssert => exact onPart L.resetAsserted h
  | resetRelease => exact onPart (fun p => L.resetReleased p _) h
  | restartSequence => exact L.ifThen (fun p => L.restart p _) h
  | storeEnd => exact L.whileRunning (fun p => L.storeEnds p _) h
  | recallEnd => exact L.whileRunning L.recallEnds h
  | clockTick => exact onPart L.clock h
  | dryingExpiry => exact L.ifThen L.dryingExpiry h
  | stockWaitExpiry => exact L.whileRunning L.stockWaitRow h
  | weighDeadlineExpiry => exact L.ifThen L.weighExpiry h
  | rainPulse => exact L.ifThen L.rainPulse h
  | rainStep => exact L.ifThen L.rainPulse h
  | rainOtherEdge => exact L.ifThen L.rainOtherEdge h
  | haltAssert => exact L.ifThen L.haltOn h
  | haltRelease => exact L.ifThen L.haltOff h
  | weighRecordBegin => exact L.whileRunning (fun p => L.lineChar p _) h
  | weighRecord => exact L.whileRunning (L.lineChars _) h
  | weighDiscard => exact L.whileRunning (L.lineChars _) h
  | loaderTurn => exact L.whileRunning L.loaderTurn h
  | probe => exact L.whileRunning L.probeTurn h
  | clearAllExchange => exact L.whileRunning L.clearAllBegins h
  | answerTimeout => exact L.whileRunning L.answerTimeout h

/-- Every step keeps a relation that the operations of the part keep. -/
theorem step (L : StepLaw R) (h : Machine.step s = .next t) : R s.part t.part := by
  unfold Machine.step at h
  split at h
  · obtain rfl := Host.Outcome.next.inj h
    exact L.refl _
  · next c rest _ => exact L.exec (s := { s with pending := rest }) h

end Part.StepLaw

end Sys2Proof.Machine
end

section
/-! SUPPORT. The invariant of the part is kept: by the operations that write nothing it speaks of, by the SET
requests, the store and the clock, by the receivers and the reply buffers. -/

namespace Sys2Proof.Machine

/-! ### What the invariant does not read -/

/-- Only the yard, the drying deadline, the arming record and the closing mark of the host link may differ:
nothing of which the invariant of the part speaks. -/
def Part.Plain (p q : Part) : Prop :=
  ∃ (y : Yard) (d : Option Nat) (a : Option Arming) (c : Bool),
    q = { p with
      yard := y
      weather := { p.weather with deadline := d }
      weigh := { p.weigh with arming := a }
      host := { p.host with closing := c } }

theorem Part.Plain.trans {p q r : Part} (h : p.Plain q) (k : q.Plain r) : p.Plain r := by
  obtain ⟨_, _, _, _, rfl⟩ := h
  obtain ⟨y, d, a, c, rfl⟩ := k
  exact ⟨y, d, a, c, rfl⟩

theorem Part.Plain.refl (p : Part) : p.Plain p := ⟨_, _, _, _, rfl⟩

theorem Part.plain_yard (p : Part) (y : Yard) : p.Plain { p with yard := y } := ⟨y, _, _, _, rfl⟩

theorem Part.plain_doAct (p : Part) (f : Env → Act → Act) : p.Plain (p.doAct f) := p.plain_yard _

theorem Part.plain_dryingExpiry (p : Part) : p.Plain p.dryingExpiry := ⟨_, _, _, _, rfl⟩

theorem Part.plain_weighExpiry (p : Part) : p.Plain p.weighExpiry := ⟨_, _, _, _, rfl⟩

theorem Part.plain_stockExpiries (fuel : Nat) (p : Part) : p.Plain (Part.stockExpiries fuel p) := by
  induction fuel generalizing p with
  | zero => exact .refl p
  | succ fuel ih =>
    unfold Part.stockExpiries
    split
    · exact (p.plain_doAct _).trans (ih _)
    · exact .refl p

theorem Part.plain_expireAll (p : Part) : p.Plain p.expireAll := by
  have drying : p.Plain (if due p.clock p.weather.deadline then p.dryingExpiry else p) := by
    split
    · exact p.plain_dryingExpiry
    · exact .refl p
  refine drying.trans ?_
  unfold Part.expireAll
  simp only
  generalize (if due p.clock p.weather.deadline then p.dryingExpiry else p) = q
  have weighing : q.Plain (if due q.clock (q.weigh.arming.map Arming.deadline) then q.weighExpiry
      else q) := by
    split
    · exact q.plain_weighExpiry
    · exact .refl q
  exact weighing.trans (Part.plain_stockExpiries _ _)

theorem Part.Plain.occupied {p q : Part} (h : p.Plain q) : q.host.occupied = p.host.occupied := by
  obtain ⟨_, _, _, _, rfl⟩ := h
  rfl

theorem Part.Inv.plain {p q : Part} (h : p.Inv) (k : p.Plain q) : q.Inv := by
  obtain ⟨_, _, _, _, rfl⟩ := k
  exact { h with }

theorem Part.Inv.withYard {p : Part} (h : p.Inv) (y : Yard) : Part.Inv { p with yard := y } := { h with }

theorem Part.Inv.withSettings {p : Part} (h : p.Inv) {s : Settings} (hs : s.inRange = true)
    (hw : s.weather = p.settings.weather) : Part.Inv { p with settings := s } :=
  { h with settings := hs, prescale := by simpa only [hw] using h.prescale }

theorem Part.Inv.withHost {p : Part} (h : p.Inv) {l : HostLink} (hin : l.inbound.length ≤ 2)
    (hocc : l.occupied ≤ 2) : Part.Inv { p with host := l } :=
  { h with inbound := hin, buffers := hocc }

/-! ### Ranges of the settings -/

theorem Settings.inRange_iff (s : Settings) : s.inRange = true ↔
    (∀ w ∈ s.windows.toList, w.inRange = true) ∧ (∀ z ∈ s.laneZones.toList, z ≤ 3)
    ∧ (∀ d ∈ s.densities.toList, densityInRange d = true) ∧ s.weather.inRange = true
    ∧ s.planning.inRange = true ∧ s.link.inRange = true ∧ s.weighing.inRange = true := by
  simp only [Settings.inRange, Bool.and_eq_true, List.all_eq_true, decide_eq_true_eq, and_assoc]

theorem trimsInRange_iff (t : Vector Nat 8) :
    trimsInRange t = true ↔ ∀ k ∈ t.toList, trimInRange k = true := by
  simp only [trimsInRange, List.all_eq_true]

/-- An element of a vector with one place written is the value written, or was there before. -/
theorem Vector.mem_toList_setIfInBounds {α : Type} {n : Nat} {v : Vector α n} {i : Nat} {a b : α}
    (h : b ∈ (v.setIfInBounds i a).toList) : b = a ∨ b ∈ v.toList := by
  rw [Vector.toList_setIfInBounds] at h
  exact (List.mem_or_eq_of_mem_set h).symm

theorem WeatherSettings.prescale_pos {w : WeatherSettings} (h : w.inRange = true) : 0 < w.prescale := by
  simp only [WeatherSettings.inRange, Bool.and_eq_true, List.contains_eq_mem, decide_eq_true_eq,
    List.mem_cons, List.not_mem_nil, or_false] at h
  omega

theorem Settings.factory_inRange : Settings.factory.inRange = true := by decide

theorem factoryTrims_inRange : trimsInRange factoryTrims = true := by decide

/-! ### The SET requests -/

theorem windowOf?_inRange {a : WindowArgs} {w : Window} (h : windowOf? a = some w) :
    w.inRange = true := by
  unfold windowOf? at h
  split at h
  · split at h
    · next hr =>
      obtain rfl := Option.some.inj h
      exact hr.2.2.2
    · cases h
  · cases h

theorem zonesOf?_inRange {a : ZoningArgs} {m : ZoningMode} {z : Vector Nat 6}
    (h : zonesOf? a = some (m, z)) : ∀ k ∈ z.toList, k ≤ 3 := by
  unfold zonesOf? at h
  simp only at h
  split at h
  · split at h
    · next hz =>
      obtain ⟨rfl, rfl⟩ := Prod.mk.inj (Option.some.inj h)
      simpa only [List.all_eq_true, decide_eq_true_eq] using hz
    · cases h
  · cases h

theorem weatherOf?_inRange {a : WeatherArgs} {w : WeatherSettings} (h : weatherOf? a = some w) :
    w.inRange = true := by
  unfold weatherOf? at h
  split at h
  · simp only at h
    split at h
    · next hr => obtain rfl := Option.some.inj h; exact hr
    · cases h
  · cases h

theorem planningOf?_inRange {a : PlanningArgs} {q : PlanningSettings} (h : planningOf? a = some q) :
    q.inRange = true := by
  unfold planningOf? at h
  split at h
  · simp only at h
    split at h
    · next hr => obtain rfl := Option.some.inj h; exact hr
    · cases h
  · cases h

theorem weighingOf?_inRange {a : WeighingArgs} {w : WeighSettings} (h : weighingOf? a = some w) :
    w.inRange = true := by
  unfold weighingOf? at h
  split at h
  · simp only at h
    split at h
    · next hr => obtain rfl := Option.some.inj h; exact hr
    · cases h
  · cases h

theorem Part.Inv.setWeather {p : Part} (h : p.Inv) {w : WeatherSettings} (hw : w.inRange = true) :
    (p.setWeather w).Inv := by
  obtain ⟨hwin, hz, hd, -, hp, hl, hg⟩ := (Settings.inRange_iff _).mp h.settings
  refine { h with
    settings := (Settings.inRange_iff _).mpr ⟨hwin, hz, hd, hw, hp, hl, hg⟩
    prescale := ?_ }
  show (if w.edge = p.settings.weather.edge ∧ w.prescale = p.settings.weather.prescale then
    p.weather.prescaleCount else 0) < w.prescale
  split
  · next hsame => rw [hsame.2]; exact h.prescale
  · exact WeatherSettings.prescale_pos hw

theorem Part.Inv.setPlanningTo {p : Part} (h : p.Inv) {q : PlanningSettings} (hq : q.inRange = true) :
    (p.setPlanningTo q).Inv := by
  obtain ⟨hwin, hz, hd, hw, -, hl, hg⟩ := (Settings.inRange_iff _).mp h.settings
  have set : Part.Inv { p with settings := { p.settings with planning := q } } :=
    h.withSettings ((Settings.inRange_iff _).mpr ⟨hwin, hz, hd, hw, hq, hl, hg⟩) rfl
  unfold Part.setPlanningTo
  simp only
  split
  · exact set
  · exact set.withYard _

theorem Part.Inv.setWeighingTo {p : Part} (h : p.Inv) {w : WeighSettings} (hw : w.inRange = true) :
    (p.setWeighingTo w).Inv := by
  obtain ⟨hwin, hz, hd, hwe, hp, hl, -⟩ := (Settings.inRange_iff _).mp h.settings
  have set : Part.Inv { p with settings := { p.settings with weighing := w } } :=
    h.withSettings ((Settings.inRange_iff _).mpr ⟨hwin, hz, hd, hwe, hp, hl, hw⟩) rfl
  unfold Part.setWeighingTo
  simp only
  split
  · exact set
  · exact { set with receiver := rfl }

theorem Part.Inv.recallCopy {p : Part} (h : p.Inv) : p.recallCopy.Inv := by
  obtain ⟨swin, sz, sd, sw, sp, sl, sg⟩ := (Settings.inRange_iff _).mp h.stored
  obtain ⟨-, hz, -, hw, hp, -, hg⟩ := (Settings.inRange_iff _).mp h.settings
  have planning : p.recalledPlanning.inRange = true := by
    unfold Part.recalledPlanning
    split
    · simp only [PlanningSettings.inRange, Bool.and_eq_true, decide_eq_true_eq] at sp hp ⊢
      exact ⟨sp.1, hp.2⟩
    · exact sp
  have zones : ∀ z ∈ (if p.keepsZoning then p.settings.laneZones else
      p.store.settings.laneZones).toList, z ≤ 3 := by
    split
    · exact hz
    · exact sz
  have plain : Part.Inv ({ p with flight := .recall }).recallPlain :=
    { h with
      settings := (Settings.inRange_iff _).mpr ⟨swin, zones, sd, hw, hp, sl, hg⟩
      trims := h.storedTrims
      flight := rfl }
  exact ((plain.setWeather sw).setWeighingTo sg).setPlanningTo planning

/-! ### Every request -/

/-- The outcome of a request keeps the invariant and the number of occupied reply buffers. -/
def Part.OutcomeInv (p : Part) (o : Part × Response) : Prop :=
  o.1.host.occupied = p.host.occupied ∧ (p.Inv → o.1.Inv)

theorem Part.Plain.outcome {p : Part} {o : Part × Response} (h : p.Plain o.1) : p.OutcomeInv o :=
  ⟨h.occupied, fun hp => hp.plain h⟩

theorem Part.outcome_refuse (p : Part) (r : Result) : p.OutcomeInv (p.refuse r) := ⟨rfl, id⟩

theorem Part.outcome_setWindow (p : Part) (a : WindowArgs) : p.OutcomeInv (p.setWindow a) := by
  unfold Part.setWindow
  split
  · exact p.outcome_refuse _
  · next w hw =>
    split
    · exact p.outcome_refuse _
    · refine ⟨rfl, fun h => ?_⟩
      obtain ⟨hwin, rest⟩ := (Settings.inRange_iff _).mp h.settings
      have range : (p.settings.putWindow a.window w).inRange = true := by
        refine (Settings.inRange_iff _).mpr ⟨fun v hv => ?_, rest⟩
        rcases Vector.mem_toList_setIfInBounds hv with rfl | hv
        · exact windowOf?_inRange hw
        · exact hwin v hv
      exact (h.withSettings range rfl).withYard _

theorem Part.outcome_setZoning (p : Part) (a : ZoningArgs) : p.OutcomeInv (p.setZoning a) := by
  unfold Part.setZoning
  split
  · exact p.outcome_refuse _
  · next m z hz =>
    split
    · exact p.outcome_refuse _
    · refine ⟨rfl, fun h => h.withSettings ?_ rfl⟩
      obtain ⟨hwin, -, rest⟩ := (Settings.inRange_iff _).mp h.settings
      exact (Settings.inRange_iff _).mpr ⟨hwin, zonesOf?_inRange hz, rest⟩

theorem Part.outcome_setSpecies (p : Part) (sp d t : Nat) : p.OutcomeInv (p.setSpecies sp d t) := by
  unfold Part.setSpecies
  split
  · exact p.outcome_refuse _
  · next hr =>
    simp only [Classical.not_not] at hr
    obtain ⟨-, hd, ht⟩ := hr
    split
    · exact p.outcome_refuse _
    · refine ⟨rfl, fun h => ?_⟩
      obtain ⟨hwin, hz, hden, rest⟩ := (Settings.inRange_iff _).mp h.settings
      have density : Part.Inv { p with settings :=
          { p.settings with densities := p.settings.densities.setIfInBounds sp d } } := by
        refine h.withSettings ((Settings.inRange_iff _).mpr ⟨hwin, hz, fun k hk => ?_, rest⟩) rfl
        rcases Vector.mem_toList_setIfInBounds hk with rfl | hk
        · exact hd
        · exact hden k hk
      refine { density with trims := ?_ }
      show trimsInRange (if keepTrim t then p.trims else p.trims.setIfInBounds sp t) = true
      split
      · exact h.trims
      · next hkeep =>
        refine (trimsInRange_iff _).mpr fun k hk => ?_
        rcases Vector.mem_toList_setIfInBounds hk with rfl | hk
        · exact ht.resolve_left hkeep
        · exact (trimsInRange_iff _).mp h.trims k hk

theorem Part.outcome_setWeather (p : Part) (a : WeatherArgs) :
    p.OutcomeInv (p.setWeatherRequest a) := by
  unfold Part.setWeatherRequest
  split
  · exact p.outcome_refuse _
  · next w hw =>
    split
    · exact p.outcome_refuse _
    · exact ⟨rfl, fun h => h.setWeather (weatherOf?_inRange hw)⟩

theorem Part.setPlanningTo_host (p : Part) (q : PlanningSettings) :
    (p.setPlanningTo q).host = p.host := by
  unfold Part.setPlanningTo
  simp only
  split <;> rfl

theorem Part.outcome_setPlanning (p : Part) (a : PlanningArgs) : p.OutcomeInv (p.setPlanning a) := by
  unfold Part.setPlanning
  split
  · exact p.outcome_refuse _
  · next q hq =>
    split
    · exact p.outcome_refuse _
    · exact ⟨by rw [Part.setPlanningTo_host], fun h => h.setPlanningTo (planningOf?_inRange hq)⟩

theorem Part.outcome_setLoaderLink (p : Part) (t r i : Nat) : p.OutcomeInv (p.setLoaderLink t r i) := by
  unfold Part.setLoaderLink
  simp only
  split
  · exact p.outcome_refuse _
  · next hl =>
    split
    · exact p.outcome_refuse _
    · refine ⟨rfl, fun h => h.withSettings ?_ rfl⟩
      obtain ⟨hwin, hz, hd, hw, hp, -, hg⟩ := (Settings.inRange_iff _).mp h.settings
      exact (Settings.inRange_iff _).mpr ⟨hwin, hz, hd, hw, hp, Classical.not_not.mp hl, hg⟩

theorem Part.outcome_setWeighing (p : Part) (a : WeighingArgs) : p.OutcomeInv (p.setWeighing a) := by
  unfold Part.setWeighing
  split
  · exact p.outcome_refuse _
  · next w hw =>
    split
    · exact p.outcome_refuse _
    · exact ⟨rfl, fun h => h.setWeighingTo (weighingOf?_inRange hw)⟩

theorem Part.outcome_setEventMask (p : Part) (m : Nat) : p.OutcomeInv (p.setEventMask m) := by
  unfold Part.setEventMask
  split
  · exact p.outcome_refuse _
  · split
    · exact p.outcome_refuse _
    · exact ⟨rfl, fun h => h.withSettings h.settings rfl⟩

theorem Part.outcome_storeSettings (p : Part) : p.OutcomeInv p.storeSettings := by
  unfold Part.storeSettings
  split
  · exact p.outcome_refuse _
  · refine ⟨rfl, fun h => { h with flight := ?_ }⟩
    simp only [Flight.inRange, h.settings, h.trims, Bool.and_self]

theorem Part.outcome_recallSettings (p : Part) : p.OutcomeInv p.recallSettings := by
  unfold Part.recallSettings
  split
  · exact p.outcome_refuse _
  · split
    · exact p.outcome_refuse _
    · exact ⟨by rw [Part.recallCopy, Part.setPlanningTo_host]; rfl, fun h => h.recallCopy⟩

theorem Part.outcome_setClock (p : Part) (c : Nat) : p.OutcomeInv (p.setClock c) := by
  unfold Part.setClock
  split
  · exact p.outcome_refuse _
  · next hc =>
    refine ⟨Part.Plain.occupied (p := { p with clock := c }) (Part.plain_expireAll _), fun h => ?_⟩
    have clock : Part.Inv { p with clock := c } := { h with clock := Nat.not_lt.mp hc }
    exact clock.plain (Part.plain_expireAll _)

/-- R159: every request keeps the invariant. Those that carry no setting and no time write the yard, the
arming record or the closing mark alone, in each of their branches. -/
theorem Part.outcome_perform (p : Part) (r : Request) : p.OutcomeInv (p.perform r) := by
  cases r with
  | setWindow a => exact p.outcome_setWindow a
  | setZoning a => exact p.outcome_setZoning a
  | setSpecies sp d t => exact p.outcome_setSpecies sp d t
  | setWeather a => exact p.outcome_setWeather a
  | setPlanning a => exact p.outcome_setPlanning a
  | setLoaderLink t r i => exact p.outcome_setLoaderLink t r i
  | setWeighing a => exact p.outcome_setWeighing a
  | setEventMask m => exact p.outcome_setEventMask m
  | storeSettings => exact p.outcome_storeSettings
  | recallSettings => exact p.outcome_recallSettings
  | setClock c => exact p.outcome_setClock c
  | readWeighbridge => exact ⟨rfl, fun h => { h with discards := Nat.zero_le _ }⟩
  | readSettings | readClock | identify | listTrucks | readLanes | readText | restart =>
    exact Part.Plain.outcome ⟨_, _, _, _, rfl⟩
  | registerPack | removePack | holdPack | releasePack | locatePack | readPack | readBay
  | announceTruck | cancelTruck | pauseTruck | resumeTruck | departTruck | readTruck | openLane
  | closeLane | enrollLoader | retireLoader | readLoader | weighIn | weighOut | abortWeighing
  | readEvents | runAudit =>
    refine Part.Plain.outcome ?_
    simp only [Part.perform, Part.registerPack, Part.removePack, Part.holdPack, Part.releasePack,
      Part.locatePack, Part.locateDoubt, Part.readPack, Part.readBay, Part.announceTruck,
      Part.cancelTruck, Part.pauseTruck, Part.resumeTruck, Part.departTruck, Part.readTruck,
      Part.openLane, Part.closeLane, Part.enrollLoader, Part.retireLoader, Part.readLoader,
      Part.weighIn, Part.weighOut, Part.arm, Part.abortWeighing, Part.readEvents, Part.runAudit]
    repeat' split
    all_goals exact ⟨_, _, _, _, rfl⟩

/-! ### Reply buffers -/

theorem holderOf_ne_refusal (kind : Byte) (r : Result) : holderOf kind r ≠ .refusal := by
  unfold holderOf
  split <;> simp

/-- R160: a taken request occupies one reply buffer more. -/
theorem HostLink.occupied_respond (h : HostLink) (kind seq : Byte) (check : Bool) (r : Response) :
    (h.respond kind seq check r).occupied = h.occupied + 1 := by
  cases r with
  | reply res body =>
    simp [HostLink.respond, HostLink.putReady, HostLink.occupied, ReadyReply.inBuffer,
      holderOf_ne_refusal]
    omega
  | awaitEnroll t =>
    simp only [HostLink.respond, HostLink.occupied, List.length_append, List.length_cons,
      List.length_nil]
    omega
  | awaitRecall k =>
    simp only [HostLink.respond, HostLink.occupied, List.length_append, List.length_cons,
      List.length_nil]
    omega

theorem HostLink.inbound_respond (h : HostLink) (kind seq : Byte) (check : Bool) (r : Response) :
    (h.respond kind seq check r).inbound = h.inbound := by
  cases r <;> rfl

theorem HostLink.occupied_of_canTake {h : HostLink} (hc : h.canTake = true) : h.occupied < 2 := by
  simp only [HostLink.canTake, Bool.and_eq_true, decide_eq_true_eq] at hc
  exact hc.1

theorem Part.Inv.answer {p : Part} {o : Part × Response} (h : p.Inv) (ho : p.OutcomeInv o)
    (hc : p.host.canTake = true) (kind seq : Byte) (check : Bool) :
    (Part.answer o kind seq check).Inv := by
  refine (ho.2 h).withHost ?_ ?_
  · rw [HostLink.inbound_respond]
    exact (ho.2 h).inbound
  · rw [HostLink.occupied_respond, ho.1]
    exact HostLink.occupied_of_canTake hc

/-- R158: a FULL reply in the refusal slot occupies no reply buffer. -/
theorem HostLink.occupied_full (h : HostLink) (f : Frame) :
    (h.putReady (fullReply f)).occupied = h.occupied := by
  simp [HostLink.occupied, HostLink.putReady, ReadyReply.inBuffer, fullReply]

/-- R126, R160: a waiting reply that becomes ready stays in its buffer. -/
theorem HostLink.occupied_waitOver (h : HostLink) (w : Wait) (body : List Byte) :
    (h.waitOver w body).occupied = h.occupied := by
  have split : (h.awaiting.filter fun a => !decide (a.what = w)).length
      + (h.awaiting.filter fun a => decide (a.what = w)).length = h.awaiting.length := by
    have := List.length_eq_length_filter_add (l := h.awaiting) fun a => decide (a.what = w)
    omega
  have ready : ∀ l : List Awaiting, ((l.map fun a : Awaiting =>
      ({ reply := { kind := a.kind + 128#8, seq := a.seq, result := .ok, body := body,
                    check := a.check }
         holder := .buffer } : ReadyReply)).filter ReadyReply.inBuffer).length = l.length := by
    intro l
    rw [List.filter_eq_self.mpr, List.length_map]
    simp [ReadyReply.inBuffer]
  simp only [HostLink.waitOver, HostLink.occupied, List.filter_append, List.length_append, ready]
  omega

theorem HostLink.occupied_recallOver (h : HostLink) : h.recallOver.occupied = h.occupied := by
  unfold HostLink.recallOver
  split
  · exact h.occupied_waitOver _ _
  · rfl

/-- R160: a ready reply that begins to leave keeps its buffer. -/
theorem HostLink.occupied_start (h : HostLink) (hrdy : Bool) :
    (h.start hrdy).occupied = h.occupied := by
  unfold HostLink.start
  simp only
  split
  · next r rest hl hr =>
    split
    · simp only [HostLink.occupied, hl, hr, Option.toList, List.filter_cons, List.filter_nil]
      split
      · simp only [List.length_cons, List.length_nil]; omega
      · rfl
    · rfl
  · rfl

theorem HostLink.inbound_start (h : HostLink) (hrdy : Bool) : (h.start hrdy).inbound = h.inbound := by
  unfold HostLink.start
  simp only
  split
  · split <;> rfl
  · rfl

/-- R160: a reply that has left frees its buffer. -/
theorem HostLink.occupied_sent (h : HostLink) (r : ReadyReply) :
    (h.sent r).occupied ≤ h.occupied := by
  simp [HostLink.sent, HostLink.occupied]

/-! ### The receivers, the weighbridge and the restart -/

theorem Part.Inv.withWeigh {p : Part} (h : p.Inv) {w : WeighUnit} (hd : w.discards ≤ 255)
    (hr : w.receiver.inRange = true) : Part.Inv { p with weigh := w } :=
  { h with discards := hd, receiver := hr }

theorem Part.Inv.discard {p : Part} (h : p.Inv) : p.discard.Inv :=
  { h with discards := Nat.min_le_left .., receiver := rfl }

theorem trimAfter_inRange (trim : Nat) (e : Int) : trimInRange (trimAfter trim e) = true := by
  unfold trimInRange within trimAfter
  rw [Bool.and_eq_true]
  exact ⟨decide_eq_true (by omega), decide_eq_true (by omega)⟩

theorem Part.Inv.learn {p : Part} (h : p.Inv) (n front rear : Nat) : (p.learn n front rear).Inv := by
  unfold Part.learn
  split
  · next t _ =>
    split
    · exact h
    · refine { h with trims := ?_ }
      show trimsInRange (p.trimsAfter t front rear) = true
      unfold Part.trimsAfter
      simp only
      split
      · exact h.trims
      · split
        · refine (trimsInRange_iff _).mpr fun k hk => ?_
          rcases Vector.mem_toList_setIfInBounds hk with rfl | hk
          · exact trimAfter_inRange _ _
          · exact (trimsInRange_iff _).mp h.trims k hk
        · exact h.trims
  · exact h

theorem Part.Inv.weighed {p : Part} (h : p.Inv) (a : Arming) (front rear : Nat) :
    (p.weighed a front rear).Inv := by
  have dropped : Part.Inv { p with weigh := { p.weigh with arming := none } } :=
    h.withWeigh h.discards h.receiver
  unfold Part.weighed
  simp only
  split
  · exact dropped.withYard _
  · exact (dropped.learn a.truck front rear).withYard _

theorem Part.Inv.handReading {p : Part} (h : p.Inv) (deck value : Nat) :
    (p.handReading deck value).Inv := by
  unfold Part.handReading
  split
  · exact h
  · simp only
    split
    · exact h.weighed _ _ _
    · exact h.withWeigh h.discards h.receiver

theorem Part.Inv.recordEnds {p : Part} (h : p.Inv) (chars : List Nat) : (p.recordEnds chars).Inv := by
  unfold Part.recordEnds
  split
  · exact h.discard
  · next deck raw stable _ =>
    have last : ∀ r, Part.Inv { p with weigh :=
        ({ p.weigh with receiver := .hunting }).putLast deck r } := by
      intro r
      unfold WeighUnit.putLast
      split <;> exact h.withWeigh h.discards rfl
    simp only
    split
    · exact (last _).handReading _ _
    · exact last _

theorem Part.Inv.lineChar {p : Part} (h : p.Inv) (c : LineChar) : (p.lineChar c).Inv := by
  unfold Part.lineChar
  simp only
  split
  · split
    · exact h.withWeigh h.discards (by rfl)
    · exact h
  · next chars hchars =>
    split
    · exact h.discard
    · split
      · exact h.recordEnds chars
      · split
        · exact h.discard
        · next hlen =>
          refine h.withWeigh h.discards ?_
          simp only [LineReceiver.inRange, within, List.length_append, List.length_cons,
            List.length_nil, Bool.and_eq_true, decide_eq_true_eq]
          omega

theorem Part.Inv.rainPulse {p : Part} (h : p.Inv) : p.rainPulse.Inv := by
  have := h.prescale
  unfold Part.rainPulse
  simp only
  split
  · exact { h with prescale := by show 0 < p.settings.weather.prescale; omega }
  · exact { h with prescale := by show p.weather.prescaleCount + 1 < p.settings.weather.prescale; omega }

theorem Part.Inv.storeEnds {p : Part} (h : p.Inv) (agrees : Bool) : (p.storeEnds agrees).Inv := by
  unfold Part.storeEnds
  split
  · next s t hf =>
    have hflight := h.flight
    simp only [hf, Flight.inRange, Bool.and_eq_true] at hflight
    exact { h with stored := hflight.1, storedTrims := hflight.2, flight := rfl }
  · exact h

theorem Part.Inv.recallEnds {p : Part} (h : p.Inv) : p.recallEnds.Inv := by
  unfold Part.recallEnds
  split
  · refine { h with flight := rfl, inbound := ?_, buffers := ?_ }
    · show p.host.recallOver.inbound.length ≤ 2
      unfold HostLink.recallOver
      split <;> exact h.inbound
    · show p.host.recallOver.occupied ≤ 2
      rw [HostLink.occupied_recallOver]
      exact h.buffers
  · exact h

theorem Part.Inv.enrollEnds {p : Part} (h : p.Inv) (x : Exchange) : (p.enrollEnds x).Inv := by
  unfold Part.enrollEnds
  split
  · refine h.withHost h.inbound ?_
    rw [HostLink.occupied_waitOver]
    exact h.buffers
  · exact h

theorem Part.Inv.answered {p : Part} (h : p.Inv) (terminal : Nat) (ans : Answer) :
    (p.answered terminal ans).Inv := by
  have late : (p.lateAnswer terminal ans).Inv := by
    unfold Part.lateAnswer
    simp only
    split <;> exact h.withYard _
  unfold Part.answered
  split
  · split
    · exact (h.withYard _).enrollEnds _
    · split
      · exact late
      · exact h
  · split
    · exact late
    · exact h

theorem Part.Inv.answerTimeout {p : Part} (h : p.Inv) : p.answerTimeout.Inv := by
  unfold Part.answerTimeout Part.notAnswered
  split
  · exact h.withYard _
  · split
    · exact h.withYard _
    · exact (h.withYard _).enrollEnds _

theorem Part.Inv.restart {p : Part} (h : p.Inv) (pins : Pins) : (p.restart pins).Inv := by
  have volatile : p.clearVolatile.Inv :=
    { h with
      flight := rfl
      prescale := Nat.lt_of_le_of_lt (Nat.zero_le _) h.prescale
      discards := Nat.zero_le _
      receiver := rfl
      inbound := Nat.zero_le _
      buffers := Nat.zero_le _ }
  have loaded : p.clearVolatile.loadSettings.Inv := by
    unfold Part.loadSettings
    split
    · exact { volatile with
        settings := volatile.stored
        prescale := WeatherSettings.prescale_pos ((Settings.inRange_iff _).mp volatile.stored).2.2.2.1 }
    · exact { volatile with
        settings := Settings.factory_inRange
        trims := factoryTrims_inRange
        prescale := by show 0 < Settings.factory.weather.prescale; decide }
  have cleared : ∀ q : Part, q.Inv → q.clearTables.Inv := by
    intro q hq
    refine { hq with trims := ?_ }
    show trimsInRange q.clearedTrims = true
    unfold Part.clearedTrims
    split
    · exact hq.storedTrims
    · exact factoryTrims_inRange
  unfold Part.restart
  simp only
  generalize p.clearVolatile.loadSettings = q at loaded
  have audited : (if q.power.latch then q.retainLost else q.restartAudit).Inv := by
    split
    · exact { cleared q loaded with clock := Nat.zero_le _ }
    · unfold Part.restartAudit
      split
      · exact { cleared q loaded with }
      · exact { loaded with }
  generalize (if q.power.latch then q.retainLost else q.restartAudit) = r at audited
  unfold Part.takePins
  simp only
  split <;> exact { audited with inbound := Nat.zero_le _, buffers := Nat.zero_le _ }

theorem tick_le (c : Nat) : tick c ≤ Config.clockTop := by
  unfold tick
  split <;> omega

/-- The invariant of the part is kept by every operation that a row is made of. -/
theorem Part.inv_stepLaw : Part.StepLaw fun p q => p.Inv → q.Inv where
  refl _ := id
  trans h k := k ∘ h
  perform p r kind seq check hc h := h.answer (p.outcome_perform r) hc kind seq check
  refuse p res kind seq check hc h := h.answer (p.outcome_refuse res) hc kind seq check
  stored p f hlen h := h.withHost (by simp; omega) h.buffers
  unstored p f rest hin h := by
    have := h.inbound
    rw [hin, List.length_cons] at this
    exact h.withHost (Nat.le_of_succ_le this) h.buffers
  full p f h := h.withHost h.inbound (by rw [HostLink.occupied_full]; exact h.buffers)
  linkError p h := h.withYard _
  receiver p r h := h.withHost h.inbound h.buffers
  started p hrdy h := h.withHost (by rw [HostLink.inbound_start]; exact h.inbound)
    (by rw [HostLink.occupied_start]; exact h.buffers)
  sent p r hl h := h.withHost h.inbound (Nat.le_trans (HostLink.occupied_sent _ r) h.buffers)
  power p w h := { h with }
  flightEnds p h := { h with flight := rfl }
  restart p pins h := h.restart pins
  storeEnds p agrees h := h.storeEnds agrees
  recallEnds p h := h.recallEnds
  clock p h := { h with clock := tick_le _ }
  dryingExpiry p h := h.plain p.plain_dryingExpiry
  stockExpiry p n _ h := h.withYard _
  weighExpiry p h := h.plain p.plain_weighExpiry
  rainPulse p h := h.rainPulse
  rainOtherEdge p h := { h with }
  haltOn p h := { h with }
  haltOff p h := { h with }
  lineChar p c h := h.lineChar c
  loaderTurn p h := by
    unfold Part.loaderTurn
    split
    · exact h.withYard _
    · exact h
  probeTurn p h := by
    unfold Part.probeTurn
    split
    · exact h.withYard _
    · exact h
  clearAllBegins p h := by
    unfold Part.clearAllBegins
    split
    · exact h.withYard _
    · exact h
  answerTimeout p h := h.answerTimeout
  answered p terminal ans h := h.answered terminal ans

/-- Settles O11, by the induction over the operations of a step (Part.StepLaw). -/
theorem stepKeepsInv : Obligations.StepKeepsInv := by
  intro s t h hs
  exact Part.inv_stepLaw.step hs h

end Sys2Proof.Machine
end

section
/-! SUPPORT. What the job list, the allocator and the placement unit can write, said once: every operation of
theirs is a sequence of the writes of Yard.Settles. -/

namespace Sys2Proof.Machine

/-- What the lane records read of a truck: its number, its lane and its state. -/
structure Dock where
  number : Nat
  lane : Option Nat
  state : TruckState

def Truck.dock (t : Truck) : Dock := { number := t.number, lane := t.lane, state := t.state }

/-- The docks of the truck table, in table index order. -/
def Yard.docks (y : Yard) : List Dock := y.trucks.entries.map fun en => en.2.dock

/-- A job changed by the job list: its move number stays or is made absent, and its state stays, is one that
is judged, or is SUSPENDED. -/
def Job.settlesTo (j k : Job) : Prop :=
  (k.move = j.move ∨ k.move = none)
    ∧ (k.state = j.state ∨ k.state.judged = true ∨ k.state = .suspended)

/-- R108: a job as it is created. -/
def Job.fresh (work : JobWork) (tag : Nat) : Job :=
  { work := work, tag := tag, state := .waiting, bound := none, move := none }

/-- A sequence of the writes that the job list, the allocator and the placement unit make. Where `free` is
false no truck changes its number, its lane or its state, and no lane record changes. -/
inductive Yard.Settles (free : Bool) : Yard → Yard → Prop
  | refl (y) : Settles free y y
  | trans {y z w} : Settles free y z → Settles free z w → Settles free y w
  | pack (y : Yard) (tag : Nat) (f : Pack → Pack) : Settles free y (y.modifyPack tag f)
  | job (y : Yard) (n : Nat) (f : Job → Job) (h : ∀ j : Job, j.settlesTo (f j)) :
      Settles free y (y.modifyJob n f)
  | newJob (y : Yard) (n : Nat) (work : JobWork) (tag : Nat)
      (h : y.jobs.lowestFree Config.maxJobs = some n) :
      Settles free y { y with jobs := y.jobs.put n (Job.fresh work tag) }
  | dropJob (y : Yard) (n : Nat) : Settles free y { y with jobs := y.jobs.drop n }
  | queues (y : Yard) (q : Vector (List Nat) 4) : Settles free y { y with queues := q }
  | flag (y : Yard) (e : Event) : Settles free y (y.raise e)
  | truck (y : Yard) (n : Nat) (f : Truck → Truck) (number : ∀ t, (f t).number = t.number)
      (dock : free = true ∨ ∀ t, (f t).dock = t.dock) : Settles free y (y.modifyTruck n f)
  | lane (y : Yard) (l : Nat) (f : Lane → Lane) (h : free = true) : Settles free y (y.modifyLane l f)

namespace Yard.Settles

variable {free : Bool}

/-- A truck change that keeps number, lane and state. -/
theorem quiet (y : Yard) (n : Nat) {f : Truck → Truck} (h : ∀ t, (f t).dock = t.dock) :
    Settles free y (y.modifyTruck n f) :=
  .truck y n f (fun t => congrArg Dock.number (h t)) (.inr h)

theorem foldl {β : Type} {f : Act → β → Act} (hf : ∀ a b, Settles free a.yard (f a b).yard)
    (l : List β) (a : Act) : Settles free a.yard (l.foldl f a).yard := by
  induction l generalizing a with
  | nil => exact .refl _
  | cons b rest ih => exact (hf a b).trans (ih _)

end Yard.Settles

/-! ### Trucks and lines -/

theorem Truck.dock_modifyLine (t : Truck) (line : Nat) (f : OrderLine → OrderLine) :
    (t.modifyLine line f).dock = t.dock := by
  unfold Truck.modifyLine
  split <;> rfl

theorem Truck.dock_planEntries (es : List Entry) (t : Truck) :
    (es.foldl Truck.planEntry t).dock = t.dock := by
  induction es generalizing t with
  | nil => rfl
  | cons en rest ih => exact (ih _).trans rfl

theorem Truck.dock_vacateForRefill (t : Truck) (r : BedRef) : (t.vacateForRefill r).1.dock = t.dock := by
  unfold Truck.vacateForRefill
  simp only
  split <;> rfl

theorem Yard.settles_modifyStockShort {free : Bool} (y : Yard) (number line : Nat) (f : Nat → Nat) :
    y.Settles free (y.modifyStockShort number line f) :=
  .quiet y number fun t => t.dock_modifyLine line _

theorem Yard.settles_addWeightShort {free : Bool} (y : Yard) (number line : Nat) :
    y.Settles free (y.addWeightShort number line) :=
  .quiet y number fun t => t.dock_modifyLine line _

theorem Yard.settles_takePack {free : Bool} (y : Yard) (number line tag : Nat) :
    y.Settles free (y.takePack number line tag) :=
  (Settles.pack y tag _).trans (.quiet _ number fun t => t.dock_modifyLine line _)

theorem Yard.settles_reserve {free : Bool} (y : Yard) (number line tag : Nat) :
    y.Settles free (y.reserve number line tag) :=
  (y.settles_takePack number line tag).trans (Yard.settles_modifyStockShort _ number line _)

theorem Yard.settles_unassign {free : Bool} (y : Yard) (tag : Nat) :
    y.Settles free (y.unassign tag) := by
  unfold Yard.unassign
  split
  · exact .refl y
  · exact (Settles.pack y tag _).trans (.quiet _ _ fun t => t.dock_modifyLine _ _)

theorem Yard.settles_vacatePlanned {free : Bool} (y : Yard) (number tag : Nat) :
    y.Settles free (y.vacatePlanned number tag) :=
  .quiet y number fun t => by split <;> rfl

/-! ### The job list -/

theorem Yard.settles_unqueue {free : Bool} (y : Yard) (n : Nat) : y.Settles free (y.unqueue n) :=
  .queues y _

theorem Yard.settles_makeReady {free : Bool} (e : Env) (y : Yard) (n : Nat) (j : Job) (st : JobState)
    (bound : Option Nat) (h : st.judged = true) : y.Settles free (y.makeReady e n j st bound) := by
  have write : y.Settles free (y.modifyJob n fun j => { j with state := st, bound := bound }) :=
    .job y n _ fun _ => ⟨.inl rfl, .inr (.inl h)⟩
  unfold Yard.makeReady
  simp only
  split
  · exact write.trans (.queues _ _)
  · exact write

theorem Yard.settles_judge {free : Bool} (e : Env) (y : Yard) (n : Nat) :
    y.Settles free (y.judge e n) := by
  unfold Yard.judge
  split
  · exact .refl y
  · split
    · split
      · exact y.settles_makeReady e n _ _ _ rfl
      · exact y.settles_makeReady e n _ _ _ rfl
      · split
        · exact .refl y
        · exact (y.settles_unqueue n).trans (.job _ n _ fun _ => ⟨.inl rfl, .inr (.inl rfl)⟩)
    · exact .refl y

theorem Yard.settles_judgeAll {free : Bool} (e : Env) (y : Yard) : y.Settles free (y.judgeAll e) := by
  unfold Yard.judgeAll
  generalize y.jobs.keys = l
  induction l generalizing y with
  | nil => exact .refl y
  | cons n rest ih => exact (y.settles_judge e n).trans (ih _)

theorem Act.settles_newJob {free : Bool} (a : Act) (w : JobWork) (tag : Nat) :
    a.yard.Settles free (a.newJob w tag).yard := by
  unfold Act.newJob
  split
  · exact .refl _
  · next n hn => exact (Yard.Settles.newJob _ n w tag hn).trans (.pack _ tag _)

theorem Act.settles_createJob {free : Bool} (a : Act) (w : JobWork) (tag : Nat) :
    a.yard.Settles free (a.createJob w tag).yard := by
  rw [Act.createJob, Act.touchBayOf_yard]
  exact a.settles_newJob w tag

theorem Act.endJob_none {a : Act} {n : Nat} (h : a.yard.job? n = none) : a.endJob n = a := by
  unfold Act.endJob
  rw [h]

/-- R121: what the end of a job leaves of the yard. -/
theorem Act.endJob_yard {a : Act} {n : Nat} {j : Job} (h : a.yard.job? n = some j) :
    (a.endJob n).yard = ({ a.yard.unqueue n with jobs := a.yard.jobs.drop n }).modifyPack j.tag
      fun p => { p with job := none } := by
  unfold Act.endJob
  simp only [h]
  split <;> (simp only [Act.touchBay_yard, Act.touchBayOf_yard]; rfl)

theorem Act.settles_endJob {free : Bool} (a : Act) (n : Nat) :
    a.yard.Settles free (a.endJob n).yard := by
  cases h : a.yard.job? n with
  | none => rw [Act.endJob_none h]; exact .refl _
  | some j =>
    rw [Act.endJob_yard h]
    exact ((a.yard.settles_unqueue n).trans (.dropJob _ n)).trans (.pack _ j.tag _)

theorem Act.settles_endJobOf {free : Bool} (a : Act) (tag : Nat) :
    a.yard.Settles free (a.endJobOf tag).yard := by
  unfold Act.endJobOf
  split
  · exact a.settles_endJob _
  · exact .refl _

theorem Act.settles_jobWaits {free : Bool} (a : Act) (n : Nat) :
    a.yard.Settles free (a.jobWaits n).yard :=
  .job _ n _ fun _ => ⟨.inr rfl, .inr (.inl rfl)⟩

theorem Act.settles_suspendJob {free : Bool} (a : Act) (n : Nat) :
    a.yard.Settles free (a.suspendJob n).yard :=
  (a.yard.settles_unqueue n).trans (.job _ n _ fun _ => ⟨.inr rfl, .inr (.inr rfl)⟩)

theorem Act.settles_clearBay {free : Bool} (a : Act) (b : Nat) :
    a.yard.Settles free (a.clearBay b).yard := by
  unfold Act.clearBay
  refine Yard.Settles.foldl (fun a tag => ?_) _ a
  split
  · exact a.settles_newJob _ _
  · exact .refl _

theorem Act.settles_clearDue {free : Bool} (a : Act) : a.yard.Settles free a.clearDue.yard :=
  Yard.Settles.foldl Act.settles_clearBay a.bays { a with bays := [] }

theorem Act.settles_serveNeeds {free : Bool} (fuel : Nat) (a : Act) :
    a.yard.Settles free (Act.serveNeeds fuel a).yard := by
  induction fuel generalizing a with
  | zero => exact .refl _
  | succ fuel ih =>
    unfold Act.serveNeeds
    split
    · exact .refl _
    · split
      · exact (a.settles_newJob _ _).trans (ih _)
      · exact .refl _

theorem Act.settles_needs {free : Bool} (a : Act) : a.yard.Settles free a.needs.yard := by
  unfold Act.needs
  split
  · exact a.settles_serveNeeds _
  · exact .refl _

theorem Yard.settles_retarget {free : Bool} (y : Yard) (tag slot : Nat) :
    y.Settles free (y.retarget tag slot) := by
  unfold Yard.retarget
  split
  · exact .job y _ _ fun _ => ⟨.inl rfl, .inl rfl⟩
  · exact .refl y

/-! ### Allocation and placement -/

theorem Yard.settles_allocLine {free : Bool} (e : Env) (number line room fuel total : Nat) (y : Yard) :
    y.Settles free (Yard.allocLine e number line room fuel total y).1 := by
  induction fuel generalizing total y with
  | zero => exact .refl y
  | succ fuel ih =>
    unfold Yard.allocLine
    split
    · exact .refl y
    · split
      · exact .refl y
      · exact (y.settles_reserve number line _).trans (ih _ _)

theorem Yard.settles_allocLines {free : Bool} (e : Env) (number room : Nat) (ls : List OrderLine)
    (line total : Nat) (y : Yard) :
    y.Settles free (Yard.allocLines e number room ls line total y) := by
  induction ls generalizing line total y with
  | nil => exact .refl y
  | cons l rest ih =>
    unfold Yard.allocLines
    exact (y.settles_allocLine e number line room _ total).trans (ih _ _ _)

theorem Yard.settles_allocate {free : Bool} (e : Env) (y : Yard) (number : Nat) :
    y.Settles free (y.allocate e number) := by
  unfold Yard.allocate
  split
  · exact .refl y
  · exact y.settles_allocLines ..

theorem Act.settles_releaseForWeight {free : Bool} (a : Act) (tag : Nat) :
    a.yard.Settles free (a.releaseForWeight tag).yard := by
  unfold Act.releaseForWeight
  split
  · exact .refl _
  · exact ((a.yard.settles_unassign tag).trans (Yard.settles_addWeightShort _ _ _)).trans
      (.pack _ tag _)

/-- What a placement does before it sets the truck's state: the plan and the LOAD jobs are written. -/
def Act.planned (a : Act) (number : Nat) (kept : List Entry) : Act :=
  kept.foldl (fun a en => a.touchBayOf en.tag)
    (kept.foldl (fun a en => a.newJob (.load number en.ref) en.tag)
      (a.on fun y => y.modifyTruck number fun t => kept.foldl Truck.planEntry t.emptyBed))

theorem Act.writePlan_eq (a : Act) (number : Nat) (kept : List Entry) :
    a.writePlan number kept = (if kept.isEmpty then (a.planned number kept).on fun y =>
        y.enterLoaded number
      else (a.planned number kept).on fun y =>
        y.modifyTruck number fun t => { t with state := .loading }).clearDue := rfl

theorem Act.settles_planned {free : Bool} (a : Act) (number : Nat) (kept : List Entry) :
    a.yard.Settles free (a.planned number kept).yard := by
  have plan : a.yard.Settles free (a.on fun y => y.modifyTruck number fun t =>
      kept.foldl Truck.planEntry t.emptyBed).yard :=
    .quiet _ number fun t => Truck.dock_planEntries kept t.emptyBed
  have jobs := plan.trans (Yard.Settles.foldl
    (fun (a : Act) (en : Entry) => a.settles_newJob (.load number en.ref) en.tag) kept _)
  exact jobs.trans (Yard.Settles.foldl (fun a en => by rw [Act.touchBayOf_yard]; exact .refl _) kept _)

/-- A truck's state written. -/
theorem Yard.settles_state (y : Yard) (n : Nat) (st : TruckState) :
    y.Settles true (y.modifyTruck n fun t => { t with state := st }) :=
  .truck y n _ (fun _ => rfl) (.inl rfl)

/-- The flags that an entry into LOADED sets, after the state is written. -/
theorem Yard.settles_enterLoaded_flags {free : Bool} (y : Yard) (n : Nat) :
    (y.modifyTruck n fun t => { t with state := .loaded }).Settles free (y.enterLoaded n) := by
  unfold Yard.enterLoaded
  simp only
  split
  · split
    · exact (Settles.flag _ _).trans (.flag _ _)
    · exact .flag _ _
  · exact .flag _ _

theorem Yard.settles_enterLoaded (y : Yard) (n : Nat) : y.Settles true (y.enterLoaded n) :=
  (y.settles_state n .loaded).trans (y.settles_enterLoaded_flags n)

theorem Act.settles_writePlan (a : Act) (number : Nat) (kept : List Entry) :
    a.yard.Settles true (a.writePlan number kept).yard := by
  rw [Act.writePlan_eq]
  refine Yard.Settles.trans ?_ (Act.settles_clearDue _)
  split
  · exact (a.settles_planned number kept).trans (Yard.settles_enterLoaded _ number)
  · exact (a.settles_planned number kept).trans (Yard.settles_state _ number .loading)

theorem Act.settles_place (e : Env) (a : Act) (number : Nat) :
    a.yard.Settles true (a.place e number).yard := by
  unfold Act.place
  split
  · exact .refl _
  · exact ((Yard.Settles.foldl Act.settles_releaseForWeight _ a).trans
      (Act.settles_writePlan _ number _)).trans (Yard.settles_judgeAll e _)

/-- R85, R86: the deadline of a truck that leaves SHORT_WAIT is made absent. -/
theorem Yard.settles_dropDeadline {free : Bool} (y : Yard) (n : Nat) :
    y.Settles free (y.modifyTruck n fun t => { t with deadline := none }) :=
  .quiet y n fun _ => rfl

theorem Act.settles_endStockWait (e : Env) (a : Act) (number : Nat) :
    a.yard.Settles true (a.endStockWait e number).yard := by
  rw [Act.endStockWait]
  refine Yard.Settles.trans ?_ (Act.settles_place e _ number)
  exact a.yard.settles_dropDeadline number

theorem Act.settles_offer (e : Env) (a : Act) (tag : Nat) :
    a.yard.Settles true (a.offer e tag).yard := by
  unfold Act.offer
  split
  · exact .refl _
  · next number line _ =>
    have reserved := a.yard.settles_reserve (free := true) number line tag
    simp only
    split
    · split
      · exact reserved
      · refine Yard.Settles.trans ?_ (Act.settles_endStockWait e _ number)
        exact reserved
    · exact reserved

theorem Act.settles_offerAll (e : Env) (fuel : Nat) (a : Act) :
    a.yard.Settles true (Act.offerAll e fuel a).yard := by
  induction fuel generalizing a with
  | zero => exact .refl _
  | succ fuel ih =>
    unfold Act.offerAll
    split
    · exact .refl _
    · next tag rest _ => exact (Act.settles_offer e { a with freed := rest } tag).trans (ih _)

theorem Act.settles_offers (e : Env) (a : Act) : a.yard.Settles true (a.offers e).yard :=
  a.settles_offerAll e _

theorem Act.settles_afterRun (e : Env) (a : Act) (number : Nat) :
    a.yard.Settles true (a.afterRun e number).yard := by
  unfold Act.afterRun
  split
  · exact .refl _
  · split
    · exact .truck _ number _ (fun _ => rfl) (.inl rfl)
    · exact a.settles_place e number

/-- R73: the lane and the truck of a grant, before its allocation run. -/
def Act.berthed (e : Env) (a : Act) (lane number : Nat) : Act :=
  a.on fun y =>
    ((y.modifyLane lane fun _ => { state := .occupied, holder := some number }).modifyTruck number
      fun t => { t with lane := some lane, grantedAt := some e.clock }).raise .laneGranted

theorem Act.grant_eq (e : Env) (a : Act) (lane number : Nat) :
    a.grant e lane number
      = ((a.berthed e lane number).on fun y => y.allocate e number).afterRun e number := rfl

theorem Act.settles_grant (e : Env) (a : Act) (lane number : Nat) :
    a.yard.Settles true (a.grant e lane number).yard := by
  have berthed : a.yard.Settles true (a.berthed e lane number).yard :=
    ((Yard.Settles.lane _ lane (fun _ => { state := .occupied, holder := some number }) rfl).trans
      (.truck _ number (fun t => { t with lane := some lane, grantedAt := some e.clock })
        (fun _ => rfl) (.inl rfl))).trans (.flag _ .laneGranted)
  rw [Act.grant_eq]
  refine Yard.Settles.trans ?_ (Act.settles_afterRun e _ number)
  exact berthed.trans (Yard.settles_allocate e _ number)

theorem Act.settles_grants (e : Env) (fuel : Nat) (a : Act) :
    a.yard.Settles true (Act.grants e fuel a).yard := by
  induction fuel generalizing a with
  | zero => exact .refl _
  | succ fuel ih =>
    unfold Act.grants
    split
    · split
      · exact ((a.settles_grant e _ _).trans (Act.settles_offers e _)).trans (ih _)
      · exact .refl _
    · exact .refl _

theorem Act.settles_settled (e : Env) (a : Act) : a.yard.Settles true (a.settled e).yard :=
  ((a.settles_clearDue.trans (Act.settles_needs _)).trans (Yard.settles_judgeAll e _)).trans
    (Act.settles_offers e (a.clearDue.needs.on (Yard.judgeAll e)))

theorem Yard.settles_restartExpiries (e : Env) (fuel : Nat) (y : Yard) :
    y.Settles true (Yard.restartExpiries e fuel y) := by
  induction fuel generalizing y with
  | zero => exact .refl y
  | succ fuel ih =>
    unfold Yard.restartExpiries
    split
    · next n _ =>
      exact ((Act.settles_endStockWait e y.act n).trans (Act.settles_settled e _)).trans (ih _)
    · exact .refl y

/-! ### What a sequence of these writes keeps -/

theorem Table.freeFrom_lt {α : Type} {t : Table α} {fuel i n : Nat}
    (h : t.freeFrom fuel i = some n) : n < i + fuel := by
  induction fuel generalizing i with
  | zero => cases h
  | succ fuel ih =>
    unfold Table.freeFrom at h
    split at h
    · have := ih h
      omega
    · obtain rfl := Option.some.inj h
      omega

/-- The lowest free key below a limit is below it. -/
theorem Table.lowestFree_lt {α : Type} {t : Table α} {limit n : Nat}
    (h : t.lowestFree limit = some n) : n < limit := by
  simpa using Table.freeFrom_lt h

theorem Table.allVal_put {α : Type} {t : Table α} {test : Nat → α → Bool} (n : Nat) (v : α)
    (h : t.allVal test = true) (hv : test n v = true) : (t.put n v).allVal test = true := by
  obtain ⟨l⟩ := t
  simp only [Table.allVal, Table.put, List.all_eq_true] at h ⊢
  induction l with
  | nil => simpa [Table.putIn] using hv
  | cons e rest ih =>
    have tail := ih fun x hx => h x (List.mem_cons_of_mem _ hx)
    have head := h e List.mem_cons_self
    unfold Table.putIn
    split
    · exact List.forall_mem_cons.mpr ⟨hv, h⟩
    · split
      · exact List.forall_mem_cons.mpr ⟨hv, fun x hx => h x (List.mem_cons_of_mem _ hx)⟩
      · intro x hx
        rcases List.mem_cons.mp hx with rfl | hx
        · exact head
        · exact tail x hx

theorem Table.allVal_drop {α : Type} {t : Table α} {test : Nat → α → Bool} (n : Nat)
    (h : t.allVal test = true) : (t.drop n).allVal test = true := by
  simp only [Table.allVal, Table.drop, List.all_eq_true, List.mem_filter] at h ⊢
  exact fun e he => h e he.1

theorem Table.allVal_putD {α : Type} [DecidableEq α] {t : Table α} {test : Nat → α → Bool} (n : Nat)
    (d v : α) (h : t.allVal test = true) (hv : v ≠ d → test n v = true) :
    (t.putD n d v).allVal test = true := by
  unfold Table.putD
  split
  · exact Table.allVal_drop n h
  · next hd => exact Table.allVal_put n v h (hv hd)

/-- A test of the keys reads the same after the records are changed. -/
theorem Table.allVal_key_mapVal {α : Type} (t : Table α) (test : Nat → Bool) (f : Nat → α → α) :
    (t.mapVal f).allVal (fun i _ => test i) = t.allVal fun i _ => test i := by
  simp only [Table.allVal, Table.mapVal, List.all_map, Function.comp_def]

theorem Table.allVal_key_modify {α : Type} (t : Table α) (test : Nat → Bool) (n : Nat) (f : α → α) :
    (t.modify n f).allVal (fun i _ => test i) = t.allVal fun i _ => test i :=
  Table.allVal_key_mapVal ..

/-- Changes of packs, jobs and trucks, and of what is in no table, keep the canonical form. -/
theorem Yard.Tables.modifyTruck {y : Yard} (h : y.Tables) (n : Nat) (f : Truck → Truck) :
    (y.modifyTruck n f).Tables := by
  unfold Yard.modifyTruck
  split
  · exact { h with
      trucks := Table.wf_modify _ _ _ h.trucks
      truckIndex := (Table.allVal_key_modify _ (fun i => decide (i < 24)) _ f).trans h.truckIndex }
  · exact h

theorem Yard.Tables.modifyPack {y : Yard} (h : y.Tables) (tag : Nat) (f : Pack → Pack) :
    (y.modifyPack tag f).Tables :=
  { h with
    packs := Table.wf_modify _ _ _ h.packs
    packCount := by
      show (y.packs.modify tag f).size ≤ 1024
      rw [Table.size_modify]
      exact h.packCount }

theorem Yard.Tables.modifyJob {y : Yard} (h : y.Tables) (n : Nat) (f : Job → Job) :
    (y.modifyJob n f).Tables :=
  { h with
    jobs := Table.wf_modify _ _ _ h.jobs
    jobIndex := (Table.allVal_key_modify _ (fun i => decide (i < 256)) _ f).trans h.jobIndex }

theorem Yard.Settles.tables {free : Bool} {y z : Yard} (s : y.Settles free z) (h : y.Tables) :
    z.Tables := by
  induction s with
  | refl y => exact h
  | trans _ _ ih ik => exact ik (ih h)
  | pack y tag f => exact h.modifyPack tag f
  | job y n f _ => exact h.modifyJob n f
  | newJob y n work tag hn =>
    exact { h with
      jobs := Table.wf_put _ _ _ h.jobs
      jobIndex := Table.allVal_put n _ h.jobIndex (decide_eq_true (Table.lowestFree_lt hn)) }
  | dropJob y n =>
    exact { h with
      jobs := Table.wf_drop _ _ h.jobs
      jobIndex := Table.allVal_drop n h.jobIndex }
  | queues y q => exact { h with }
  | flag y e => exact { h with }
  | truck y n f _ _ => exact h.modifyTruck n f
  | lane y l f _ => exact { h with }

theorem Yard.Settles.calm {free : Bool} {y z : Yard} (s : y.Settles free z) : z.calm = y.calm := by
  induction s with
  | trans _ _ ih ik => exact ik.trans ih
  | truck y n f _ _ => exact y.calm_modifyTruck n f
  | refl | pack | job | newJob | dropJob | queues | flag | lane => rfl

theorem Yard.docks_modifyTruck_quiet (y : Yard) (n : Nat) {f : Truck → Truck}
    (h : ∀ t, (f t).dock = t.dock) : (y.modifyTruck n f).docks = y.docks := by
  unfold Yard.modifyTruck
  split
  · simp only [Yard.docks, Table.modify, Table.mapVal, List.map_map]
    refine List.map_congr_left fun en _ => ?_
    simp only [Function.comp]
    split
    · exact h _
    · rfl
  · rfl

/-- Writes that are not free change no lane record and no truck's number, lane or state. -/
theorem Yard.Settles.docks {y z : Yard} (s : y.Settles false z) :
    z.lanes = y.lanes ∧ z.docks = y.docks := by
  induction s with
  | trans _ _ ih ik => exact ⟨ik.1.trans ih.1, ik.2.trans ih.2⟩
  | truck y n f _ dock =>
    exact ⟨y.modifyTruck_lanes n f, y.docks_modifyTruck_quiet n (dock.resolve_left (by simp))⟩
  | lane y l f h => cases h
  | refl | pack | job | newJob | dropJob | queues | flag => exact ⟨rfl, rfl⟩

end Sys2Proof.Machine
end

section
/-! SUPPORT. The laws of lanes and trucks, as laws of the lane records and the docks of the trucks, and what a
grant, a release, an entry and a write of a truck's state do to them. -/

namespace Sys2Proof.Machine

/-! ### Docks -/

/-- Lane records and docks agree (R59, R70): no two docks have one number; a lane has a holder exactly while it
is OCCUPIED or CLOSING, and it is a dock at that lane; and a dock has a lane, which names it, exactly in the
states in which a truck holds one. -/
structure DockLaw (lane : Nat → Lane) (docks : List Dock) : Prop where
  numbers : (docks.map Dock.number).Nodup
  vacant : ∀ l, l < 6 → (lane l).state = .free ∨ (lane l).state = .closed → (lane l).holder = none
  taken : ∀ l, l < 6 → (lane l).state = .occupied ∨ (lane l).state = .closing →
    ∃ d ∈ docks, (lane l).holder = some d.number ∧ d.lane = some l
  berthed : ∀ d ∈ docks, d.state.holdsLane = true → ∃ l, d.lane = some l ∧ (lane l).holder = some d.number
  away : ∀ d ∈ docks, d.state.holdsLane = false → d.lane = none

/-- The laws of lanes and trucks, of a yard. -/
def Yard.LaneLaw (y : Yard) : Prop := DockLaw y.lane y.docks

theorem LaneState.cases (s : LaneState) :
    (s = .free ∨ s = .closed) ∨ (s = .occupied ∨ s = .closing) := by
  cases s <;> simp

theorem Yard.truck?_eq_find (y : Yard) (n : Nat) :
    y.truck? n = (y.trucks.entries.map Prod.snd).find? fun t => decide (t.number = n) := by
  rw [List.find?_map]
  rfl

/-- The dock of a truck number, read from the docks. -/
theorem Yard.truck?_dock (y : Yard) (n : Nat) :
    (y.truck? n).map Truck.dock = y.docks.find? fun d => decide (d.number = n) := by
  have : y.docks = (y.trucks.entries.map Prod.snd).map Truck.dock := by
    simp [Yard.docks, List.map_map, Function.comp_def]
  rw [this, List.find?_map, Yard.truck?_eq_find]
  rfl

theorem Yard.truckState?_eq (y : Yard) (n : Nat) :
    y.truckState? n = (y.docks.find? fun d => decide (d.number = n)).map Dock.state := by
  rw [← Yard.truck?_dock, Option.map_map]
  rfl

/-- Where the numbers differ, the first element of a number is the element of that number. -/
theorem List.find?_number_iff {α : Type} {f : α → Nat} {l : List α} (h : (l.map f).Nodup) (n : Nat)
    (a : α) : l.find? (fun b => decide (f b = n)) = some a ↔ a ∈ l ∧ f a = n := by
  induction l with
  | nil => simp
  | cons b rest ih =>
    simp only [List.map_cons, List.nodup_cons] at h
    rw [List.find?_cons]
    by_cases hb : f b = n
    · simp only [hb, decide_true, Option.some.injEq, List.mem_cons]
      constructor
      · rintro rfl; exact ⟨.inl rfl, hb⟩
      · rintro ⟨rfl | ha, hn⟩
        · rfl
        · exact absurd (List.mem_map.mpr ⟨a, ha, hn.trans hb.symm⟩) h.1
    · simp only [hb, decide_false, ih h.2, List.mem_cons]
      constructor
      · rintro ⟨ha, hn⟩; exact ⟨.inr ha, hn⟩
      · rintro ⟨rfl | ha, hn⟩
        · exact absurd hn hb
        · exact ⟨ha, hn⟩

theorem Yard.numbers_docks (y : Yard) :
    y.docks.map Dock.number = y.trucks.entries.map fun en => en.2.number := by
  simp [Yard.docks, List.map_map, Function.comp_def, Truck.dock]

theorem Yard.dock_mem_iff {y : Yard} (h : (y.docks.map Dock.number).Nodup) (d : Dock) :
    d ∈ y.docks ↔ (y.truck? d.number).map Truck.dock = some d := by
  rw [Yard.truck?_dock, List.find?_number_iff h]
  simp

theorem Yard.dock_of_truck? {y : Yard} {n : Nat} {t : Truck} (h : y.truck? n = some t) :
    t.dock ∈ y.docks ∧ t.number = n := by
  have e : y.docks.find? (fun d => decide (d.number = n)) = some t.dock := by
    rw [← Yard.truck?_dock, h]; rfl
  exact ⟨List.mem_of_find?_eq_some e,
    of_decide_eq_true (List.find?_some (p := fun d : Dock => decide (d.number = n)) e)⟩

/-- The laws of lanes and trucks are check 6 of the audit with different numbers (R172). -/
theorem Yard.laneLaw_iff (y : Yard) : y.LaneLaw ↔
    (y.trucks.entries.map fun en => en.2.number).Nodup ∧ y.audit6 = none := by
  have check : y.audit6 = none ↔ (∀ l, l < 6 → y.laneHolds l = true)
      ∧ ∀ en ∈ y.trucks.entries, y.truckLaneHolds en.2 = true := by
    unfold Yard.audit6
    cases hf : (List.range 6).find? fun l => !y.laneHolds l with
    | some l =>
      have hl := List.find?_some hf
      have hm := List.mem_of_find?_eq_some hf
      simp only [Bool.not_eq_true', List.mem_range] at hl hm
      refine ⟨(nomatch ·), fun h => ?_⟩
      rw [h.1 l hm] at hl
      cases hl
    | none =>
      simp only [List.find?_eq_none, List.mem_range, Bool.not_eq_true', Bool.not_eq_false] at hf
      simp only [Table.first?, Option.map_eq_none_iff, List.find?_eq_none, Bool.not_eq_true',
        Bool.not_eq_false]
      exact ⟨fun h => ⟨hf, h⟩, fun h => h.2⟩
  have truckHolds : ∀ t : Truck, y.truckLaneHolds t = true ↔
      (t.state.holdsLane = true → ∃ l, t.lane = some l ∧ (y.lane l).holder = some t.number)
      ∧ (t.state.holdsLane = false → t.lane = none) := by
    intro t
    unfold Yard.truckLaneHolds
    cases t.state.holdsLane <;> cases t.lane <;> simp
  rw [check, ← Yard.numbers_docks]
  constructor
  · rintro ⟨numbers, vacant, taken, berthed, away⟩
    refine ⟨numbers, fun l hl => ?_, fun en hen => ?_⟩
    · unfold Yard.laneHolds
      simp only
      rcases LaneState.cases (y.lane l).state with h | h
      · have := vacant l hl h
        rcases h with h | h <;> simp [h, this]
      · obtain ⟨d, hd, hh, hlane⟩ := taken l hl h
        rw [Yard.dock_mem_iff numbers] at hd
        have : (y.truck? d.number).bind Truck.lane = some l := by
          obtain ⟨t, ht, rfl⟩ := Option.map_eq_some_iff.mp hd
          rw [ht]
          exact hlane
        rcases h with h | h <;> simp [h, hh, this]
    · have hd : en.2.dock ∈ y.docks := List.mem_map.mpr ⟨en, hen, rfl⟩
      exact (truckHolds _).mpr ⟨berthed _ hd, away _ hd⟩
  · rintro ⟨numbers, lanes, trucks⟩
    have holds : ∀ d ∈ y.docks, ∃ t : Truck, t.dock = d ∧ y.truckLaneHolds t = true := by
      intro d hd
      obtain ⟨en, hen, rfl⟩ := List.mem_map.mp hd
      exact ⟨en.2, rfl, trucks en hen⟩
    refine ⟨numbers, fun l hl h => ?_, fun l hl h => ?_, fun d hd => ?_, fun d hd => ?_⟩
    · have := lanes l hl
      unfold Yard.laneHolds at this
      rcases h with h | h <;> simpa [h] using this
    · have := lanes l hl
      unfold Yard.laneHolds at this
      cases hh : (y.lane l).holder with
      | none => rcases h with h | h <;> simp [h, hh] at this
      | some n =>
        have hb : (y.truck? n).bind Truck.lane = some l := by
          rcases h with h | h <;> simpa [h, hh] using this
        obtain ⟨t, ht, hlane⟩ := Option.bind_eq_some_iff.mp hb
        obtain ⟨hmem, hnum⟩ := Yard.dock_of_truck? ht
        exact ⟨t.dock, hmem, by rw [← hnum]; rfl, hlane⟩
    · obtain ⟨t, rfl, ht⟩ := holds d hd
      exact ((truckHolds t).mp ht).1
    · obtain ⟨t, rfl, ht⟩ := holds d hd
      exact ((truckHolds t).mp ht).2

/-! ### What a lane is after a lane record was written -/

theorem Yard.lane_eq_of_lanes {y z : Yard} (h : z.lanes = y.lanes) : z.lane = y.lane := by
  funext l
  rw [Yard.lane, Yard.lane, h]

theorem Yard.lane_far (y : Yard) {l : Nat} (h : 6 ≤ l) : y.lane l = Lane.initial := by
  rw [Yard.lane, Vector.getElem?_eq_none h]
  rfl

theorem Yard.lane_modifyLane (y : Yard) (l : Nat) (f : Lane → Lane) (k : Nat) :
    (y.modifyLane l f).lane k = if k = l ∧ l < 6 then f (y.lane k) else y.lane k := by
  by_cases hk : k = l
  · subst hk
    rcases Nat.lt_or_ge k 6 with hl | hl
    · rw [if_pos ⟨rfl, hl⟩, Yard.lane, Yard.modifyLane, vecModify_getElem?_same, Yard.lane,
        Vector.getElem?_eq_getElem hl]
      rfl
    · rw [Yard.lane_far _ hl, Yard.lane_far _ hl, if_neg (by omega)]
  · rw [if_neg (fun h => hk h.1)]
    simp only [Yard.lane, Yard.modifyLane, vecModify_getElem?_other _ _ (Ne.symm hk)]

/-! ### What the docks are after a truck record was written -/

/-- Entries of one key are one entry, where the keys rise. -/
theorem Table.entry_unique {α : Type} {t : Table α} (h : t.wf = true) {a b : Nat × α}
    (ha : a ∈ t.entries) (hb : b ∈ t.entries) (hk : a.1 = b.1) : a = b :=
  List.inj_on_of_nodup_map (((Table.rising_iff _).mp h).imp Nat.ne_of_lt) ha hb hk

/-- A truck change that acts on the dock by `g` changes the dock of that number so. -/
theorem Yard.docks_modifyTruck {y : Yard} (hw : y.trucks.wf = true)
    (hn : (y.docks.map Dock.number).Nodup) (n : Nat) {f : Truck → Truck} {g : Dock → Dock}
    (hf : ∀ t, (f t).dock = g t.dock) :
    (y.modifyTruck n f).docks = y.docks.map fun d => if d.number = n then g d else d := by
  rw [Yard.numbers_docks] at hn
  unfold Yard.modifyTruck
  cases h : y.truckNo? n with
  | none =>
    have none : ∀ en ∈ y.trucks.entries, ¬ en.2.number = n := by
      simpa [Yard.truckNo?, Table.first?] using h
    simp only [Yard.docks, List.map_map]
    exact List.map_congr_left fun en hen => by simp [Truck.dock, none en hen]
  | some it =>
    obtain ⟨i, t⟩ := it
    obtain ⟨hmem, hnum⟩ := (List.find?_number_iff hn n (i, t)).mp h
    simp only [Yard.docks, Table.modify, Table.mapVal, List.map_map]
    refine List.map_congr_left fun en hen => ?_
    simp only [Function.comp]
    by_cases hk : en.1 = i
    · obtain rfl := Table.entry_unique hw hen hmem hk
      exact (congrArg Truck.dock (if_pos rfl)).trans ((hf t).trans (if_pos hnum).symm)
    · have : ¬ en.2.number = n := fun e =>
        hk (congrArg Prod.fst (List.inj_on_of_nodup_map hn hen hmem (e.trans hnum.symm)))
      exact (congrArg Truck.dock (if_neg hk)).trans (if_neg this).symm

/-- A truck that leaves the table takes its dock with it. -/
theorem Yard.docks_dropTruck {y : Yard} (hw : y.trucks.wf = true)
    (hn : (y.docks.map Dock.number).Nodup) (n : Nat) :
    (y.dropTruck n).docks = y.docks.filter fun d => d.number != n := by
  rw [Yard.numbers_docks] at hn
  unfold Yard.dropTruck
  cases h : y.truckNo? n with
  | none =>
    have none : ∀ en ∈ y.trucks.entries, ¬ en.2.number = n := by
      simpa [Yard.truckNo?, Table.first?] using h
    symm
    rw [List.filter_eq_self]
    intro d hd
    obtain ⟨en, hen, rfl⟩ := List.mem_map.mp hd
    simpa [Truck.dock] using none en hen
  | some it =>
    obtain ⟨i, t⟩ := it
    obtain ⟨hmem, hnum⟩ := (List.find?_number_iff hn n (i, t)).mp h
    simp only [Yard.docks, Table.drop, List.filter_map]
    congr 1
    refine List.filter_congr fun en hen => ?_
    by_cases hk : en.1 = i
    · obtain rfl := Table.entry_unique hw hen hmem hk
      simpa [Truck.dock] using hnum
    · have : ¬ en.2.number = n := fun e =>
        hk (congrArg Prod.fst (List.inj_on_of_nodup_map hn hen hmem (e.trans hnum.symm)))
      exact (bne_iff_ne.mpr hk).trans (bne_iff_ne.mpr this).symm

/-! ### The laws after a grant, a release, an entry and a write of a state -/

/-- Docks changed one by one, each keeping its number. -/
theorem numbers_map {docks : List Dock} {g : Dock → Dock} (h : ∀ d, (g d).number = d.number) :
    (docks.map g).map Dock.number = docks.map Dock.number := by
  rw [List.map_map]
  exact List.map_congr_left fun d _ => h d

/-- Docks whose states change within those that hold a lane, or within the others. -/
theorem DockLaw.map {lane : Nat → Lane} {docks : List Dock} (h : DockLaw lane docks) {g : Dock → Dock}
    (number : ∀ d, (g d).number = d.number) (same : ∀ d, (g d).lane = d.lane)
    (state : ∀ d ∈ docks, (g d).state.holdsLane = d.state.holdsLane) : DockLaw lane (docks.map g) where
  numbers := by rw [numbers_map number]; exact h.numbers
  vacant := h.vacant
  taken l hl hs := by
    obtain ⟨d, hd, hh, hlane⟩ := h.taken l hl hs
    exact ⟨g d, List.mem_map_of_mem hd, by rw [number, hh], by rw [same, hlane]⟩
  berthed := by
    refine List.forall_mem_map.mpr fun d hd hs => ?_
    rw [number, same]
    exact h.berthed d hd (by rw [← state d hd, hs])
  away := by
    refine List.forall_mem_map.mpr fun d hd hs => ?_
    rw [same]
    exact h.away d hd (by rw [← state d hd, hs])

/-- A lane that a truck holds is OCCUPIED or CLOSING, and names it. -/
theorem DockLaw.at_lane {lane : Nat → Lane} {docks : List Dock} (h : DockLaw lane docks)
    (far : ∀ l, 6 ≤ l → (lane l).holder = none) {d : Dock} (hd : d ∈ docks) {l : Nat}
    (hl : d.lane = some l) :
    l < 6 ∧ (lane l).holder = some d.number
      ∧ ((lane l).state = .occupied ∨ (lane l).state = .closing) := by
  cases hs : d.state.holdsLane with
  | false =>
    rw [h.away d hd hs] at hl
    cases hl
  | true =>
    obtain ⟨k, hk, hh⟩ := h.berthed d hd hs
    obtain rfl := Option.some.inj (hl.symm.trans hk)
    have hlt : l < 6 := by
      by_contra hge
      rw [far l (by omega)] at hh
      cases hh
    refine ⟨hlt, hh, (LaneState.cases _).resolve_left fun hv => ?_⟩
    rw [h.vacant l hlt hv] at hh
    cases hh

/-- The release of the lane a dock held, where that dock is gone or holds a lane no more (R70). -/
theorem DockLaw.release {lane lane' : Nat → Lane} {docks docks' : List Dock} (h : DockLaw lane docks)
    (far : ∀ l, 6 ≤ l → (lane l).holder = none) (n : Nat)
    (numbers : (docks'.map Dock.number).Nodup)
    (others : ∀ d : Dock, d.number ≠ n → (d ∈ docks' ↔ d ∈ docks))
    (mine : ∀ d ∈ docks', d.number = n → d.state.holdsLane = false ∧ d.lane = none)
    (released : ∀ d ∈ docks, d.number = n → ∀ l, d.lane = some l → lane' l = (lane l).release)
    (kept : ∀ l, (∀ d ∈ docks, d.number = n → d.lane ≠ some l) → lane' l = lane l) :
    DockLaw lane' docks' := by
  have lane_cases : ∀ l, (∃ d ∈ docks, d.number = n ∧ d.lane = some l) ∨ lane' l = lane l := by
    intro l
    by_cases hx : ∃ d ∈ docks, d.number = n ∧ d.lane = some l
    · exact .inl hx
    · exact .inr (kept l fun d hd hn hl => hx ⟨d, hd, hn, hl⟩)
  refine ⟨numbers, fun l hl hs => ?_, fun l hl hs => ?_, fun d hd hs => ?_, fun d hd hs => ?_⟩
  · rcases lane_cases l with ⟨d, hd, hn, hlane⟩ | hk
    · rw [released d hd hn l hlane]; rfl
    · rw [hk] at hs ⊢; exact h.vacant l hl hs
  · rcases lane_cases l with ⟨d, hd, hn, hlane⟩ | hk
    · obtain ⟨-, -, ho⟩ := h.at_lane far hd hlane
      rw [released d hd hn l hlane] at hs
      rcases ho with ho | ho <;> simp [Lane.release, ho] at hs
    · rw [hk] at hs ⊢
      obtain ⟨d, hd, hh, hlane⟩ := h.taken l hl hs
      have hne : d.number ≠ n := by
        intro hn
        have e := released d hd hn l hlane
        rw [hk] at e
        rw [e] at hh
        cases hh
      exact ⟨d, (others d hne).mpr hd, hh, hlane⟩
  · have hne : d.number ≠ n := fun hn => by simp [(mine d hd hn).1] at hs
    obtain ⟨l, hl, hh⟩ := h.berthed d ((others d hne).mp hd) hs
    rcases lane_cases l with ⟨c, hc, hn, hlane⟩ | hk
    · obtain ⟨-, hch, -⟩ := h.at_lane far hc hlane
      rw [hh] at hch
      exact absurd ((Option.some.inj hch).trans hn) hne
    · exact ⟨l, hl, by rw [hk]; exact hh⟩
  · by_cases hn : d.number = n
    · exact (mine d hd hn).2
    · exact h.away d ((others d hn).mp hd) hs

/-- The grant of a FREE lane to a truck that holds none (R73). -/
theorem DockLaw.grant {lane lane' : Nat → Lane} {docks : List Dock} (h : DockLaw lane docks) {n l : Nat}
    {g : Dock → Dock} {d : Dock} (hd : d ∈ docks) (hn : d.number = n) (hq : d.state.holdsLane = false)
    (free : (lane l).state = .free) (hlt : l < 6)
    (mine : ∀ c : Dock, (g c).number = c.number ∧ (g c).lane = some l)
    (holds : ∀ c ∈ docks, c.number = n → (g c).state.holdsLane = true)
    (taken : lane' l = { state := .occupied, holder := some n })
    (kept : ∀ k, k ≠ l → lane' k = lane k) :
    DockLaw lane' (docks.map fun c => if c.number = n then g c else c) := by
  have number : ∀ c : Dock, (if c.number = n then g c else c).number = c.number := by
    intro c
    split
    · exact (mine c).1
    · rfl
  refine ⟨by rw [numbers_map number]; exact h.numbers, fun k hk hs => ?_, fun k hk hs => ?_, ?_, ?_⟩
  · by_cases hkl : k = l
    · subst hkl; simp [taken] at hs
    · rw [kept k hkl] at hs ⊢; exact h.vacant k hk hs
  · by_cases hkl : k = l
    · subst hkl
      refine ⟨g d, List.mem_map.mpr ⟨d, hd, if_pos hn⟩, ?_, (mine d).2⟩
      rw [taken, (mine d).1, hn]
    · rw [kept k hkl] at hs ⊢
      obtain ⟨c, hc, hh, hlane⟩ := h.taken k hk hs
      have hne : c.number ≠ n := by
        intro e
        obtain rfl : c = d := List.inj_on_of_nodup_map h.numbers hc hd (e.trans hn.symm)
        rw [h.away c hc hq] at hlane
        cases hlane
      exact ⟨c, List.mem_map.mpr ⟨c, hc, if_neg hne⟩, hh, hlane⟩
  · refine List.forall_mem_map.mpr fun c hc hs => ?_
    by_cases hcn : c.number = n
    · rw [if_pos hcn]
      exact ⟨l, (mine c).2, by rw [taken, (mine c).1, hcn]⟩
    · rw [if_neg hcn] at hs ⊢
      obtain ⟨k, hk, hh⟩ := h.berthed c hc hs
      have hkl : k ≠ l := by
        rintro rfl
        rw [h.vacant k hlt (.inl free)] at hh
        cases hh
      exact ⟨k, hk, by rw [kept k hkl]; exact hh⟩
  · refine List.forall_mem_map.mpr fun c hc hs => ?_
    by_cases hcn : c.number = n
    · rw [if_pos hcn, holds c hc hcn] at hs
      cases hs
    · rw [if_neg hcn] at hs ⊢
      exact h.away c hc hs

/-- A truck that holds no lane enters the table. -/
theorem DockLaw.enter {lane : Nat → Lane} {docks docks' : List Dock} (h : DockLaw lane docks) {d : Dock}
    (perm : docks'.Perm (d :: docks)) (new : d.number ∉ docks.map Dock.number)
    (state : d.state.holdsLane = false) (none : d.lane = none) : DockLaw lane docks' := by
  have mem : ∀ c : Dock, c ∈ docks' ↔ c = d ∨ c ∈ docks := fun c => by
    rw [perm.mem_iff, List.mem_cons]
  refine ⟨?_, h.vacant, fun l hl hs => ?_, fun c hc hs => ?_, fun c hc hs => ?_⟩
  · rw [(perm.map Dock.number).nodup_iff, List.map_cons]
    exact List.nodup_cons.mpr ⟨new, h.numbers⟩
  · obtain ⟨c, hc, rest⟩ := h.taken l hl hs
    exact ⟨c, (mem c).mpr (.inr hc), rest⟩
  · rcases (mem c).mp hc with rfl | hc
    · simp [state] at hs
    · exact h.berthed c hc hs
  · rcases (mem c).mp hc with rfl | hc
    · exact none
    · exact h.away c hc hs

/-- A lane opened or closed keeps its holder, and stays with or without one (R71). -/
theorem DockLaw.relane {lane lane' : Nat → Lane} {docks : List Dock} (h : DockLaw lane docks)
    (holder : ∀ l, (lane' l).holder = (lane l).holder)
    (state : ∀ l, ((lane' l).state = .free ∨ (lane' l).state = .closed) ↔
      ((lane l).state = .free ∨ (lane l).state = .closed)) : DockLaw lane' docks where
  numbers := h.numbers
  vacant l hl hs := by rw [holder]; exact h.vacant l hl ((state l).mp hs)
  taken l hl hs := by
    rw [holder]
    refine h.taken l hl ((LaneState.cases _).resolve_left fun hv => ?_)
    have := (state l).mpr hv
    rcases hs with hs | hs <;> simp [hs] at this
  berthed d hd hs := by
    obtain ⟨l, hl, hh⟩ := h.berthed d hd hs
    exact ⟨l, hl, by rw [holder]; exact hh⟩
  away := h.away

end Sys2Proof.Machine
end

section
/-! SUPPORT. The laws of the yard's tables, of moves and claims and of lanes and trucks, kept together: by each
single write, by what follows an act, and by a send. -/

namespace Sys2Proof.Machine

/-- What is kept from one yard to another: the canonical form, and with it the laws of moves and claims and
those of lanes and trucks. -/
structure Yard.Sound (y z : Yard) : Prop where
  tables : y.Tables → z.Tables
  staging : y.Tables → y.Staging → z.Staging
  lanes : y.Tables → y.LaneLaw → z.LaneLaw

/-- All that is kept by an act that takes no truck out of LOADED. -/
structure Yard.Keeps (y z : Yard) : Prop extends Yard.Sound y z where
  loaded : y.Tables → y.LaneLaw → ∀ n, y.truckState? n = some .loaded → z.truckState? n = some .loaded

namespace Yard

theorem Sound.refl (y : Yard) : y.Sound y := ⟨id, fun _ => id, fun _ => id⟩

theorem Sound.trans {y z w : Yard} (h : y.Sound z) (k : z.Sound w) : y.Sound w where
  tables := k.tables ∘ h.tables
  staging ht hs := k.staging (h.tables ht) (h.staging ht hs)
  lanes ht hl := k.lanes (h.tables ht) (h.lanes ht hl)

theorem Keeps.refl (y : Yard) : y.Keeps y := { Sound.refl y with loaded := fun _ _ _ => id }

theorem Keeps.trans {y z w : Yard} (h : y.Keeps z) (k : z.Keeps w) : y.Keeps w :=
  { h.toSound.trans k.toSound with
    loaded := fun ht hl n hn => k.loaded (h.tables ht) (h.lanes ht hl) n (h.loaded ht hl n hn) }

theorem LaneLaw.congr {y z : Yard} (h : y.LaneLaw) (hl : z.lanes = y.lanes) (hd : z.docks = y.docks) :
    z.LaneLaw := by
  unfold LaneLaw
  rw [lane_eq_of_lanes hl, hd]
  exact h

/-- No lane record and no dock changes. -/
theorem Keeps.of_docks {y z : Yard} (tables : y.Tables → z.Tables)
    (staging : y.Tables → y.Staging → z.Staging) (hl : z.lanes = y.lanes) (hd : z.docks = y.docks) :
    y.Keeps z where
  tables := tables
  staging := staging
  lanes _ h := h.congr hl hd
  loaded _ _ n h := by rw [truckState?_eq, hd, ← truckState?_eq]; exact h

/-- Neither a lane record, a dock, a stack, a claim, a move nor a terminal changes. -/
theorem Keeps.of_calm {y z : Yard} (tables : y.Tables → z.Tables) (hc : z.calm = y.calm)
    (hl : z.lanes = y.lanes) (hd : z.docks = y.docks) : y.Keeps z :=
  .of_docks tables (fun _ h => h.of_calm hc) hl hd

theorem Settles.keeps {y z : Yard} (s : y.Settles false z) : y.Keeps z :=
  .of_calm s.tables s.calm s.docks.1 s.docks.2

theorem Keeps.foldl {β : Type} {f : Act → β → Act}
    (hf : ∀ (a : Act) (b : β), a.yard.Keeps (f a b).yard)
    (l : List β) (a : Act) : a.yard.Keeps (l.foldl f a).yard := by
  induction l generalizing a with
  | nil => exact .refl _
  | cons b rest ih => exact (hf a b).trans (ih _)

end Yard

/-- A record read is an entry of its table. -/
theorem Table.mem_of_get? {α : Type} {t : Table α} {i : Nat} {v : α} (h : t.get? i = some v) :
    (i, v) ∈ t.entries := by
  obtain ⟨l⟩ := t
  simp only [Table.get?] at h ⊢
  induction l with
  | nil => cases h
  | cons e rest ih =>
    unfold Table.findIn at h
    split at h
    · next hk =>
      obtain rfl := Option.some.inj h
      subst hk
      exact List.mem_cons_self
    · exact List.mem_cons_of_mem _ (ih h)

namespace Yard

/-! ### Packs and jobs -/

theorem keeps_modifyPack (y : Yard) (tag : Nat) (f : Pack → Pack) : y.Keeps (y.modifyPack tag f) :=
  (Settles.pack y tag f).keeps

theorem keeps_raise (y : Yard) (e : Event) : y.Keeps (y.raise e) := (Settles.flag y e).keeps

theorem keeps_modifyJob (y : Yard) (n : Nat) (f : Job → Job) : y.Keeps (y.modifyJob n f) :=
  .of_calm (fun h => h.modifyJob n f) rfl rfl rfl

/-- Pack records changed or left out. -/
theorem keeps_packs (y : Yard) (ps : Table Pack) (wf : y.packs.wf = true → ps.wf = true)
    (size : ps.size ≤ y.packs.size) : y.Keeps { y with packs := ps } :=
  .of_calm (fun h => { h with packs := wf h.packs, packCount := Nat.le_trans size h.packCount })
    rfl rfl rfl

theorem keeps_dropPack (y : Yard) (tag : Nat) : y.Keeps (y.dropPack tag) :=
  y.keeps_packs _ (Table.wf_drop _ _) (List.length_filter_le ..)

/-! ### Stacks -/

theorem Tables.setStack {y : Yard} (h : y.Tables) (b : Nat) (tags : List Nat) :
    (y.setStack b tags).Tables :=
  { h with
    stack := Table.wf_putD _ _ _ _ h.stack
    stackListed := Table.allVal_putD b [] tags h.stackListed (by simp) }

theorem height_setStack (y : Yard) (b : Nat) (tags : List Nat) (c : Nat) :
    (y.setStack b tags).height c = if c = b then tags.length else y.height c := by
  by_cases hc : c = b
  · subst hc; rw [height, stackOf_setStack_same, if_pos rfl]
  · rw [height, stackOf_setStack_other _ _ (Ne.symm hc), if_neg hc, height]

/-- Heights may change where each bay's height and claims stay within six. -/
theorem Staging.of_heights {y z : Yard} (h : y.Staging) (hc : z.claims = y.claims)
    (hm : z.loader = y.loader) (height : ∀ b, z.height b + y.claimsOf b ≤ 6) : z.Staging := by
  have same : ({ y with claims := z.claims, loader := z.loader } : Yard).Staging :=
    h.congr rfl hc (by rw [hm]) (by rw [hm])
  refine { same with height := fun b => ?_ }
  have : z.claimsOf b = y.claimsOf b := by rw [claimsOf, claimsOf, hc]
  rw [this]
  exact height b

theorem height_leaveStack (y : Yard) (b tag c : Nat) : (y.leaveStack b tag).height c ≤ y.height c := by
  have : (y.leaveStack b tag).height c = (y.setStack b ((y.stackOf b).erase tag)).height c := rfl
  rw [this, height_setStack]
  split
  · next hc => subst hc; exact List.length_erase_le
  · exact Nat.le_refl _

theorem keeps_leaveStack (y : Yard) (b tag : Nat) : y.Keeps (y.leaveStack b tag) := by
  refine .of_docks (fun h => ?_) (fun _ h => ?_) rfl rfl
  · exact { h.setStack b ((y.stackOf b).erase tag) with
      packs := Table.wf_mapVal _ _ h.packs
      packCount := by
        show (y.packs.mapVal _).size ≤ 1024
        rw [Table.size_mapVal]
        exact h.packCount }
  · refine h.of_heights rfl rfl fun c => ?_
    have := h.height c
    have := y.height_leaveStack b tag c
    omega

theorem height_joinStack (y : Yard) (b tag c : Nat) :
    (y.joinStack b tag).height c = if c = b then y.height b + 1 else y.height c := by
  have : (y.joinStack b tag).height c = (y.setStack b (y.stackOf b ++ [tag])).height c := rfl
  rw [this, height_setStack, List.length_append]
  rfl

theorem Tables.joinStack {y : Yard} (h : y.Tables) (b tag : Nat) : (y.joinStack b tag).Tables :=
  (h.setStack b _).modifyPack tag _

theorem Staging.joinStack {y : Yard} (h : y.Staging) {b : Nat} (tag : Nat)
    (room : y.height b + y.claimsOf b < 6) : (y.joinStack b tag).Staging := by
  refine h.of_heights rfl rfl fun c => ?_
  have := h.height c
  rw [height_joinStack]
  split
  · next hc => subst hc; omega
  · exact this

theorem keeps_joinStack (y : Yard) (b tag : Nat)
    (room : y.Tables → y.Staging → y.height b + y.claimsOf b < 6) : y.Keeps (y.joinStack b tag) :=
  .of_docks (fun h => h.joinStack b tag) (fun ht h => h.joinStack tag (room ht h)) rfl rfl

/-! ### Terminals and moves -/

theorem keeps_onLink (y : Yard) (f : LoaderLink → LoaderLink)
    (terminals : (f y.loader).terminals = y.loader.terminals)
    (moves : (f y.loader).moves = y.loader.moves) : y.Keeps (y.onLink f) :=
  .of_docks (fun h => { h with moves := by show (f y.loader).moves.wf = true; rw [moves]; exact h.moves })
    (fun _ h => h.congr rfl rfl moves terminals) rfl rfl

theorem terminal_far (y : Yard) {t : Nat} (h : 8 ≤ t) : y.terminal t = Terminal.initial := by
  rw [terminal, Vector.getElem?_eq_none h]
  rfl

theorem terminal_modifyTerminal (y : Yard) (t : Nat) (f : Terminal → Terminal) (u : Nat) :
    (y.modifyTerminal t f).terminal u = if u = t ∧ t ≤ 7 then f (y.terminal u) else y.terminal u := by
  by_cases hu : u = t
  · subst hu
    rcases Nat.lt_or_ge u 8 with h | h
    · rw [if_pos ⟨rfl, by omega⟩, terminal_modifyTerminal_same _ _ (by omega)]
    · rw [if_neg (by omega), terminal_far _ h, terminal_far _ h]
  · rw [if_neg (fun h => hu h.1), terminal_modifyTerminal_other _ _ (Ne.symm hu)]

end Yard

/-- What the laws of moves and claims ask of one terminal: no more moves than credits, at most four credits,
and no move while it is OFF (R117, R124). -/
def Terminal.lawful (t : Terminal) : Prop :=
  t.moves.length ≤ t.credit ∧ t.credit ≤ 4 ∧ (t.state = .off → t.moves = [])

namespace Yard

theorem Staging.lawful {y : Yard} (h : y.Staging) (t : Nat) : (y.terminal t).lawful :=
  ⟨(h.credit t).1, (h.credit t).2, h.off t⟩

/-- A terminal record changed but for its moves. -/
theorem Staging.modifyTerminal {y : Yard} (h : y.Staging) {t : Nat} {f : Terminal → Terminal}
    (moves : ∀ u, (f u).moves = u.moves) (law : (f (y.terminal t)).lawful) :
    (y.modifyTerminal t f).Staging := by
  have same : ∀ u, ((y.modifyTerminal t f).terminal u).moves = (y.terminal u).moves := by
    intro u
    rw [terminal_modifyTerminal]
    split
    · exact moves _
    · rfl
  have lawful : ∀ u, ((y.modifyTerminal t f).terminal u).lawful := by
    intro u
    rw [terminal_modifyTerminal]
    split
    · next hu => rw [hu.1]; exact law
    · exact h.lawful u
  exact {
    listed := fun u n hn => h.listed u n (by rw [← same]; exact hn)
    held := fun n m hn => by rw [same]; exact h.held n m hn
    once := fun u => by rw [same]; exact h.once u
    credit := fun u => ⟨(lawful u).1, (lawful u).2.1⟩
    off := fun u => (lawful u).2.2
    claims := h.claims
    height := h.height }

theorem keeps_modifyTerminal (y : Yard) (t : Nat) (f : Terminal → Terminal)
    (moves : ∀ u, (f u).moves = u.moves) (law : (y.terminal t).lawful → (f (y.terminal t)).lawful) :
    y.Keeps (y.modifyTerminal t f) :=
  .of_docks (fun h => { h with }) (fun _ h => h.modifyTerminal moves (law (h.lawful t))) rfl rfl

/-- A terminal record changed in what is neither its moves, its credit nor an entry into OFF. -/
theorem keeps_terminal (y : Yard) (t : Nat) (f : Terminal → Terminal)
    (moves : ∀ u, (f u).moves = u.moves) (credit : ∀ u, (f u).credit = u.credit)
    (off : ∀ u, (f u).state = .off → u.state = .off) : y.Keeps (y.modifyTerminal t f) :=
  y.keeps_modifyTerminal t f moves fun h => by
    unfold Terminal.lawful
    rw [moves, credit]
    exact ⟨h.1, h.2.1, fun ho => h.2.2 (off _ ho)⟩

/-- Entries of a table changed in what a test does not read are counted alike. -/
theorem countP_mapVal {α : Type} (t : Table α) (f : Nat → α → α) (test : Nat × α → Bool)
    (h : ∀ i v, test (i, f i v) = test (i, v)) :
    (t.mapVal f).entries.countP test = t.entries.countP test := by
  rw [Table.mapVal, List.countP_map]
  exact List.countP_congr fun en _ => by simp [Function.comp, h]

/-- A move record changed in what is neither its terminal nor its destination. -/
theorem keeps_modifyMove (y : Yard) (n : Nat) (f : Move → Move)
    (terminal : ∀ m, (f m).terminal = m.terminal) (dest : ∀ m, (f m).dest = m.dest) :
    y.Keeps (y.modifyMove n f) := by
  have read : ∀ k, (y.modifyMove n f).move? k = (y.move? k).map fun m => if k = n then f m else m :=
    fun k => Table.get?_mapVal ..
  refine .of_docks (fun h => { h with moves := Table.wf_modify _ _ _ h.moves }) (fun _ h => ?_) rfl rfl
  refine ⟨fun t k hk => ?_, fun k m hm => ?_, h.once, h.credit, h.off, fun b => ?_, h.height⟩
  · have old := h.listed t k hk
    simp only [moveAt?, read] at old ⊢
    cases hm : y.move? k with
    | none => rw [hm] at old; exact old
    | some m =>
      rw [hm] at old
      have : (if k = n then f m else m).terminal = m.terminal := by
        split
        · exact terminal m
        · rfl
      have ht : m.terminal = t := by
        by_contra hne
        simp [hne] at old
      simp [this, ht]
  · rw [read] at hm
    obtain ⟨m', hm', rfl⟩ := Option.map_eq_some_iff.mp hm
    have : (if k = n then f m' else m').terminal = m'.terminal := by
      split
      · exact terminal m'
      · rfl
    rw [this]
    exact h.held k m' hm'
  · have count : (y.modifyMove n f).movesTo b = y.movesTo b :=
      countP_mapVal _ _ _ fun i v => by
        simp only
        split
        · rw [dest]
        · rfl
    rw [count]
    exact h.claims b

theorem Tables.takeClaim {y : Yard} (h : y.Tables) (b : Nat) : (y.takeClaim b).Tables :=
  { h with
    claims := Table.wf_putD _ _ _ _ h.claims
    claimsListed := Table.allVal_putD b 0 _ h.claimsListed fun hv =>
      decide_eq_true (Nat.pos_of_ne_zero hv) }

theorem Tables.giveClaim {y : Yard} (h : y.Tables) (b : Nat) : (y.giveClaim b).Tables :=
  { h with
    claims := Table.wf_putD _ _ _ _ h.claims
    claimsListed := Table.allVal_putD b 0 _ h.claimsListed fun hv =>
      decide_eq_true (Nat.pos_of_ne_zero hv) }

theorem Tables.dropMove {y : Yard} (h : y.Tables) (n : Nat) : (y.dropMove n).Tables := by
  unfold Yard.dropMove
  split
  · exact h
  · next m _ =>
    have claims : (match m.dest with
        | .bay b => y.giveClaim b
        | .bed .. => y).Tables := by
      split
      · exact h.giveClaim _
      · exact h
    have moves : (match m.dest with
        | .bay b => y.giveClaim b
        | .bed .. => y).loader = y.loader := by
      split <;> rfl
    exact { claims with
      moves := Table.wf_drop _ _ (by
        show (match m.dest with
          | .bay b => y.giveClaim b
          | .bed .. => y).loader.moves.wf = true
        rw [moves]
        exact h.moves) }

theorem keeps_dropMove (y : Yard) (n : Nat) : y.Keeps (y.dropMove n) := by
  obtain ⟨-, -, -, ht, hl, -, -, -⟩ := y.dropMove_spec n
  exact .of_docks (fun h => h.dropMove n) (fun h hs => hs.dropMove h.moves n) hl (by rw [docks, ht, docks])

/-- R135: a move that ends leaves a place in its bay for the pack it brings. -/
theorem keeps_dropMove_join (y : Yard) (n b tag : Nat) {m : Move} (hm : y.move? n = some m)
    (hd : m.dest = .bay b) : y.Keeps ((y.dropMove n).joinStack b tag) := by
  have drop := y.keeps_dropMove n
  refine { toSound := ⟨fun h => (h.dropMove n).joinStack b tag, fun ht hs => ?_, drop.lanes⟩,
           loaded := drop.loaded }
  refine (drop.staging ht hs).joinStack tag ?_
  obtain ⟨-, -, claims, stack⟩ := y.dropMove_reads n m hm (y.terminal_le_of_mem (hs.held n m hm))
  have claimed : 0 < y.movesTo b := by
    refine List.countP_pos_iff.mpr ⟨(n, m), Table.mem_of_get? hm, ?_⟩
    simp [hd]
  have height : (y.dropMove n).height b = y.height b := by
    rw [Yard.height, Yard.stackOf, stack]; rfl
  have := hs.height b
  have := hs.claims b
  rw [height, claims, if_pos hd]
  omega

end Yard
end Sys2Proof.Machine
end

section
/-! SUPPORT. The laws of the yard kept by writes of a truck's state, by what follows an act (offers, placements,
grants), and by the service of the queues. -/

namespace Sys2Proof.Machine

/-! ### The state of a truck is written -/

theorem DockLaw.far (y : Yard) : ∀ l, 6 ≤ l → (y.lane l).holder = none := fun l h => by
  rw [y.lane_far h]; rfl

namespace Yard

/-- The states of trucks after docks were changed one by one, each keeping its number. -/
theorem truckState?_map {y z : Yard} {g : Dock → Dock} (h : z.docks = y.docks.map g)
    (number : ∀ d, (g d).number = d.number) (n : Nat) :
    z.truckState? n = (y.docks.find? fun d => decide (d.number = n)).map fun d => (g d).state := by
  rw [truckState?_eq, h, List.find?_map, Option.map_map]
  simp only [Function.comp_def, number]

/-- No two truck records have one number. -/
def Numbered (y : Yard) : Prop := (y.docks.map Dock.number).Nodup

theorem LaneLaw.numbered {y : Yard} (h : y.LaneLaw) : y.Numbered := DockLaw.numbers h

/-- A dock of a number has the state of its truck. -/
theorem Numbered.state_of_dock {y : Yard} (h : y.Numbered) {d : Dock} (hd : d ∈ y.docks) :
    y.truckState? d.number = some d.state := by
  rw [truckState?_eq, (List.find?_number_iff h d.number d).mpr ⟨hd, rfl⟩]
  rfl

/-- A truck's state (and what its dock does not show) is written: lanes and claims keep their laws where the
truck holds a lane after it as before. -/
theorem sound_state (y : Yard) (n : Nat) {f : Truck → Truck} {st : TruckState}
    (hf : ∀ t, (f t).dock = { t.dock with state := st })
    (h : y.LaneLaw → ∀ s, y.truckState? n = some s → s.holdsLane = st.holdsLane) :
    y.Sound (y.modifyTruck n f) where
  tables ht := ht.modifyTruck n f
  staging _ hs := hs.of_calm (y.calm_modifyTruck n f)
  lanes ht hl := by
    unfold LaneLaw
    rw [lane_eq_of_lanes (y.modifyTruck_lanes n f), y.docks_modifyTruck ht.trucks hl.numbered n
      (g := fun d => { d with state := st }) hf]
    refine DockLaw.map hl (fun d => by split <;> rfl) (fun d => by split <;> rfl) fun d hd => ?_
    split
    · next hn => exact (h hl _ (by rw [← hn]; exact hl.numbered.state_of_dock hd)).symm
    · rfl

/-- The other trucks keep their states. -/
theorem state_other {y : Yard} (ht : y.Tables) (hl : y.LaneLaw) {n m : Nat} {f : Truck → Truck}
    {g : Dock → Dock} (hf : ∀ t, (f t).dock = g t.dock) (number : ∀ d, (g d).number = d.number)
    (hne : m ≠ n) : (y.modifyTruck n f).truckState? m = y.truckState? m := by
  rw [truckState?_map (y.docks_modifyTruck ht.trucks (hl.numbered) n hf)
    (fun d => by split <;> simp [number]), truckState?_eq]
  refine Option.map_congr fun d hd => ?_
  have : d.number ≠ n := by
    have := List.find?_some hd
    simp only [decide_eq_true_eq] at this
    rw [this]
    exact hne
  rw [if_neg this]

end Yard

/-- What a change of trucks' states alone is: stacks, claims, moves, terminals and lanes stay, every dock keeps
its number and its lane, a truck holds a lane after it as before, and a LOADED truck stays so. -/
structure Yard.Restates (y z : Yard) : Prop where
  tables : y.Tables → z.Tables
  calm : z.calm = y.calm
  lanes : z.lanes = y.lanes
  docks : y.Tables → y.Numbered → ∃ g : Dock → Dock, z.docks = y.docks.map g
    ∧ (∀ d, (g d).number = d.number ∧ (g d).lane = d.lane)
    ∧ ∀ d ∈ y.docks, (g d).state.holdsLane = d.state.holdsLane
      ∧ (d.state = .loaded → (g d).state = .loaded)

namespace Yard

theorem Settles.restates {y z : Yard} (s : y.Settles false z) : y.Restates z :=
  ⟨s.tables, s.calm, s.docks.1, fun _ _ => ⟨id, by rw [s.docks.2, List.map_id], fun _ => ⟨rfl, rfl⟩,
    fun _ _ => ⟨rfl, id⟩⟩⟩

theorem Restates.refl (y : Yard) : y.Restates y := (Settles.refl y).restates

theorem Restates.numbered {y z : Yard} (h : y.Restates z) (ht : y.Tables) (hn : y.Numbered) :
    z.Numbered := by
  obtain ⟨g, hd, hg, -⟩ := h.docks ht hn
  unfold Numbered
  rw [hd, numbers_map fun d => (hg d).1]
  exact hn

theorem Restates.trans {y z w : Yard} (h : y.Restates z) (k : z.Restates w) : y.Restates w where
  tables := k.tables ∘ h.tables
  calm := k.calm.trans h.calm
  lanes := k.lanes.trans h.lanes
  docks ht hn := by
    obtain ⟨g, hd, hg, hs⟩ := h.docks ht hn
    obtain ⟨g', kd, kg, ks⟩ := k.docks (h.tables ht) (h.numbered ht hn)
    refine ⟨g' ∘ g, by rw [kd, hd, List.map_map],
      fun d => ⟨(kg _).1.trans (hg d).1, (kg _).2.trans (hg d).2⟩, fun d hm => ?_⟩
    have mapped : g d ∈ z.docks := by
      rw [hd]
      exact List.mem_map_of_mem hm
    exact ⟨(ks _ mapped).1.trans (hs d hm).1, (ks _ mapped).2 ∘ (hs d hm).2⟩

theorem Restates.keeps {y z : Yard} (h : y.Restates z) : y.Keeps z where
  tables := h.tables
  staging _ hs := hs.of_calm h.calm
  lanes ht hl := by
    obtain ⟨g, hd, hg, hs⟩ := h.docks ht hl.numbered
    unfold LaneLaw
    rw [lane_eq_of_lanes h.lanes, hd]
    exact DockLaw.map hl (fun d => (hg d).1) (fun d => (hg d).2) fun d hm => (hs d hm).1
  loaded ht hl n hn := by
    obtain ⟨g, hd, hg, hs⟩ := h.docks ht hl.numbered
    rw [truckState?_eq] at hn
    rw [truckState?_map hd fun d => (hg d).1]
    obtain ⟨d, hf, hstate⟩ := Option.map_eq_some_iff.mp hn
    rw [hf, Option.map_some, (hs d (List.mem_of_find?_eq_some hf)).2 hstate]

/-- A truck's state is written, from one that is not LOADED, where it holds a lane after as before. -/
theorem restates_state (y : Yard) (n : Nat) {f : Truck → Truck} {st : TruckState}
    (hf : ∀ t, (f t).dock = { t.dock with state := st })
    (h : y.Numbered → ∀ s, y.truckState? n = some s → s.holdsLane = st.holdsLane ∧ s ≠ .loaded) :
    y.Restates (y.modifyTruck n f) where
  tables ht := ht.modifyTruck n f
  calm := y.calm_modifyTruck n f
  lanes := y.modifyTruck_lanes n f
  docks ht hn := by
    refine ⟨_, y.docks_modifyTruck ht.trucks hn n (g := fun d => { d with state := st }) hf,
      fun d => by split <;> exact ⟨rfl, rfl⟩, fun d hd => ?_⟩
    split
    · next e =>
      obtain ⟨holds, other⟩ := h hn _ (by rw [← e]; exact hn.state_of_dock hd)
      exact ⟨holds.symm, fun loaded => absurd loaded other⟩
    · exact ⟨rfl, id⟩

theorem keeps_state (y : Yard) (n : Nat) {f : Truck → Truck} {st : TruckState}
    (hf : ∀ t, (f t).dock = { t.dock with state := st })
    (h : y.Numbered → ∀ s, y.truckState? n = some s → s.holdsLane = st.holdsLane ∧ s ≠ .loaded) :
    y.Keeps (y.modifyTruck n f) := (y.restates_state n hf h).keeps

theorem keeps_enterLoaded (y : Yard) (n : Nat)
    (h : y.Numbered → ∀ s, y.truckState? n = some s → s.holdsLane = true ∧ s ≠ .loaded) :
    y.Keeps (y.enterLoaded n) :=
  (y.keeps_state n (st := .loaded) (fun _ => rfl) h).trans (y.settles_enterLoaded_flags n).keeps

theorem keeps_testLoaded (y : Yard) (n : Nat) : y.Keeps (y.testLoaded n) := by
  unfold testLoaded
  split
  · exact .refl y
  · next t ht =>
    split
    · next hc =>
      refine y.keeps_enterLoaded n fun _ s hs => ?_
      rw [truckState?, ht] at hs
      obtain rfl := Option.some.inj hs
      rcases hc.1 with hc | hc <;> simp [hc, TruckState.holdsLane]
    · exact .refl y

/-! ### A truck leaves its lane, or the table -/

theorem Tables.dropTruck {y : Yard} (h : y.Tables) (n : Nat) : (y.dropTruck n).Tables := by
  unfold Yard.dropTruck
  split
  · exact { h with
      trucks := Table.wf_drop _ _ h.trucks
      truckIndex := Table.allVal_drop _ h.truckIndex }
  · exact h

theorem Tables.releaseLane {y : Yard} (h : y.Tables) (n : Nat) : (y.releaseLane n).Tables := by
  unfold Yard.releaseLane
  split
  · exact { h.modifyTruck n _ with }
  · exact h

theorem truck?_bind_lane (y : Yard) (n : Nat) : (y.truck? n).bind Truck.lane
    = (y.docks.find? fun d => decide (d.number = n)).bind Dock.lane := by
  rw [← truck?_dock]
  cases y.truck? n <;> rfl

/-- R70: what a release of a truck's lane leaves of lanes and docks. -/
theorem releaseLane_reads {y : Yard} (ht : y.Tables) (hl : y.LaneLaw) (n : Nat) :
    (y.releaseLane n).docks
        = (y.docks.map fun d => if d.number = n then { d with lane := none } else d)
      ∧ (∀ d ∈ y.docks, d.number = n → ∀ l, d.lane = some l →
          (y.releaseLane n).lane l = (y.lane l).release)
      ∧ ∀ l, (∀ d ∈ y.docks, d.number = n → d.lane ≠ some l) →
          (y.releaseLane n).lane l = y.lane l := by
  have numbers := hl.numbered
  have docks := y.docks_modifyTruck ht.trucks numbers n (f := fun t => { t with lane := none })
    (g := fun d => { d with lane := none }) (fun _ => rfl)
  have find : ∀ d ∈ y.docks, d.number = n →
      y.docks.find? (fun c => decide (c.number = n)) = some d :=
    fun d hd hn => (List.find?_number_iff numbers n d).mpr ⟨hd, hn⟩
  unfold Yard.releaseLane
  rw [truck?_bind_lane]
  cases hb : (y.docks.find? fun d => decide (d.number = n)).bind Dock.lane with
  | none =>
    have none : ∀ d ∈ y.docks, d.number = n → d.lane = none := fun d hd hn => by
      rw [find d hd hn] at hb
      exact hb
    refine ⟨?_, fun d hd hn l h => ?_, fun _ _ => rfl⟩
    · symm
      refine (List.map_congr_left fun d hd => ?_).trans (List.map_id _)
      split
      · next hn => rw [← none d hd hn]; rfl
      · rfl
    · rw [none d hd hn] at h
      cases h
  | some k =>
    obtain ⟨c, hc, hck⟩ := Option.bind_eq_some_iff.mp hb
    obtain ⟨hcm, hcn⟩ := (List.find?_number_iff numbers n c).mp hc
    have hk : k < 6 := (DockLaw.at_lane hl (DockLaw.far y) hcm hck).1
    have lane : ∀ l, ((y.modifyTruck n fun t => { t with lane := Option.none }).modifyLane k
        Lane.release).lane l = if l = k then (y.lane l).release else y.lane l := by
      intro l
      rw [lane_modifyLane, lane_eq_of_lanes (y.modifyTruck_lanes n _)]
      simp [hk]
    refine ⟨docks, fun d hd hn l h => ?_, fun l h => ?_⟩
    · obtain rfl := Option.some.inj (hc.symm.trans (find d hd hn))
      obtain rfl := Option.some.inj (h.symm.trans hck)
      simpa using lane l
    · have hlk : l ≠ k := by
        rintro rfl
        exact h c hcm hcn hck
      simpa [hlk] using lane l

/-- The states of the other trucks after a truck has left the table. -/
theorem state_dropTruck {y : Yard} (ht : y.Tables) (hl : (y.docks.map Dock.number).Nodup) {n m : Nat}
    (hne : m ≠ n) : (y.dropTruck n).truckState? m = y.truckState? m := by
  rw [truckState?_eq, truckState?_eq, docks_dropTruck ht.trucks hl, List.find?_filter]
  congr 1
  refine List.find?_congr fun d _ => ?_
  by_cases hd : d.number = m
  · simp [hd, hne]
  · simp [hd]

/-- A truck without a lane leaves the table (R64, R68). -/
theorem keeps_dropTruck (y : Yard) (n : Nat)
    (h : y.LaneLaw → ∀ s, y.truckState? n = some s → s.holdsLane = false) :
    y.Keeps (y.dropTruck n) where
  tables ht := ht.dropTruck n
  staging _ hs := hs.of_calm (y.calm_dropTruck n)
  lanes ht hl := by
    have numbers := hl.numbered
    have away : ∀ d ∈ y.docks, d.number = n → d.lane = none := fun d hd hn =>
      hl.away d hd (h hl _ (by rw [← hn]; exact hl.numbered.state_of_dock hd))
    unfold LaneLaw
    rw [lane_eq_of_lanes (y.dropTruck_lanes n), docks_dropTruck ht.trucks numbers]
    refine DockLaw.release hl (DockLaw.far y) n (numbers.sublist (List.filter_sublist.map _))
      (fun d hd => by simp [hd]) (fun d hd hn => by simp [hn] at hd) (fun d hd hn l e => ?_)
      (fun _ _ => rfl)
    rw [away d hd hn] at e
    cases e
  loaded ht hl m hm := by
    have hne : m ≠ n := by
      rintro rfl
      have := h hl _ hm
      cases this
    rw [state_dropTruck ht (hl.numbered) hne]
    exact hm

/-- R67: the end of unloading: the lane is released and the truck leaves the table. -/
theorem keeps_testUnloaded (y : Yard) (n : Nat) : y.Keeps (y.testUnloaded n) := by
  unfold testUnloaded
  split
  case isFalse => exact .refl y
  case isTrue hu =>
    simp only [unloadingEnded, Bool.and_eq_true, decide_eq_true_eq] at hu
    have unloading := hu.1.1
    refine Keeps.trans ?_ (keeps_raise _ _)
    have numbers' : ∀ {ht : y.Tables} (hl : y.LaneLaw),
        ((y.releaseLane n).docks.map Dock.number).Nodup := fun {ht} hl => by
      rw [(releaseLane_reads ht hl n).1, numbers_map (fun d => by split <;> rfl)]
      exact hl.numbered
    refine { tables := fun ht => (ht.releaseLane n).dropTruck n
             staging := fun _ hs =>
              hs.of_calm ((calm_dropTruck _ n).trans (y.calm_releaseLane n))
             lanes := fun ht hl => ?_
             loaded := fun ht hl m hm => ?_ }
    · obtain ⟨docks, released, kept⟩ := releaseLane_reads ht hl n
      have numbers := numbers' (ht := ht) hl
      have left : ((y.releaseLane n).dropTruck n).docks = y.docks.filter fun d => d.number != n := by
        rw [docks_dropTruck (ht.releaseLane n).trucks numbers, docks, List.filter_map]
        refine (List.map_congr_left fun d hd => ?_).trans ((List.map_id _).trans ?_)
        · have : d.number ≠ n := by
            have := (List.mem_filter.mp hd).2
            simp only [Function.comp_apply] at this
            split at this
            · next e => simp [e] at this
            · next e => exact e
          rw [if_neg this]
          rfl
        · refine List.filter_congr fun d _ => ?_
          simp only [Function.comp_apply]
          split <;> rfl
      unfold LaneLaw
      rw [lane_eq_of_lanes (dropTruck_lanes _ n), left]
      exact DockLaw.release hl (DockLaw.far y) n ((hl.numbered).sublist
        (List.filter_sublist.map _)) (fun d hd => by simp [hd]) (fun d hd hn => by simp [hn] at hd)
        released kept
    · have hne : m ≠ n := by
        rintro rfl
        rw [unloading] at hm
        cases hm
      rw [state_dropTruck (ht.releaseLane n) (numbers' (ht := ht) hl) hne,
        truckState?_map (releaseLane_reads ht hl n).1 (fun d => by split <;> rfl)]
      rw [truckState?_eq] at hm
      rw [← hm]
      exact congrArg (Option.map · _) (funext fun d => by split <;> rfl)

end Yard

/-! ### Placement and offers -/

/-- A placement of a truck in the table: writes that show no dock a change, with the truck's state set to
LOADING or LOADED once between them (R104). -/
theorem Act.place_shape (e : Env) (a : Act) (n : Nat) (h : (a.yard.truck? n).isSome = true) :
    ∃ (y : Yard) (st : TruckState), a.yard.Settles false y ∧ (st = .loading ∨ st = .loaded)
      ∧ (y.modifyTruck n fun t => { t with state := st }).Settles false (a.place e n).yard := by
  obtain ⟨t, ht⟩ := Option.isSome_iff_exists.mp h
  unfold Act.place
  simp only [ht, Act.on_yard, Act.writePlan_eq]
  generalize (if t.carriesNothing e.settings.planning.headroom then ([], t.assignedTags)
    else shorten _ _) = r
  have before := (Yard.Settles.foldl (free := false) Act.settles_releaseForWeight r.2 a).trans
    (Act.settles_planned _ n r.1.reverse)
  split
  · exact ⟨_, .loaded, before, .inr rfl, ((Yard.settles_enterLoaded_flags _ n).trans
      (Act.settles_clearDue ((Act.planned _ n r.1.reverse).on fun y => y.enterLoaded n))).trans (Yard.settles_judgeAll e _)⟩
  · exact ⟨_, .loading, before, .inl rfl,
      (Act.settles_clearDue ((Act.planned _ n r.1.reverse).on fun y =>
        y.modifyTruck n fun t => { t with state := .loading })).trans (Yard.settles_judgeAll e _)⟩

theorem Yard.Settles.truckState? {y z : Yard} (s : y.Settles false z) (n : Nat) :
    z.truckState? n = y.truckState? n := by
  rw [Yard.truckState?_eq, s.docks.2, ← Yard.truckState?_eq]

theorem Yard.Settles.numbered {y z : Yard} (s : y.Settles false z) : z.Numbered ↔ y.Numbered := by
  rw [Yard.Numbered, s.docks.2, Yard.Numbered]

theorem Act.restates_place (e : Env) (a : Act) (n : Nat)
    (h : a.yard.Numbered → ∀ s, a.yard.truckState? n = some s → s = .shortWait) :
    a.yard.Restates (a.place e n).yard := by
  cases ht : a.yard.truck? n with
  | none =>
    unfold Act.place
    rw [ht]
    exact .refl _
  | some t =>
    obtain ⟨y, st, before, hst, after⟩ := a.place_shape e n (by rw [ht]; rfl)
    refine (before.restates.trans (y.restates_state n (st := st) (fun _ => rfl) fun hn s hs => ?_)).trans
      after.restates
    rw [before.truckState?] at hs
    obtain rfl := h (before.numbered.mp hn) s hs
    rcases hst with rfl | rfl <;> simp [TruckState.holdsLane]

theorem Act.restates_endStockWait (e : Env) (a : Act) (n : Nat)
    (h : a.yard.Numbered → ∀ s, a.yard.truckState? n = some s → s = .shortWait) :
    a.yard.Restates (a.endStockWait e n).yard := by
  have quiet := a.yard.settles_dropDeadline (free := false) n
  rw [Act.endStockWait]
  refine Yard.Restates.trans ?_ (Act.restates_place e _ n fun hn s hs => ?_)
  · exact quiet.restates
  · rw [Act.on_yard, quiet.truckState?] at hs
    exact h (quiet.numbered.mp hn) s hs

theorem mem_insertBy {α : Type} (before : α → α → Bool) (a b : α) (l : List α) :
    b ∈ insertBy before a l ↔ b = a ∨ b ∈ l := by
  induction l with
  | nil => simp [insertBy]
  | cons c rest ih =>
    unfold insertBy
    split
    · simp only [List.mem_cons, ih]; tauto
    · simp only [List.mem_cons]

theorem mem_sortBy {α : Type} (before : α → α → Bool) (b : α) (l : List α) :
    b ∈ sortBy before l ↔ b ∈ l := by
  induction l with
  | nil => simp [sortBy]
  | cons a rest ih => simp only [sortBy, mem_insertBy, ih, List.mem_cons]

/-- A truck record of the table has the state that its number reads, where the numbers differ. -/
theorem Yard.Numbered.state_of_entry {y : Yard} (h : y.Numbered) {en : Nat × Truck}
    (hm : en ∈ y.trucks.entries) : y.truckState? en.2.number = some en.2.state :=
  h.state_of_dock (List.mem_map.mpr ⟨en, hm, rfl⟩)

theorem Yard.waitingTrucks_spec {y : Yard} {en : Nat × Truck} (h : en ∈ y.waitingTrucks) :
    en ∈ y.trucks.entries ∧ en.2.state = .shortWait := by
  simpa [Yard.waitingTrucks, mem_sortBy, Table.pick] using h

/-- R84: the truck a freed pack is reserved to is in SHORT_WAIT. -/
theorem Yard.offerTaker_waits {e : Env} {y : Yard} {tag number line : Nat}
    (h : y.offerTaker e tag = some (number, line)) (hl : y.Numbered) :
    y.truckState? number = some .shortWait := by
  unfold Yard.offerTaker at h
  split at h
  · cases h
  · obtain ⟨en, hen, hline⟩ := List.exists_of_findSome?_eq_some h
    obtain ⟨l, -, hpair⟩ := Option.map_eq_some_iff.mp hline
    obtain ⟨rfl, rfl⟩ := Prod.mk.inj hpair
    obtain ⟨hmem, hstate⟩ := Yard.waitingTrucks_spec hen
    rw [← hstate]
    exact hl.state_of_entry hmem

/-- R74: the truck whose stock wait expires is in SHORT_WAIT. -/
theorem Yard.expiredWait_waits {y : Yard} {now number : Nat} (h : y.expiredWait now = some number)
    (hl : y.Numbered) : y.truckState? number = some .shortWait := by
  obtain ⟨en, hen, rfl⟩ := Option.map_eq_some_iff.mp h
  obtain ⟨hmem, hstate⟩ := Yard.waitingTrucks_spec (List.mem_of_find?_eq_some hen)
  rw [← hstate]
  exact hl.state_of_entry hmem

theorem Act.restates_offer (e : Env) (a : Act) (tag : Nat) :
    a.yard.Restates (a.offer e tag).yard := by
  unfold Act.offer
  split
  · exact .refl _
  · next number line ht =>
    have reserved := a.yard.settles_reserve (free := false) number line tag
    simp only
    split
    · split
      · exact reserved.restates
      · refine Yard.Restates.trans ?_ (Act.restates_endStockWait e _ number fun hn s hs => ?_)
        · exact reserved.restates
        · rw [Act.on_yard, reserved.truckState?,
            Yard.offerTaker_waits ht (reserved.numbered.mp hn)] at hs
          exact (Option.some.inj hs).symm
    · exact reserved.restates

theorem Act.restates_offerAll (e : Env) (fuel : Nat) (a : Act) :
    a.yard.Restates (Act.offerAll e fuel a).yard := by
  induction fuel generalizing a with
  | zero => exact .refl _
  | succ fuel ih =>
    unfold Act.offerAll
    split
    · exact .refl _
    · next tag rest _ => exact (Act.restates_offer e { a with freed := rest } tag).trans (ih _)

theorem Act.restates_offers (e : Env) (a : Act) : a.yard.Restates (a.offers e).yard :=
  a.restates_offerAll e _

theorem Act.keeps_offers (e : Env) (a : Act) : a.yard.Keeps (a.offers e).yard :=
  (a.restates_offers e).keeps

theorem Act.keeps_clearDue (a : Act) : a.yard.Keeps a.clearDue.yard := a.settles_clearDue.keeps

theorem Yard.keeps_judgeAll (e : Env) (y : Yard) : y.Keeps (y.judgeAll e) := (y.settles_judgeAll e).keeps

theorem Act.keeps_settled (e : Env) (a : Act) : a.yard.Keeps (a.settled e).yard := by
  have before : a.yard.Settles false (a.clearDue.needs.on (Yard.judgeAll e)).yard :=
    (a.settles_clearDue.trans (Act.settles_needs _)).trans (Yard.settles_judgeAll e _)
  exact before.keeps.trans (Act.keeps_offers e _)

/-! ### Grants -/

/-- A grant to a truck in the table: its lane and dock are written, and its state is set to SHORT_WAIT, LOADING
or LOADED, among writes that show no dock a change (R73, R81). -/
theorem Act.grant_shape (e : Env) (a : Act) (lane n : Nat)
    (h : ((a.berthed e lane n).yard.truck? n).isSome = true) :
    ∃ (y : Yard) (f : Truck → Truck) (st : TruckState), (a.berthed e lane n).yard.Settles false y
      ∧ st.holdsLane = true ∧ (∀ t, (f t).dock = { t.dock with state := st })
      ∧ (y.modifyTruck n f).Settles false (a.grant e lane n).yard := by
  have run := Yard.settles_allocate (free := false) e (a.berthed e lane n).yard n
  have there : (((a.berthed e lane n).yard.allocate e n).truck? n).isSome = true := by
    have : ((((a.berthed e lane n).yard.allocate e n).truck? n).map Truck.dock).isSome = true := by
      rw [Yard.truck?_dock, run.docks.2, ← Yard.truck?_dock]
      simpa using h
    simpa using this
  rw [Act.grant_eq]
  obtain ⟨t, ht⟩ := Option.isSome_iff_exists.mp there
  unfold Act.afterRun
  simp only [Act.on_yard, ht]
  split
  · exact ⟨_, _, .shortWait, run, rfl, fun _ => rfl, .refl _⟩
  · obtain ⟨y, st, before, hst, after⟩ :=
      Act.place_shape e ((a.berthed e lane n).on fun y => y.allocate e n) n there
    refine ⟨y, _, st, run.trans before, ?_, fun _ => rfl, after⟩
    rcases hst with rfl | rfl <;> rfl

theorem Yard.freeLane_spec {y : Yard} {l : Nat} (h : y.freeLane = some l) :
    l < 6 ∧ (y.lane l).state = .free := by
  refine ⟨by simpa using List.mem_of_find?_eq_some h, ?_⟩
  simpa using List.find?_some (p := fun l => decide ((y.lane l).state = .free)) h

theorem Yard.firstQueued_spec {e : Env} {y : Yard} {en : Nat × Truck} (h : y.firstQueued e = some en) :
    en ∈ y.trucks.entries ∧ en.2.state = .queued := by
  simpa [mem_sortBy, Table.pick] using List.mem_of_head? h

theorem Act.tables_berthed (e : Env) (a : Act) (lane n : Nat) (h : a.yard.Tables) :
    (a.berthed e lane n).yard.Tables :=
  { Yard.Tables.modifyTruck (y := a.yard.modifyLane lane fun _ =>
      { state := .occupied, holder := some n }) { h with } n fun t =>
      { t with lane := some lane, grantedAt := some e.clock } with }

theorem Act.keeps_grant (e : Env) (a : Act) {lane : Nat} {en : Nat × Truck}
    (hlane : a.yard.freeLane = some lane) (hq : a.yard.firstQueued e = some en) :
    a.yard.Keeps (a.grant e lane en.2.number).yard := by
  obtain ⟨hlt, hfree⟩ := Yard.freeLane_spec hlane
  obtain ⟨hmem, hstate⟩ := Yard.firstQueued_spec hq
  have settles := a.settles_grant e lane en.2.number
  -- the docks and lanes after the grant, from the shape of the grant
  have docks : a.yard.Tables → a.yard.LaneLaw → ∃ st : TruckState, st.holdsLane = true
      ∧ (a.grant e lane en.2.number).yard.docks = a.yard.docks.map (fun d =>
          if d.number = en.2.number then { number := d.number, lane := some lane, state := st } else d)
      ∧ (a.grant e lane en.2.number).yard.lanes = (a.yard.modifyLane lane fun _ =>
          { state := .occupied, holder := some en.2.number }).lanes := by
    intro ht hl
    have numbers := hl.numbered
    have berthed : (a.berthed e lane en.2.number).yard.docks = a.yard.docks.map fun d =>
        if d.number = en.2.number then { d with lane := some lane } else d :=
      Yard.docks_modifyTruck (y := a.yard.modifyLane lane _) ht.trucks numbers en.2.number
        (g := fun d => { d with lane := some lane }) (fun _ => rfl)
    have keep : ∀ d : Dock, (if d.number = en.2.number then { d with lane := some lane } else d).number
        = d.number := fun d => by split <;> rfl
    have there : ((a.berthed e lane en.2.number).yard.truck? en.2.number).isSome = true := by
      have : (((a.berthed e lane en.2.number).yard.truck? en.2.number).map Truck.dock).isSome = true := by
        rw [Yard.truck?_dock, berthed, List.find?_isSome]
        refine ⟨_, List.mem_map_of_mem (List.mem_map_of_mem hmem), ?_⟩
        rw [keep]
        exact decide_eq_true rfl
      simpa using this
    obtain ⟨y, f, st, before, hst, hf, after⟩ := a.grant_shape e lane en.2.number there
    have tables : y.Tables := before.tables (a.tables_berthed e lane en.2.number ht)
    refine ⟨st, hst, ?_, ?_⟩
    · rw [after.docks.2, Yard.docks_modifyTruck tables.trucks (by
        rw [before.docks.2, berthed, numbers_map keep]; exact numbers) en.2.number
        (g := fun d => { d with state := st }) hf, before.docks.2, berthed, List.map_map]
      refine List.map_congr_left fun d _ => ?_
      simp only [Function.comp, keep]
      split <;> rfl
    · rw [after.docks.1, Yard.modifyTruck_lanes, before.docks.1]
      exact Yard.modifyTruck_lanes ..
  refine { tables := fun h => settles.tables h, staging := fun _ h => h.of_calm settles.calm,
           lanes := fun ht hl => ?_, loaded := fun ht hl m hm => ?_ }
  · obtain ⟨st, hst, hd, hlanes⟩ := docks ht hl
    unfold Yard.LaneLaw
    rw [hd, Yard.lane_eq_of_lanes hlanes]
    refine DockLaw.grant hl (l := lane) (List.mem_map_of_mem hmem) rfl (by
        show en.2.state.holdsLane = false
        rw [hstate]; rfl) hfree hlt (fun _ => ⟨rfl, rfl⟩) (fun _ _ _ => hst) ?_ fun k hk => ?_
    · rw [Yard.lane_modifyLane, if_pos ⟨rfl, hlt⟩]
    · rw [Yard.lane_modifyLane, if_neg fun h => hk h.1]
  · obtain ⟨st, hst, hd, hlanes⟩ := docks ht hl
    have hne : m ≠ en.2.number := by
      rintro rfl
      rw [hl.numbered.state_of_entry hmem, hstate] at hm
      cases hm
    rw [Yard.truckState?_map hd (fun d => by split <;> rfl)]
    rw [Yard.truckState?_eq] at hm
    rw [← hm]
    refine Option.map_congr fun d hd => ?_
    have : d.number ≠ en.2.number := by
      have := List.find?_some hd
      simp only [decide_eq_true_eq] at this
      rw [this]
      exact hne
    rw [if_neg this]

theorem Act.keeps_grants (e : Env) (fuel : Nat) (a : Act) :
    a.yard.Keeps (Act.grants e fuel a).yard := by
  induction fuel generalizing a with
  | zero => exact .refl _
  | succ fuel ih =>
    unfold Act.grants
    split
    · next lane i t hlane hq =>
      split
      · exact ((a.keeps_grant e hlane hq).trans (Act.keeps_offers e _)).trans (ih _)
      · exact .refl _
    · exact .refl _

end Sys2Proof.Machine
end

section
/-! SUPPORT. The move numbers (R132), the send (R119) and the service of the zone queues (R116): what a send
plan reads, and that sends keep the laws of the yard. -/

namespace Sys2Proof.Machine

/-! ### A free move number -/

/-- The move number that is `k` steps after `n`. -/
def moveNumberAfter (n k : Nat) : Nat :=
  if n + k ≤ 65535 then n + k else if n ≤ 65535 then n + k - 65535 else if k = 0 then n else k

theorem moveNumberAfter_zero (n : Nat) : moveNumberAfter n 0 = n := by
  unfold moveNumberAfter
  split_ifs <;> omega

theorem moveNumberAfter_next (n : Nat) {k : Nat} (h : k ≤ 65533) :
    moveNumberAfter (nextMoveNumber n) k = moveNumberAfter n (k + 1) := by
  unfold nextMoveNumber
  unfold moveNumberAfter
  rw [if_neg (Nat.succ_ne_zero k)]
  split_ifs <;> omega

/-- The first numbers of the run are distinct. -/
theorem moveNumberAfter_inj {n k l : Nat} (hk : k < 33) (hl : l < 33)
    (h : moveNumberAfter n k = moveNumberAfter n l) : k = l := by
  unfold moveNumberAfter at h
  split_ifs at h <;> omega

/-- Where the number found is taken, every number tried is. -/
theorem freeMoveNumber_taken {moves : Table Move} {fuel n : Nat} (hf : fuel ≤ 33)
    (h : moves.has (freeMoveNumber moves fuel n) = true) :
    ∀ k, k < fuel → moves.has (moveNumberAfter n k) = true := by
  induction fuel generalizing n with
  | zero => exact fun k hk => absurd hk (Nat.not_lt_zero k)
  | succ fuel ih =>
    unfold freeMoveNumber at h
    split at h
    · next hn =>
      intro k hk
      cases k with
      | zero => rw [moveNumberAfter_zero]; exact hn
      | succ k =>
        rw [← moveNumberAfter_next n (by omega)]
        exact ih (by omega) h k (by omega)
    · next hn => exact absurd h hn

/-- The moves that the eight terminals list. -/
def Yard.listedMoves (y : Yard) : List Nat := (List.range 8).flatMap fun t => (y.terminal t).moves

theorem Yard.Staging.listedMoves_length {y : Yard} (h : y.Staging) : y.listedMoves.length ≤ 32 := by
  have each : ∀ t, (y.terminal t).moves.length ≤ 4 := fun t =>
    Nat.le_trans (h.credit t).1 (h.credit t).2
  rw [Yard.listedMoves, List.length_flatMap]
  calc ((List.range 8).map fun t => (y.terminal t).moves.length).sum
      ≤ ((List.range 8).map fun t => (y.terminal t).moves.length).length * 4 := by
        refine List.sum_le_card_nsmul _ 4 fun x hx => ?_
        obtain ⟨t, -, rfl⟩ := List.mem_map.mp hx
        exact each t
    _ ≤ 32 := by simp

/-- R132: the 33 numbers tried are distinct, and at most 32 moves are outstanding. -/
theorem Yard.Staging.freeMoveNumber {y : Yard} (h : y.Staging) :
    y.move? (freeMoveNumber y.loader.moves 33 y.loader.counter) = none := by
  by_contra taken
  have has : ∀ k, k < 33 → moveNumberAfter y.loader.counter k ∈ y.listedMoves := by
    intro k hk
    have := freeMoveNumber_taken (Nat.le_refl 33)
      (Option.isSome_iff_ne_none.mpr taken) k hk
    obtain ⟨m, hm⟩ := Option.isSome_iff_exists.mp this
    have held := h.held _ m hm
    have := y.terminal_le_of_mem held
    exact List.mem_flatMap.mpr ⟨m.terminal, List.mem_range.mpr (by omega), held⟩
  have distinct : ((List.range 33).map (moveNumberAfter y.loader.counter)).Nodup :=
    List.nodup_range.map_on fun k hk l hl e =>
      moveNumberAfter_inj (List.mem_range.mp hk) (List.mem_range.mp hl) e
  have within : (List.range 33).map (moveNumberAfter y.loader.counter) ⊆ y.listedMoves := by
    intro n hn
    obtain ⟨k, hk, rfl⟩ := List.mem_map.mp hn
    exact has k (List.mem_range.mp hk)
  have := (distinct.subperm within).length_le
  have := h.listedMoves_length
  simp at *
  omega

/-! ### What a send plan reads -/

theorem Settings.heightLimit_le (s : Settings) (b : Nat) : s.heightLimit b ≤ 6 := by
  have low : ∀ (ws : List Window) (n : Nat), ws.foldl
      (fun low w => if decide (w.kind = .height) && w.covers b then min low w.limit else low) n ≤ n := by
    intro ws
    induction ws with
    | nil => exact Nat.le_refl
    | cons w rest ih =>
      intro n
      refine Nat.le_trans (ih _) ?_
      simp only
      split
      · exact Nat.min_le_left ..
      · exact Nat.le_refl n
  exact low _ _

theorem Yard.lt_of_room {s : Settings} {y : Yard} {b : Nat} (h : 0 < y.room s b) :
    y.height b + y.claimsOf b < 6 := by
  have := s.heightLimit_le b
  unfold Yard.room at h
  omega

/-- R118: a staging bay chosen as destination is clear and has room. -/
theorem Yard.stagingDest_takes {e : Env} {y : Yard} {zone b : Nat}
    (h : y.stagingDest e zone = some b) : y.takesAside e b = true := by
  unfold Yard.stagingDest at h
  split at h
  · next c hc =>
    obtain rfl := Option.some.inj h
    have := List.find?_some hc
    simp only [Bool.and_eq_true] at this
    exact this.1
  · exact List.find?_some h

theorem Yard.takesAside_iff {e : Env} {y : Yard} {b : Nat} : y.takesAside e b = true ↔
    y.clearStaging e.settings b = true ∧ 0 < y.room e.settings b := by
  simp [Yard.takesAside]

/-- R118, R119: a move to a bay goes to a clear staging bay with room. -/
theorem Yard.moveDest_bay {e : Env} {y : Yard} {zone b : Nat} {j : Job}
    (h : y.moveDest e zone j = some (.bay b)) : y.takesAside e b = true := by
  unfold Yard.moveDest at h
  split at h
  · obtain ⟨l, -, hl⟩ := Option.map_eq_some_iff.mp h
    cases hl
  · obtain ⟨c, hc, hcb⟩ := Option.map_eq_some_iff.mp h
    cases hcb
    exact Yard.stagingDest_takes hc

/-- R117: the terminal chosen is ACTIVE with a credit free. -/
theorem Yard.terminalFor_canTake {y : Yard} {zone k : Nat} {bound : Option Nat}
    (h : y.terminalFor zone bound = some k) : (y.terminal k).canTake = true := by
  unfold Yard.terminalFor at h
  split at h
  · split at h
    · next hc => obtain rfl := Option.some.inj h; exact hc
    · cases h
  · split at h
    · next hc => obtain rfl := Option.some.inj h; exact hc
    · split at h
      · next hc => obtain rfl := Option.some.inj h; exact hc
      · cases h

/-- What a send plan of a job says: its terminal, its source and its destination are those of R117 to R119. -/
theorem Yard.sendPlan?_spec {e : Env} {y : Yard} {zone n : Nat} {pl : SendPlan}
    (h : y.sendPlan? e zone n = some pl) : ∃ j, y.job? n = some j ∧ pl.job = n ∧ pl.tag = j.tag
      ∧ pl.kind = j.moveKind ∧ y.terminalFor zone j.bound = some pl.terminal
      ∧ y.moveDest e zone j = some pl.dest := by
  unfold Yard.sendPlan? at h
  split at h
  · cases h
  · next j hj =>
    split at h
    · next k src dst hk _ hd =>
      obtain rfl := Option.some.inj h
      exact ⟨j, hj, rfl, rfl, rfl, hk, hd⟩
    · cases h

/-! ### The send keeps the laws of the yard -/

theorem Yard.Tables.send {y : Yard} (h : y.Tables) (pl : SendPlan) : (y.send pl).Tables := by
  have written := h.modifyJob pl.job fun j =>
    { j with state := .sent, bound := none,
             move := some (freeMoveNumber y.loader.moves 33 y.loader.counter) }
  have moves := Table.wf_put y.loader.moves (freeMoveNumber y.loader.moves 33 y.loader.counter)
    { kind := pl.kind, job := pl.job, tag := pl.tag, terminal := pl.terminal, source := pl.source,
      dest := pl.dest, state := .sent, delivered := false } h.moves
  have claims : (match pl.dest with
      | .bay b => y.takeClaim b
      | .bed .. => y).Tables := by
    split
    · exact h.takeClaim _
    · exact h
  have packs := h.modifyPack pl.tag fun p => { p with prior := some p.state, state := .moving }
  unfold Yard.send
  cases hd : pl.dest with
  | bay b =>
    rw [hd] at claims moves
    exact { claims with
      jobs := written.jobs, jobIndex := written.jobIndex, moves := moves
      packs := packs.packs, packCount := packs.packCount }
  | bed l r =>
    rw [hd] at moves
    exact { written with moves := moves, packs := packs.packs, packCount := packs.packCount }

theorem Yard.keeps_send (e : Env) (y : Yard) {zone n : Nat} {pl : SendPlan}
    (h : y.sendPlan? e zone n = some pl) : y.Keeps (y.send pl) := by
  obtain ⟨j, -, -, -, -, hk, hd⟩ := Yard.sendPlan?_spec h
  refine .of_docks (fun ht => ht.send pl) (fun _ hs => hs.send pl hs.freeMoveNumber
    (Yard.terminalFor_canTake hk) fun b hb => ?_) ?_ ?_
  · rw [hb] at hd
    exact Yard.lt_of_room (Yard.takesAside_iff.mp (Yard.moveDest_bay hd)).2
  · unfold Yard.send
    cases pl.dest <;> rfl
  · unfold Yard.send
    cases pl.dest <;> rfl

theorem Yard.keeps_serveZone (e : Env) (zone fuel : Nat) (y : Yard) :
    y.Keeps (Yard.serveZone e zone fuel y) := by
  induction fuel generalizing y with
  | zero => exact .refl y
  | succ fuel ih =>
    unfold Yard.serveZone
    split
    · exact .refl y
    · next pl hpl =>
      obtain ⟨n, -, hn⟩ := List.exists_of_findSome?_eq_some hpl
      exact ((y.keeps_send e hn).trans (Yard.keeps_judgeAll e _)).trans (ih _)

theorem Yard.keeps_serveAll (e : Env) (y : Yard) : y.Keeps (y.serveAll e) := by
  unfold Yard.serveAll
  split
  · have served : ∀ (zs : List Nat) (y : Yard),
        y.Keeps (zs.foldl (fun y z => Yard.serveZone e z 33 y) y) := by
      intro zs
      induction zs with
      | nil => exact Yard.Keeps.refl
      | cons z rest ih => exact fun y => (y.keeps_serveZone e z 33).trans (ih _)
    exact served _ y
  · exact .refl y

/-- What follows an act keeps the laws of the yard. -/
theorem Act.keeps_finish (e : Env) (a : Act) : a.yard.Keeps (a.finish e) :=
  ((a.keeps_settled e).trans (Act.keeps_grants e 6 _)).trans (Yard.keeps_serveAll e _)

end Sys2Proof.Machine
end

section
/-! SUPPORT. The acts of chapters 2 to 9 keep the laws of the yard: one lemma for each operation. -/

namespace Sys2Proof.Machine

/-! ### Notices, stacks and packs -/

theorem Yard.keeps_dropNotice (y : Yard) (t : Nat) (k : Notice) : y.Keeps (y.dropNotice t k) :=
  y.keeps_terminal t _ (fun _ => rfl) (fun _ => rfl) fun _ => id

theorem Yard.keeps_addReject (y : Yard) (t n : Nat) : y.Keeps (y.addReject t n) :=
  y.keeps_terminal t _ (fun _ => by split <;> rfl) (fun _ => by split <;> rfl) fun _ => by
    split <;> exact id

theorem Yard.keeps_addWithdraw (y : Yard) (t n : Nat) : y.Keeps (y.addWithdraw t n) :=
  y.keeps_terminal t _ (fun _ => by split <;> rfl) (fun _ => by split <;> rfl) fun _ => by
    split <;> exact id

theorem Yard.keeps_measure (y : Yard) (tag : Nat) (mc : Option Nat) : y.Keeps (y.measure tag mc) := by
  unfold Yard.measure
  split
  · exact .refl y
  · exact y.keeps_modifyPack tag _

theorem Truck.dock_modifyPos (t : Truck) (r : BedRef) (f : BedPos → BedPos) :
    (t.modifyPos r f).dock = t.dock := rfl

theorem Truck.dock_vacate (t : Truck) (r : BedRef) : (t.vacate r).dock = t.dock := rfl

namespace Act

theorem keeps_leave (a : Act) (tag : Nat) : a.yard.Keeps (a.leave tag).yard := by
  unfold Act.leave
  split
  · exact a.yard.keeps_leaveStack _ tag
  · exact .refl _

theorem keeps_setPackState (a : Act) (tag : Nat) (st : PackState) :
    a.yard.Keeps (a.setPackState tag st).yard :=
  a.yard.keeps_modifyPack tag _

theorem keeps_returnPack (a : Act) (tag : Nat) : a.yard.Keeps (a.returnPack tag).yard :=
  a.yard.keeps_modifyPack tag _

theorem keeps_toDoubt (a : Act) (tag : Nat) : a.yard.Keeps (a.toDoubt tag).yard :=
  ((a.keeps_leave tag).trans (Yard.keeps_modifyPack _ tag _)).trans (Yard.keeps_raise _ _)

theorem keeps_endJob (a : Act) (n : Nat) : a.yard.Keeps (a.endJob n).yard := (a.settles_endJob n).keeps

theorem keeps_endJobOf (a : Act) (tag : Nat) : a.yard.Keeps (a.endJobOf tag).yard :=
  (a.settles_endJobOf tag).keeps

theorem keeps_createJob (a : Act) (w : JobWork) (tag : Nat) : a.yard.Keeps (a.createJob w tag).yard :=
  (a.settles_createJob w tag).keeps

theorem keeps_jobWaits (a : Act) (n : Nat) : a.yard.Keeps (a.jobWaits n).yard :=
  (a.settles_jobWaits n).keeps

theorem keeps_suspendJob (a : Act) (n : Nat) : a.yard.Keeps (a.suspendJob n).yard :=
  (a.settles_suspendJob n).keeps

/-! ### Refills and releases (R23, R87 to R90) -/

theorem keeps_fillVacancy (a : Act) (number line : Nat) (r : BedRef) (pl : Plan) :
    a.yard.Keeps (a.fillVacancy number line r pl).yard := by
  refine Yard.Keeps.trans ?_ (Act.keeps_createJob _ _ _)
  exact ((a.yard.settles_takePack number line pl.tag).trans
    (.quiet _ number fun t => t.dock_modifyPos r _)).keeps

theorem keeps_failRefill (a : Act) (number line : Nat) (candidates : Bool) :
    a.yard.Keeps (a.failRefill number line candidates).yard := by
  refine Yard.Keeps.trans ?_ (Yard.keeps_testLoaded _ number)
  split
  · exact (a.yard.settles_addWeightShort number line).keeps
  · exact (a.yard.settles_modifyStockShort number line _).keeps

theorem keeps_replace (e : Env) (a : Act) (number line : Nat) (r : BedRef) :
    a.yard.Keeps (a.replace e number line r).yard := by
  unfold Act.replace
  split
  · split
    · exact a.keeps_failRefill ..
    · simp only
      split
      · exact a.keeps_fillVacancy ..
      · exact a.keeps_failRefill ..
  · exact .refl _

theorem keeps_refill (e : Env) (a : Act) (number line tag : Nat) :
    a.yard.Keeps (a.refill e number line tag).yard := by
  unfold Act.refill
  split
  · exact .refl _
  · split
    · exact a.keeps_failRefill ..
    · next t _ r _ =>
      simp only
      refine Yard.Keeps.trans (Yard.Settles.keeps ?_) (Act.keeps_replace e _ _ _ _)
      have vacated : a.yard.Settles false (a.yard.modifyTruck number fun t => (t.vacateForRefill r).1) :=
        .quiet _ number fun t => t.dock_vacateForRefill r
      split
      · exact vacated.trans (Yard.settles_retarget _ _ _)
      · exact vacated

theorem keeps_afterRelease (e : Env) (a : Act) (number line tag : Nat) :
    a.yard.Keeps (a.afterRelease e number line tag).yard := by
  unfold Act.afterRelease
  split
  · exact a.keeps_refill e number line tag
  · exact a.keeps_refill e number line tag
  · exact (a.yard.settles_modifyStockShort number line _).keeps
  · exact .refl _

theorem keeps_releaseAssignment (e : Env) (a : Act) (tag : Nat) {settle : Act → Act}
    (hs : ∀ a : Act, a.yard.Keeps (settle a).yard) :
    a.yard.Keeps (a.releaseAssignment e tag settle).yard := by
  unfold Act.releaseAssignment
  split
  · exact hs a
  · next asg _ =>
    simp only
    have unassigned : a.yard.Settles false (a.on fun y => y.unassign tag).yard :=
      a.yard.settles_unassign tag
    refine ((Yard.Settles.keeps ?_).trans (hs _)).trans (Act.keeps_afterRelease e _ _ _ _)
    split
    · split
      · exact unassigned.trans (Act.settles_endJob _ _)
      · exact unassigned
    · exact unassigned

/-! ### Ends of offloads, loads and clearances -/

theorem keeps_endOffload (a : Act) (n number tag : Nat) :
    a.yard.Keeps (a.endOffload n number tag).yard := by
  unfold Act.endOffload
  simp only
  have ended : a.yard.Settles false ((a.endJob n).on fun y =>
      (y.unassign tag).modifyPack tag fun p => { p with loadedMass := none }).yard :=
    ((a.settles_endJob n).trans (Yard.settles_unassign _ tag)).trans (.pack _ tag _)
  split
  · next isOver =>
    have short : ∀ y : Yard, y.Settles false (match (a.yard.pack? tag).bind Pack.assignment with
        | some g => y.addWeightShort g.truck g.line
        | none => y) := fun y => by
      split
      · exact y.settles_addWeightShort ..
      · exact .refl y
    refine (ended.trans (short _)).keeps.trans (Yard.keeps_enterLoaded _ number fun _ s hs => ?_)
    rw [(short _).truckState?, isOver] at hs
    obtain rfl := Option.some.inj hs
    exact ⟨rfl, by simp⟩
  · exact ended.keeps.trans (Yard.keeps_testUnloaded _ number)
  · exact ended.keeps

theorem keeps_dropCancelled (a : Act) (n number tag : Nat) :
    a.yard.Keeps (a.dropCancelled n number tag).yard :=
  ((a.settles_endJob n).trans ((Yard.settles_unassign _ tag).trans
    (Yard.settles_vacatePlanned _ number tag))).keeps.trans (Yard.keeps_testUnloaded _ number)

theorem keeps_unsend (a : Act) (n : Nat) (j : Job) : a.yard.Keeps (a.unsend n j).yard := by
  unfold Act.unsend
  split
  · exact (a.keeps_setPackState j.tag .free).trans (Act.keeps_dropCancelled _ _ _ _)
  · exact (a.keeps_returnPack j.tag).trans (Act.keeps_jobWaits _ n)

theorem keeps_lose (a : Act) (n : Nat) (j : Job) : a.yard.Keeps (a.lose n j).yard := by
  unfold Act.lose
  split
  · exact (a.keeps_toDoubt j.tag).trans (Act.keeps_dropCancelled _ _ _ _)
  · exact (a.keeps_toDoubt j.tag).trans (Act.keeps_suspendJob _ n)

theorem keeps_endLoad (a : Act) (n number : Nat) (target : BedRef) (tag : Nat) :
    a.yard.Keeps (a.endLoad n number target tag).yard := by
  unfold Act.endLoad
  simp only
  refine (a.keeps_endJob n).trans ?_
  split
  · exact Act.keeps_createJob _ _ _
  · exact Yard.keeps_testLoaded _ number

theorem keeps_setOnBed (a : Act) (number : Nat) (r : BedRef) (tag mass : Nat) :
    a.yard.Keeps (a.setOnBed number r tag mass).yard :=
  ((Yard.Settles.pack a.yard tag _).trans (.quiet _ number fun t => t.dock_modifyPos r _)).keeps

theorem keeps_endClear (a : Act) (n tag : Nat) : a.yard.Keeps (a.endClear n tag).yard := by
  unfold Act.endClear
  simp only
  split
  · exact a.keeps_endJob n
  · exact a.keeps_endJob n

/-! ### Recalls (R138) -/

theorem keeps_recallMove (a : Act) (n : Nat) : a.yard.Keeps (a.recallMove n).yard := by
  unfold Act.recallMove
  split
  · exact .refl _
  · simp only
    refine (a.yard.keeps_dropMove n).trans ?_
    split
    · exact .refl _
    · split
      · exact Act.keeps_lose (a.on fun y => y.dropMove n) _ _
      · exact Act.keeps_unsend (a.on fun y => y.dropMove n) _ _

theorem keeps_recall (e : Env) (a : Act) (n : Nat) : a.yard.Keeps (a.recall e n).yard :=
  (a.keeps_recallMove n).trans (Yard.keeps_judgeAll e _)

theorem keeps_recallAll (e : Env) (a : Act) (terminal : Nat) :
    a.yard.Keeps (a.recallAll e terminal).yard :=
  Yard.Keeps.foldl (Act.keeps_recall e) _ a

/-! ### Lifts and landings (R134, R135) -/

theorem keeps_leaveSource (a : Act) (m : Move) : a.yard.Keeps (a.leaveSource m).yard := by
  unfold Act.leaveSource
  split
  · next number _ _ _ r _ _ _ _ _ =>
    exact (Yard.Settles.trans (.quiet _ _ fun t => t.dock_vacate _) (.pack _ m.tag _)).keeps
  · exact a.keeps_leave m.tag

theorem keeps_lift (a : Act) (asked : Bool) (n : Nat) (m : Move) :
    a.yard.Keeps (a.lift asked n m).yard := by
  have lifted := ((a.keeps_leaveSource m).trans (Yard.keeps_modifyMove _ n
    (fun m => { m with state := .lifted }) (fun _ => rfl) fun _ => rfl)).trans
    (Yard.keeps_modifyJob _ m.job fun j => { j with state := .lifted })
  unfold Act.lift
  simp only [Act.on_yard]
  split
  · exact lifted
  · exact lifted.trans (Yard.keeps_dropNotice _ _ _)

theorem keeps_landOnTruck (e : Env) (a : Act) (m : Move) (j : Job) :
    a.yard.Keeps (a.landOnTruck e m j).yard := by
  unfold Act.landOnTruck
  split
  · exact (a.keeps_setOnBed _ _ _ _).trans (Act.keeps_endLoad _ _ _ _ _)
  · exact .refl _

/-- The destination of an outstanding move. -/
def destOf (y : Yard) (n : Nat) : Option Spot := (y.move? n).map Move.dest

/-- R135: the pack joins the bay that its move has just ended at. -/
theorem keeps_dropMove_join (a : Act) {n b : Nat} (tag : Nat) (h : destOf a.yard n = some (.bay b)) :
    a.yard.Keeps (((a.on fun y => y.dropMove n).join b tag).yard) := by
  obtain ⟨m, hm, hd⟩ := Option.map_eq_some_iff.mp h
  exact a.yard.keeps_dropMove_join n b tag hm hd

theorem keeps_land (e : Env) (a : Act) (n : Nat) (m : Move) (h : destOf a.yard n = some m.dest) :
    a.yard.Keeps (a.land e n m).yard := by
  have dropped := a.yard.keeps_dropMove n
  unfold Act.land
  simp only
  split
  · exact dropped
  · next j _ =>
    split
    · exact dropped.trans (Act.keeps_landOnTruck e (a.on fun y => y.dropMove n) m j)
    · next b hb =>
      refine (a.keeps_dropMove_join m.tag (h.trans (congrArg some hb))).trans ?_
      unfold Act.landInStaging
      simp only
      split
      · exact (Act.keeps_returnPack _ _).trans (Act.keeps_endClear _ _ _)
      · exact Act.keeps_unsend _ _ _
    · next b hb =>
      unfold Act.landFromTruck
      split
      · exact ((a.keeps_dropMove_join m.tag (h.trans (congrArg some hb))).trans
          (Act.keeps_setPackState _ _ _)).trans (Act.keeps_endOffload _ _ _ _)
      · exact dropped
    · exact dropped

theorem leaveSource_loader (a : Act) (m : Move) : (a.leaveSource m).yard.loader = a.yard.loader := by
  unfold Act.leaveSource
  split
  · exact (a.yard.modifyTruck_loader _ _)
  · unfold Act.leave
    split <;> rfl

/-- A lift leaves the destinations of the moves. -/
theorem destOf_lift (a : Act) (asked : Bool) (n : Nat) (m : Move) (k : Nat) :
    destOf (a.lift asked n m).yard k = destOf a.yard k := by
  have moves : (a.lift asked n m).yard.loader.moves
      = (a.yard.loader.moves.modify n fun m => { m with state := .lifted }) := by
    unfold Act.lift
    simp only [Act.on_yard, ← a.leaveSource_loader m]
    split <;> rfl
  unfold destOf Yard.move?
  rw [moves, Table.modify, Table.get?_mapVal, Option.map_map]
  refine congrArg (Option.map · _) (funext fun m => ?_)
  simp only [Function.comp]
  split <;> rfl

/-! ### Reports (R132 to R141) -/

theorem keeps_doubtScanned (e : Env) (a : Act) (tag : Nat) :
    a.yard.Keeps (a.doubtScanned e tag).yard := by
  unfold Act.doubtScanned
  split
  · exact .refl _
  · split
    · simp only
      refine (a.keeps_toDoubt tag).trans ?_
      split
      · exact Act.keeps_suspendJob _ _
      · split
        · exact Act.keeps_releaseAssignment e _ tag fun a => .refl _
        · exact .refl _
    · exact .refl _

theorem keeps_loseMove (a : Act) (m : Move) : a.yard.Keeps (a.loseMove m).yard := by
  unfold Act.loseMove
  split
  · exact a.keeps_lose _ _
  · exact .refl _

theorem keeps_mismatch (e : Env) (a : Act) (n : Nat) (m : Move) (scanned : Nat) :
    a.yard.Keeps (a.mismatch e n m scanned).yard := by
  refine Yard.Keeps.trans (Yard.Keeps.trans ?_ (Act.keeps_loseMove _ m)) (Act.keeps_doubtScanned e _ scanned)
  exact (a.yard.keeps_dropMove n).trans (Yard.keeps_raise _ _)

theorem keeps_doneLifted (e : Env) (a : Act) (n : Nat) (m : Move) (tag moisture : Option Nat)
    (h : destOf a.yard n = some m.dest) : a.yard.Keeps (a.doneLifted e n m tag moisture).yard := by
  unfold Act.doneLifted
  split
  · exact a.keeps_mismatch e n m _
  · refine (a.yard.keeps_measure m.tag moisture).trans
      (Act.keeps_land e (a.on fun y => y.measure m.tag moisture) n m ?_)
    rw [← h]
    cases moisture <;> rfl

theorem keeps_done (e : Env) (a : Act) (asked : Bool) (n : Nat) (m : Move) (tag moisture : Option Nat)
    (h : destOf a.yard n = some m.dest) : a.yard.Keeps (a.done e asked n m tag moisture).yard := by
  unfold Act.done
  split
  · exact a.keeps_doneLifted e n m tag moisture h
  · split
    · exact (a.keeps_lift asked n m).trans (Act.keeps_doneLifted e _ n m tag moisture
        ((a.destOf_lift asked n m n).trans h))
    · exact a.yard.keeps_addReject _ _

theorem keeps_damaged (e : Env) (a : Act) (m : Move) (j : Job) : a.yard.Keeps (a.damaged e m j).yard := by
  unfold Act.damaged
  split
  · exact ((a.keeps_leaveSource m).trans (Act.keeps_toDoubt _ _)).trans (Act.keeps_endOffload _ _ _ _)
  · exact (a.keeps_setPackState _ _).trans (Act.keeps_endJob _ _)
  · split
    · exact (a.keeps_setPackState _ _).trans (Act.keeps_dropCancelled _ _ _ _)
    · exact a.keeps_releaseAssignment e m.tag fun a => a.keeps_setPackState _ _

theorem keeps_faulted (e : Env) (a : Act) (n : Nat) (m : Move) (r : FaultReason) :
    a.yard.Keeps (a.faulted e n m r).yard := by
  unfold Act.faulted
  simp only
  refine Yard.Keeps.trans (z := (a.on fun y => (y.dropMove n).raise .moveFault).yard)
    ((a.yard.keeps_dropMove n).trans (Yard.keeps_raise _ _)) ?_
  split
  · exact .refl _
  · split
    · exact Act.keeps_lose _ _ _
    · unfold Act.faultUnlifted
      split
      · exact (Act.keeps_leaveSource _ m).trans (Act.keeps_lose _ _ _)
      · exact (Act.keeps_leaveSource _ m).trans (Act.keeps_lose _ _ _)
      · exact Act.keeps_damaged e _ m _
      · exact Act.keeps_unsend _ _ _

theorem keeps_withdrawn (a : Act) (n : Nat) (m : Move) : a.yard.Keeps (a.withdrawn n m).yard := by
  unfold Act.withdrawn
  split
  · exact .refl _
  · split
    · exact (a.yard.keeps_dropMove n).trans (Act.keeps_unsend (a.on fun y => y.dropMove n) _ _)
    · exact .refl _

theorem keeps_accept (a : Act) (n : Nat) (m : Move) : a.yard.Keeps (a.accept n m).yard := by
  unfold Act.accept
  split
  · exact (a.yard.keeps_modifyMove n (fun m => { m with state := .accepted }) (fun _ => rfl)
      fun _ => rfl).trans (Yard.keeps_modifyJob _ _ _)
  · exact .refl _

theorem keeps_lifted (a : Act) (asked : Bool) (n : Nat) (m : Move) :
    a.yard.Keeps (a.lifted asked n m).yard := by
  unfold Act.lifted
  split
  · exact .refl _
  · split
    · exact a.keeps_lift asked n m
    · exact a.yard.keeps_addReject _ _

end Act

theorem Yard.keeps_takeText (y : Yard) (terminal now : Nat) (chars : List Byte) :
    y.Keeps (y.takeText terminal now chars) := by
  unfold Yard.takeText
  split
  · exact (y.keeps_onLink _ rfl rfl).trans (Yard.keeps_raise _ _)
  · exact y.keeps_raise _

theorem Yard.moveAt?_move? {y : Yard} {t n : Nat} {m : Move} (h : y.moveAt? t n = some m) :
    y.move? n = some m := by
  unfold Yard.moveAt? at h
  split at h
  · split at h
    · next hm _ => obtain rfl := Option.some.inj h; exact hm
    · cases h
  · cases h

namespace Act

theorem keeps_onMove (a : Act) (terminal n : Nat) {f : Move → Act}
    (h : ∀ m, a.yard.move? n = some m → a.yard.Keeps (f m).yard) :
    a.yard.Keeps (a.onMove terminal n f).yard := by
  unfold Act.onMove
  split
  · next m hm => exact h m (Yard.moveAt?_move? hm)
  · exact a.yard.keeps_raise _

theorem keeps_report (e : Env) (a : Act) (x : Exchange) (ans : Answer) :
    a.yard.Keeps (a.report e x ans).yard := by
  cases ans with
  | idle => exact .refl _
  | accept n => exact a.keeps_onMove _ n fun m _ => a.keeps_accept n m
  | lifted n => exact a.keeps_onMove _ n fun m _ => a.keeps_lifted _ n m
  | done n tag moisture => exact a.keeps_onMove _ n fun m hm => a.keeps_done e _ n m tag moisture (by
      rw [destOf, hm]; rfl)
  | fault n r => exact a.keeps_onMove _ n fun m _ => a.keeps_faulted e n m r
  | withdrawn n => exact a.keeps_onMove _ n fun m _ => a.keeps_withdrawn n m
  | tooLate n => exact a.keeps_onMove _ n fun m _ => a.yard.keeps_dropNotice _ _
  | text chars => exact a.yard.keeps_takeText ..

end Act
end Sys2Proof.Machine
end

section
/-! SUPPORT. The requests of the host, the exchanges of the loader link and the completions of the weighbridge
keep the laws of the yard. -/

namespace Sys2Proof.Machine

/-! ### Entries put into a table -/

/-- A key that names no record is put into the entries, which are otherwise what they were. -/
theorem Table.perm_putIn {α : Type} (l : List (Nat × α)) (i : Nat) (v : α)
    (h : Table.findIn l i = none) : (Table.putIn l i v).Perm ((i, v) :: l) := by
  induction l with
  | nil => exact .refl _
  | cons e rest ih =>
    obtain ⟨k, w⟩ := e
    unfold Table.findIn at h
    split at h
    · cases h
    · next hk =>
      unfold Table.putIn
      split
      · exact .refl _
      · rw [if_neg fun e => hk e.symm]
        exact ((ih h).cons _).trans (.swap ..)

theorem Table.freeFrom_free {α : Type} {t : Table α} {fuel i n : Nat}
    (h : t.freeFrom fuel i = some n) : t.get? n = none := by
  induction fuel generalizing i with
  | zero => cases h
  | succ fuel ih =>
    unfold Table.freeFrom at h
    split at h
    · exact ih h
    · next hi =>
      obtain rfl := Option.some.inj h
      simpa [Table.has] using hi

/-- The lowest free key names no record. -/
theorem Table.lowestFree_free {α : Type} {t : Table α} {limit n : Nat}
    (h : t.lowestFree limit = some n) : t.get? n = none := Table.freeFrom_free h

theorem Table.size_put_le {α : Type} (t : Table α) (i : Nat) (v : α) :
    (t.put i v).size ≤ t.size + 1 := by
  obtain ⟨l⟩ := t
  simp only [Table.size, Table.put]
  induction l with
  | nil => exact Nat.le_refl _
  | cons e rest ih =>
    unfold Table.putIn
    split
    · exact Nat.le_refl _
    · split
      · exact Nat.le_succ _
      · exact Nat.succ_le_succ ih

/-! ### Packs (R25 to R35) -/

theorem Yard.keeps_addPack (y : Yard) (tag : Nat) (p : Pack) (h : y.packs.size < 1024) :
    y.Keeps (y.addPack tag p) :=
  .of_calm (fun ht => { ht with
      packs := Table.wf_put _ _ _ ht.packs
      packCount := Nat.le_trans (Table.size_put_le ..) h }) rfl rfl rfl

namespace Act

theorem keeps_join (a : Act) (b tag : Nat) (room : a.yard.height b + a.yard.claimsOf b < 6) :
    a.yard.Keeps (a.join b tag).yard :=
  a.yard.keeps_joinStack b tag fun _ _ => room

theorem keeps_registerPack (e : Env) (a : Act) (args : PackArgs) (size : a.yard.packs.size < 1024)
    (room : a.yard.height args.bay + a.yard.claimsOf args.bay < 6) :
    a.yard.Keeps (a.registerPack e args).yard :=
  (a.yard.keeps_addPack args.tag (newPack args e.clock) size).trans
    (Act.keeps_join (a.on fun y => y.addPack args.tag (newPack args e.clock)) _ _ room)

theorem keeps_holdReserved (e : Env) (a : Act) (tag : Nat) :
    a.yard.Keeps (a.holdReserved e tag).yard :=
  a.keeps_releaseAssignment e tag fun a => a.keeps_setPackState tag .held

theorem keeps_releaseUnlessUnloading (e : Env) (a : Act) (tag : Nat) :
    a.yard.Keeps (a.releaseUnlessUnloading e tag).yard := by
  unfold Act.releaseUnlessUnloading
  split
  · exact .refl _
  · split
    · exact .refl _
    · exact a.keeps_releaseAssignment e tag fun a => .refl _

theorem keeps_giveUp (e : Env) (a : Act) (tag : Nat) : a.yard.Keeps (a.giveUp e tag).yard := by
  unfold Act.giveUp
  split
  · exact a.keeps_endOffload _ _ _
  · exact (a.keeps_releaseUnlessUnloading e tag).trans (Act.keeps_endJobOf _ _)

theorem keeps_removePack (e : Env) (a : Act) (tag : Nat) : a.yard.Keeps (a.removePack e tag).yard :=
  ((a.keeps_leave tag).trans (Act.keeps_giveUp e _ tag)).trans (Yard.keeps_dropPack _ tag)

theorem keeps_locateInBay (a : Act) (tag b : Nat)
    (room : a.yard.height b + a.yard.claimsOf b < 6) : a.yard.Keeps (a.locateInBay tag b).yard := by
  unfold Act.locateInBay
  simp only
  refine (a.keeps_join b tag room).trans ?_
  split
  · split
    · exact (Act.keeps_setPackState _ _ _).trans (Act.keeps_jobWaits _ _)
    · exact (Act.keeps_setPackState _ _ _).trans (Act.keeps_endJob _ _)
    · exact (Act.keeps_setPackState _ _ _).trans (Act.keeps_endOffload _ _ _ _)
  · split
    · exact Act.keeps_setPackState _ _ _
    · exact Act.keeps_setPackState _ _ _

theorem keeps_locateLoad (e : Env) (a : Act) (tag n number : Nat) (target : BedRef) :
    a.yard.Keeps (a.locateLoad e tag n number target).yard :=
  (a.keeps_setOnBed _ _ _ _).trans (Act.keeps_endLoad _ _ _ _ _)

theorem keeps_locateOffload (a : Act) (tag n number : Nat) (source : BedRef) :
    a.yard.Keeps (a.locateOffload tag n number source).yard :=
  (a.keeps_setOnBed _ _ _ _).trans
    ((Yard.Settles.quiet _ number fun t => t.dock_modifyPos source _).trans
      (.job _ n _ fun _ => ⟨.inr rfl, .inr (.inl rfl)⟩)).keeps

end Act

/-! ### Trucks (R60 to R68) -/

/-- R60: a truck enters the table. -/
theorem Yard.keeps_addTruck (y : Yard) (i : Nat) (t : Truck)
    (free : y.trucks.lowestFree 24 = some i) (new : y.truck? t.number = none)
    (state : t.state.holdsLane = false) (lane : t.lane = none) : y.Keeps (y.addTruck i t) := by
  have perm : (y.addTruck i t).docks.Perm (t.dock :: y.docks) :=
    (Table.perm_putIn y.trucks.entries i t (Table.lowestFree_free free)).map
      fun en : Nat × Truck => en.2.dock
  have absent : t.number ∉ y.docks.map Dock.number := by
    have none : y.docks.find? (fun d => decide (d.number = t.number)) = none := by
      rw [← y.truck?_dock, new]; rfl
    intro hm
    obtain ⟨d, hd, hn⟩ := List.mem_map.mp hm
    have := List.find?_eq_none.mp none d hd
    simp [hn] at this
  have enter : y.LaneLaw → (y.addTruck i t).LaneLaw := fun hl =>
    DockLaw.enter hl perm absent state lane
  exact {
    tables := fun ht => { ht with
      trucks := Table.wf_put _ _ _ ht.trucks
      truckIndex := Table.allVal_put i t ht.truckIndex (decide_eq_true (Table.lowestFree_lt free)) }
    staging := fun _ hs => hs.of_calm rfl
    lanes := fun _ hl => enter hl
    loaded := fun _ hl m hm => by
      rw [truckState?_eq] at hm ⊢
      obtain ⟨d, hd, hs⟩ := Option.map_eq_some_iff.mp hm
      obtain ⟨hmem, hn⟩ := (List.find?_number_iff hl.numbered m d).mp hd
      rw [(List.find?_number_iff (enter hl).numbered m d).mpr
        ⟨perm.mem_iff.mpr (List.mem_cons_of_mem _ hmem), hn⟩]
      exact congrArg some hs }

namespace Act

theorem settles_freeReserved {free : Bool} (a : Act) (tag : Nat) :
    a.yard.Settles free (a.freeReserved tag).yard :=
  (a.yard.settles_unassign tag).trans (.pack _ tag _)

/-- R64: the packs of a truck in SHORT_WAIT freed, before the truck leaves the table. -/
def freedReserved (a : Act) (t : Truck) : Act :=
  if t.state = .shortWait then t.assignedTags.foldl Act.freeReserved a else a

theorem settles_freedReserved (a : Act) (t : Truck) :
    a.yard.Settles false (a.freedReserved t).yard := by
  unfold Act.freedReserved
  split
  · exact Yard.Settles.foldl Act.settles_freeReserved _ a
  · exact .refl _

/-- R64: the truck out of the table, and the packs it had offered. -/
def leftEarly (e : Env) (a : Act) (t : Truck) : Act :=
  ((a.freedReserved t).on fun y => y.dropTruck t.number).offers e

theorem cancelEarly_yard (e : Env) (a : Act) (t : Truck) : (a.cancelEarly e t).yard = match t.lane with
    | some l => (a.leftEarly e t).yard.modifyLane l Lane.release
    | none => (a.leftEarly e t).yard := by
  show Act.yard (match t.lane with
    | some l => (a.leftEarly e t).on fun y => y.modifyLane l Lane.release
    | none => a.leftEarly e t) = _
  cases t.lane <;> rfl

end Act

namespace Yard

theorem Restates.loaded {y z : Yard} (h : y.Restates z) (ht : y.Tables) (hn : y.Numbered) {n : Nat}
    (hs : y.truckState? n = some .loaded) : z.truckState? n = some .loaded := by
  obtain ⟨g, hd, hg, hstate⟩ := h.docks ht hn
  rw [truckState?_eq] at hs
  rw [truckState?_map hd fun d => (hg d).1]
  obtain ⟨d, hf, hl⟩ := Option.map_eq_some_iff.mp hs
  rw [hf, Option.map_some, (hstate d (List.mem_of_find?_eq_some hf)).2 hl]

theorem Numbered.dropTruck {y : Yard} (h : y.Numbered) (ht : y.Tables) (n : Nat) :
    (y.dropTruck n).Numbered := by
  unfold Numbered
  rw [docks_dropTruck ht.trucks h]
  exact h.sublist (List.filter_sublist.map _)

/-- A truck's record is the dock of its number. -/
theorem Numbered.dock_eq {y : Yard} (h : y.Numbered) {t : Truck} (ht : y.truck? t.number = some t)
    {d : Dock} (hd : d ∈ y.docks) (hn : d.number = t.number) : d = t.dock := by
  have := (List.find?_number_iff h t.number d).mpr ⟨hd, hn⟩
  rw [← y.truck?_dock, ht] at this
  exact (Option.some.inj this).symm

end Yard

namespace Act

/-- R64: the cancel of a truck before loading. Its lane is released after the packs it had are offered, so the
lane law holds again with the release only. -/
theorem keeps_cancelEarly (e : Env) (a : Act) (t : Truck) (ht : a.yard.truck? t.number = some t)
    (early : t.state ≠ .loaded) : a.yard.Keeps (a.cancelEarly e t).yard := by
  have freed := a.settles_freedReserved t
  have offered := ((a.freedReserved t).on fun y => y.dropTruck t.number).restates_offers e
  have lane : ∀ l, t.lane = some l →
      (a.cancelEarly e t).yard = (a.leftEarly e t).yard.modifyLane l Lane.release := fun l hl => by
    rw [cancelEarly_yard, hl]
  have docks : (a.cancelEarly e t).yard.docks = (a.leftEarly e t).yard.docks := by
    rw [cancelEarly_yard]
    split <;> rfl
  have lanes : (a.leftEarly e t).yard.lane = a.yard.lane := Yard.lane_eq_of_lanes
    (offered.lanes.trans ((Yard.dropTruck_lanes _ _).trans freed.docks.1))
  have dropped : a.yard.Tables → ((a.freedReserved t).yard.dropTruck t.number).Tables := fun h =>
    (freed.tables h).dropTruck _
  have numbered : a.yard.Tables → a.yard.Numbered →
      ((a.freedReserved t).yard.dropTruck t.number).Numbered := fun h hn =>
    (freed.numbered.mpr hn).dropTruck (freed.tables h) _
  refine { tables := fun h => ?_, staging := fun _ hs => hs.of_calm ?_, lanes := fun h hl => ?_,
           loaded := fun h hl m hm => ?_ }
  · have := offered.tables (dropped h)
    rw [cancelEarly_yard]
    split
    · exact { this with }
    · exact this
  · have left : (a.leftEarly e t).yard.calm = a.yard.calm :=
      offered.calm.trans ((Yard.calm_dropTruck _ _).trans freed.calm)
    rw [cancelEarly_yard]
    split
    · exact left
    · exact left
  · obtain ⟨g, hd, hg, hs⟩ := offered.docks (dropped h) (numbered h hl.numbered)
    have without : ((a.freedReserved t).yard.dropTruck t.number).docks
        = a.yard.docks.filter fun d => d.number != t.number := by
      rw [Yard.docks_dropTruck (freed.tables h).trucks (freed.numbered.mpr hl.numbered), freed.docks.2]
    have mine : ∀ d ∈ a.yard.docks, d.number = t.number → d = t.dock := fun d hm hn =>
      hl.numbered.dock_eq ht hm hn
    have law : DockLaw (a.cancelEarly e t).yard.lane
        (a.yard.docks.filter fun d => d.number != t.number) := by
      refine DockLaw.release hl (DockLaw.far _) t.number
        (hl.numbered.sublist (List.filter_sublist.map _)) (fun d hd => by simp [hd])
        (fun d hd hn => by simp [hn] at hd) (fun d hm hn l hlane => ?_) fun l hlane => ?_
      · obtain ⟨hlt, -, -⟩ := DockLaw.at_lane hl (DockLaw.far _) hm hlane
        rw [mine d hm hn] at hlane
        rw [lane l hlane, Yard.lane_modifyLane, if_pos ⟨rfl, hlt⟩, lanes]
      · obtain ⟨hm, hn⟩ := Yard.dock_of_truck? ht
        rw [cancelEarly_yard]
        split
        · next k hk =>
          have hne : l ≠ k := by
            rintro rfl
            exact hlane _ hm hn hk
          rw [Yard.lane_modifyLane, if_neg fun h => hne h.1, lanes]
        · rw [lanes]
    unfold Yard.LaneLaw
    rw [docks]
    show DockLaw _ (Act.offers e _).yard.docks
    rw [hd, Act.on_yard, without]
    exact law.map (fun d => (hg d).1) (fun d => (hg d).2) fun d hm => (hs d (by
      rw [Act.on_yard, without]; exact hm)).1
  · have hne : m ≠ t.number := by
      rintro rfl
      rw [Yard.truckState?, ht] at hm
      exact early (Option.some.inj hm)
    rw [Yard.truckState?_eq, docks, ← Yard.truckState?_eq]
    refine offered.loaded (dropped h) (numbered h hl.numbered) ?_
    rw [Act.on_yard, Yard.state_dropTruck (freed.tables h) (freed.numbered.mpr hl.numbered) hne,
      freed.truckState?]
    exact hm

theorem keeps_cancelPack (number : Nat) (a : Act) (tag : Nat) :
    a.yard.Keeps (Act.cancelPack number a tag).yard := by
  unfold Act.cancelPack
  split
  · simp only
    have ended : a.yard.Keeps ((a.endJobOf tag).on fun y =>
        (y.unassign tag).vacatePlanned number tag).yard :=
      ((a.settles_endJobOf tag).trans ((Yard.settles_unassign _ tag).trans
        (Yard.settles_vacatePlanned _ number tag))).keeps
    split
    · exact ended.trans (Act.keeps_setPackState _ tag .free)
    · exact ended
  · exact .refl _

theorem keeps_withdrawJob (number : Nat) (a : Act) (n : Nat) :
    a.yard.Keeps (Act.withdrawJob number a n).yard := by
  unfold Act.withdrawJob
  split
  · exact .refl _
  · split
    · split
      · exact .refl _
      · split
        · exact .refl _
        · split
          · exact a.yard.keeps_addWithdraw _ _
          · refine Yard.Keeps.trans ?_ (Act.keeps_unsend _ _ _)
            exact a.yard.keeps_dropMove _
    · exact .refl _

theorem keeps_offloadAll (a : Act) (number : Nat) : a.yard.Keeps (a.offloadAll number).yard := by
  unfold Act.offloadAll
  split
  · exact .refl _
  · exact Yard.Keeps.foldl (f := fun a (c : BedRef × Nat) => a.createJob (.offload number c.1) c.2)
      (fun a c => a.keeps_createJob _ _) _ a

theorem keeps_cancelStep1 (e : Env) (a : Act) (t : Truck) :
    a.yard.Keeps (a.cancelStep1 e t).yard := by
  refine Yard.Keeps.trans ?_ (Act.keeps_offers e _)
  exact ((Yard.Keeps.foldl (Act.keeps_cancelPack t.number) _ a).trans (Act.keeps_clearDue _)).trans
    (Yard.keeps_judgeAll e _)

/-- R65: what follows the write of UNLOADING. -/
theorem cancelLate_keeps (e : Env) (a : Act) (t : Truck) :
    (a.yard.modifyTruck t.number fun t => { t with state := .unloading }).Keeps
      (a.cancelLate e t).yard :=
  (((Act.keeps_cancelStep1 e (a.on fun y => y.modifyTruck t.number fun t =>
    { t with state := .unloading }) t).trans (Yard.Keeps.foldl (Act.keeps_withdrawJob t.number) _ _)).trans
    (Act.keeps_offloadAll _ _)).trans (Yard.keeps_testUnloaded _ _)

end Act

/-- R65: a truck that holds a lane may be cancelled; of the LOADED trucks, only that one leaves its state. -/
theorem Act.sound_cancelLate (e : Env) (a : Act) (t : Truck)
    (hs : ∀ s, a.yard.truckState? t.number = some s → s.holdsLane = true) :
    a.yard.Sound (a.cancelLate e t).yard
      ∧ (a.yard.Tables → a.yard.LaneLaw → ∀ n, n ≠ t.number →
          a.yard.truckState? n = some .loaded → (a.cancelLate e t).yard.truckState? n = some .loaded) := by
  have write := a.yard.sound_state t.number (f := fun t => { t with state := .unloading })
    (st := .unloading) (fun _ => rfl) fun _ s h => hs s h
  have rest := a.cancelLate_keeps e t
  refine ⟨write.trans rest.toSound, fun ht hl n hne hn => ?_⟩
  refine rest.loaded (write.tables ht) (write.lanes ht hl) n ?_
  rw [Yard.state_other ht hl (g := fun d => { d with state := .unloading }) (fun _ => rfl)
    (fun _ => rfl) hne]
  exact hn

theorem Yard.keeps_depart (y : Yard) (n : Nat) (h : y.truckState? n = some .cleared) :
    y.Keeps (y.depart n) := by
  refine (y.keeps_packs (y.packs.keep fun _ k => !k.departs n) (Table.wf_keep _ _)
    (List.length_filter_le ..)).trans (Yard.keeps_dropTruck _ n fun _ s hs => ?_)
  have : y.truckState? n = some s := hs
  rw [h] at this
  obtain rfl := Option.some.inj this
  rfl

/-- R71: a lane is opened or closed. -/
theorem Yard.keeps_relane (y : Yard) (l : Nat) {f : Lane → Lane}
    (holder : ∀ r, (f r).holder = r.holder)
    (state : ∀ r, ((f r).state = .free ∨ (f r).state = .closed) ↔ (r.state = .free ∨ r.state = .closed)) :
    y.Keeps (y.modifyLane l f) where
  tables ht := { ht with }
  staging _ hs := hs.of_calm rfl
  lanes _ hl := DockLaw.relane hl
    (fun k => by
      rw [lane_modifyLane]
      split
      · exact holder _
      · rfl)
    (fun k => by
      rw [lane_modifyLane]
      split
      · exact state _
      · rfl)
  loaded _ _ _ h := h

theorem Yard.keeps_openLane (y : Yard) (l : Nat) : y.Keeps (y.modifyLane l Lane.opened) :=
  y.keeps_relane l (fun r => by unfold Lane.opened; split <;> rfl) fun r => by
    unfold Lane.opened
    split
    · next h => simp [h]
    · next h => simp [h]
    · rfl

theorem Yard.keeps_closeLane (y : Yard) (l : Nat) : y.Keeps (y.modifyLane l Lane.shut) :=
  y.keeps_relane l (fun r => by unfold Lane.shut; split <;> rfl) fun r => by
    unfold Lane.shut
    split
    · next h => simp [h]
    · next h => simp [h]
    · rfl

/-! ### Terminals (R126 to R131) -/

theorem Yard.keeps_enroll (y : Yard) (t credit : Nat) (silence : SilenceAction)
    (off : (y.terminal t).state = .off) (h : credit ≤ 4) : y.Keeps (y.enroll t credit silence) := by
  refine Yard.Keeps.trans ?_ (Yard.keeps_onLink _ _ rfl rfl)
  refine y.keeps_modifyTerminal t _ (fun _ => rfl) fun law => ?_
  have none : (y.terminal t).moves = [] := law.2.2 off
  exact ⟨by simp [none], h, fun _ => none⟩

theorem Yard.keeps_goSilent (y : Yard) (t probeAt : Nat) : y.Keeps (y.goSilent t probeAt) := by
  refine Yard.Keeps.trans ?_ (Yard.keeps_raise _ _)
  exact y.keeps_terminal t _ (fun _ => rfl) (fun _ => rfl) fun _ h => TerminalState.noConfusion h

theorem Act.lose_loader (a : Act) (n : Nat) (j : Job) : (a.lose n j).yard.loader = a.yard.loader := by
  have doubt : (a.toDoubt j.tag).yard.loader = a.yard.loader := by
    unfold Act.toDoubt Act.leave
    split <;> rfl
  unfold Act.lose
  split
  · have calm : ((a.toDoubt j.tag).dropCancelled n ‹_› j.tag).yard.calm = (a.toDoubt j.tag).yard.calm :=
      (Yard.calm_testUnloaded ..).trans (((Act.settles_endJob (free := false) _ n).trans
        ((Yard.settles_unassign _ j.tag).trans (Yard.settles_vacatePlanned _ _ j.tag))).calm)
    exact (congrArg (·.2.2) calm).trans doubt
  · exact doubt

/-- R138: what a recall leaves of the link. -/
theorem Act.recall_loader (e : Env) (a : Act) (n : Nat) :
    (a.recall e n).yard.loader = (a.yard.dropMove n).loader := by
  have judged : (a.recall e n).yard.loader = (a.recallMove n).yard.loader :=
    congrArg (·.2.2) (Yard.settles_judgeAll (free := false) e _).calm
  rw [judged]
  unfold Act.recallMove
  split
  · next h => rw [Yard.dropMove, h]
  · simp only
    split
    · rfl
    · split
      · exact Act.lose_loader (a.on fun y => y.dropMove n) _ _
      · exact congrArg (·.2.2) (Act.calm_unsend (a.on fun y => y.dropMove n) _ _)

/-- R132: the end of a move takes its number, and no other, from its terminal's list. -/
theorem Yard.Staging.moves_dropMove {y : Yard} (h : y.Staging) (n t : Nat) :
    ((y.dropMove n).terminal t).moves = (y.terminal t).moves.filter fun k => k != n := by
  have others : n ∉ (y.terminal t).moves → (y.terminal t).moves
      = (y.terminal t).moves.filter fun k => k != n := fun hn => by
    refine (List.filter_eq_self.mpr fun k hk => ?_).symm
    have : k ≠ n := fun e => hn (e ▸ hk)
    simpa using this
  cases hm : y.move? n with
  | none =>
    have : y.dropMove n = y := by rw [Yard.dropMove, hm]
    rw [this]
    refine others fun hn => ?_
    have := h.listed t n hn
    rw [Yard.moveAt?, hm] at this
    cases this
  | some m =>
    obtain ⟨terminal, -, -, -⟩ := y.dropMove_reads n m hm (y.terminal_le_of_mem (h.held n m hm))
    rw [terminal]
    split
    · rfl
    · next hne =>
      refine others fun hn => ?_
      have := h.listed t n hn
      simp only [Yard.moveAt?, hm] at this
      split at this
      · next e => exact hne e.symm
      · cases this

/-- R138: after its moves are recalled a terminal lists none. -/
theorem Act.moves_recallAll (e : Env) (a : Act) (t : Nat) (ht : a.yard.Tables) (hs : a.yard.Staging) :
    ((a.recallAll e t).yard.terminal t).moves = [] := by
  have recalled : ∀ (l : List Nat) (a : Act), a.yard.Tables → a.yard.Staging →
      (a.yard.terminal t).moves ⊆ l → ((l.foldl (Act.recall e) a).yard.terminal t).moves = [] := by
    intro l
    induction l with
    | nil => exact fun a _ _ h => List.subset_nil.mp h
    | cons n rest ih =>
      intro a ht hs h
      have keeps := a.keeps_recall e n
      refine ih _ (keeps.tables ht) (keeps.staging ht hs) fun k hk => ?_
      have same : (a.recall e n).yard.terminal t = (a.yard.dropMove n).terminal t := by
        rw [Yard.terminal, a.recall_loader e n]; rfl
      rw [same, hs.moves_dropMove n t, List.mem_filter] at hk
      have hne : k ≠ n := by simpa using hk.2
      exact (List.mem_cons.mp (h hk.1)).resolve_left hne
  exact recalled _ a ht hs fun _ h => h

theorem Act.keeps_retire (e : Env) (a : Act) (t : Nat) : a.yard.Keeps (a.retire e t).yard := by
  have recalled := a.keeps_recallAll e t
  have off : a.yard.Tables → a.yard.Staging → ((a.recallAll e t).yard.modifyTerminal t fun t =>
      { t with notices := [], state := .off, nextProbe := none }).Staging := fun ht hs => by
    have staging := recalled.staging ht hs
    have law := staging.lawful t
    exact staging.modifyTerminal (fun _ => rfl) ⟨law.1, law.2.1, fun _ => a.moves_recallAll e t ht hs⟩
  have written : a.yard.Keeps ((a.recallAll e t).yard.modifyTerminal t fun t =>
      { t with notices := [], state := .off, nextProbe := none }) :=
    { toSound := ⟨fun ht => { recalled.tables ht with }, off, recalled.lanes⟩
      loaded := recalled.loaded }
  refine written.trans (Yard.keeps_onLink _ (fun l => l.cutExchange t) ?_ ?_)
  · unfold LoaderLink.cutExchange
    split
    · split <;> rfl
    · rfl
  · unfold LoaderLink.cutExchange
    split
    · split <;> rfl
    · rfl

theorem Yard.keeps_messageTaken (y : Yard) (t : Nat) (msg : LinkMessage) :
    y.Keeps (y.messageTaken t msg) := by
  unfold Yard.messageTaken
  split
  · split
    · exact y.keeps_modifyMove _ _ (fun _ => rfl) fun _ => rfl
    · exact .refl y
  · exact y.keeps_dropNotice _ _
  · exact .refl y

theorem Yard.keeps_purposeMet (y : Yard) (t : Nat) (p : Purpose) : y.Keeps (y.purposeMet t p) := by
  unfold Yard.purposeMet
  split
  · exact .refl y
  · refine Yard.Keeps.trans ?_ (Yard.keeps_raise _ _)
    exact y.keeps_terminal t _ (fun _ => rfl) (fun _ => rfl) fun _ h => TerminalState.noConfusion h
  · exact y.keeps_terminal t _ (fun _ => rfl) (fun _ => rfl) fun _ h => TerminalState.noConfusion h

theorem Yard.keeps_exchangeDone (y : Yard) (now : Nat) (x : Exchange) :
    y.Keeps (y.exchangeDone now x) := by
  refine Yard.Keeps.trans (Yard.Keeps.trans ?_ (Yard.keeps_messageTaken _ _ _))
    (Yard.keeps_purposeMet _ _ _)
  refine Yard.Keeps.trans ?_ (Yard.keeps_terminal _ x.terminal _ (fun _ => rfl) (fun _ => rfl)
    fun _ => id)
  exact y.keeps_onLink _ rfl rfl

theorem Yard.keeps_resend (y : Yard) (x : Exchange) : y.Keeps (y.resend x) := by
  refine Yard.Keeps.trans ?_ (Yard.keeps_terminal _ x.terminal _ (fun _ => rfl) (fun _ => rfl)
    fun _ => id)
  exact y.keeps_onLink _ rfl rfl

theorem Act.keeps_silenced (e : Env) (a : Act) (t : Nat) : a.yard.Keeps (a.silenced e t).yard := by
  have silent := a.yard.keeps_goSilent t e.probeAt
  unfold Act.silenced
  simp only
  split
  · exact silent
  · exact (silent.trans (Act.keeps_recallAll e (a.on fun y => y.goSilent t e.probeAt) t)).trans
      (Yard.keeps_terminal _ t _ (fun _ => rfl) (fun _ => rfl) fun _ => id)

theorem Act.keeps_exchangeFailed (e : Env) (a : Act) (x : Exchange) :
    a.yard.Keeps (a.exchangeFailed e x).yard := by
  have ended := a.yard.keeps_onLink (fun l => { l with exchange := none }) rfl rfl
  unfold Act.exchangeFailed
  simp only
  split
  · exact ended.trans (Act.keeps_silenced e (a.on fun y => y.onLink fun l =>
      { l with exchange := none }) x.terminal)
  · exact ended.trans (Yard.keeps_terminal _ x.terminal _ (fun _ => rfl) (fun _ => rfl) fun _ => id)
  · exact ended.trans (Yard.keeps_goSilent _ x.terminal _)

/-! ### Weighings (R149, R150, R152) -/

theorem Act.keeps_weighedIn (a : Act) (n front rear : Nat) :
    a.yard.Keeps (a.weighedIn n front rear).yard := by
  unfold Act.weighedIn
  split
  · next st hst =>
    split
    · next h =>
      refine Yard.Keeps.trans (a.yard.keeps_state n (st := .queued) (fun _ => rfl) fun _ s hs => ?_)
        (Yard.keeps_raise _ _)
      rw [hst] at hs
      obtain rfl := Option.some.inj hs
      rcases h with rfl | rfl <;> simp [TruckState.holdsLane]
    · exact a.yard.keeps_raise _
  · exact a.yard.keeps_raise _

theorem Yard.sound_judgedClear (y : Yard) (n : Nat) :
    y.Sound ((y.releaseLane n).modifyTruck n fun t => { t with state := .cleared }) where
  tables ht := (ht.releaseLane n).modifyTruck n _
  staging _ hs := hs.of_calm ((calm_modifyTruck ..).trans (y.calm_releaseLane n))
  lanes ht hl := by
    obtain ⟨docks, released, kept⟩ := releaseLane_reads ht hl n
    have same : ∀ d : Dock, (if d.number = n then { d with lane := none } else d).number = d.number :=
      fun d => by split <;> rfl
    have numbers : ((y.releaseLane n).docks.map Dock.number).Nodup := by
      rw [docks, numbers_map same]
      exact hl.numbered
    have after : ((y.releaseLane n).modifyTruck n fun t => { t with state := .cleared }).docks
        = y.docks.map fun d => if d.number = n then { number := d.number, lane := none, state := .cleared }
          else d := by
      rw [docks_modifyTruck (ht.releaseLane n).trucks numbers n
        (g := fun d => { d with state := .cleared }) (fun _ => rfl), docks, List.map_map]
      refine List.map_congr_left fun d _ => ?_
      simp only [Function.comp, same]
      split <;> rfl
    have number : ∀ d : Dock, (if d.number = n then
        { number := d.number, lane := none, state := TruckState.cleared } else d).number = d.number :=
      fun d => by split <;> rfl
    unfold LaneLaw
    rw [lane_eq_of_lanes (modifyTruck_lanes _ n _), after]
    refine DockLaw.release hl (DockLaw.far y) n (by rw [numbers_map number]; exact hl.numbered)
      (fun d hne => ?_) (fun d hd hn => ?_) released kept
    · rw [List.mem_map]
      constructor
      · rintro ⟨c, hc, rfl⟩
        rw [number] at hne
        rw [if_neg hne]
        exact hc
      · exact fun hd => ⟨d, hd, if_neg hne⟩
    · obtain ⟨c, -, rfl⟩ := List.mem_map.mp hd
      rw [number] at hn
      rw [if_pos hn]
      exact ⟨rfl, rfl⟩

/-- R150: a completed weigh-out writes trucks, lanes, jobs, packs and flags alone. -/
theorem Act.settles_weighedOut (a : Act) (n front rear : Nat) :
    a.yard.Settles true (a.weighedOut n front rear).yard := by
  have measured : a.yard.Settles true (a.on fun y => y.modifyTruck n fun t =>
      { t with measured := some { front := front, rear := rear }, weighedOut := true }).yard :=
    .quiet _ n fun _ => rfl
  have released : ∀ (y : Yard) (n : Nat), y.Settles true (y.releaseLane n) := fun y n => by
    unfold Yard.releaseLane
    split
    · exact (Yard.Settles.truck _ n (fun t => { t with lane := none }) (fun _ => rfl) (.inl rfl)).trans
        (.lane _ _ Lane.release rfl)
    · exact .refl y
  unfold Act.weighedOut
  simp only
  split
  · exact measured
  · refine measured.trans (Yard.Settles.trans ?_ (.flag _ .weighDone))
    split
    · unfold Act.judgedOver
      simp only
      split
      · refine Yard.Settles.trans (Yard.Settles.trans ?_ (Act.settles_createJob _ _ _))
          (.flag _ .truckOver)
        exact Yard.settles_state _ _ .over
      · exact .flag _ .truckOver
    · exact ((released _ _).trans (Yard.settles_state _ _ .cleared)).trans (.flag _ .truckCleared)

theorem Act.sound_weighedOut (a : Act) (n front rear : Nat)
    (hs : ∀ s, a.yard.truckState? n = some s → s = .loaded) :
    a.yard.Sound (a.weighedOut n front rear).yard := by
  have measured : a.yard.Settles false (a.on fun y => y.modifyTruck n fun t =>
      { t with measured := some { front := front, rear := rear }, weighedOut := true }).yard :=
    .quiet _ n fun _ => rfl
  unfold Act.weighedOut
  simp only
  split
  · exact measured.keeps.toSound
  · next t ht =>
    have number : t.number = n := (Yard.dock_of_truck? ht).2
    refine measured.keeps.toSound.trans (Yard.Sound.trans ?_ (Yard.keeps_raise _ _).toSound)
    split
    · unfold Act.judgedOver
      simp only
      split
      · refine Yard.Sound.trans (Yard.Sound.trans ?_ (Act.keeps_createJob _ _ _).toSound)
          (Yard.keeps_raise _ _).toSound
        refine Yard.sound_state _ t.number (st := .over) (fun _ => rfl) fun _ s h => ?_
        rw [number, measured.truckState?] at h
        rw [hs s h]
        rfl
      · exact (Yard.keeps_raise _ _).toSound
    · exact (Yard.sound_judgedClear _ t.number).trans (Yard.keeps_raise _ _).toSound

end Sys2Proof.Machine
end

section
/-! SUPPORT. The restart sequence (R171, R123) leaves the laws of the yard as it finds them. -/

namespace Sys2Proof.Machine

/-! ### The yard after steps 1 to 4 (R171) -/

/-- R171 step 1: what a restart leaves of the yard before its tables are looked at. -/
def Yard.quieted (y : Yard) : Yard :=
  { y with claims := ⟨[]⟩, queues := Vector.replicate 4 [], loader := LoaderLink.initial, events := 0#24 }

/-- R171: a yard with its retained tables cleared. -/
def Yard.emptied (y : Yard) : Yard :=
  { y with
    stack := ⟨[]⟩, claims := ⟨[]⟩, packs := ⟨[]⟩, trucks := ⟨[]⟩
    lanes := Vector.replicate 6 Lane.initial, jobs := ⟨[]⟩ }

/-- With no move, no claim and terminals as after a restart, the laws of moves and claims ask only that no bay
is too high. -/
theorem Yard.staging_of_initial {y : Yard} (hl : y.loader = LoaderLink.initial) (hc : y.claims = ⟨[]⟩)
    (height : ∀ b, y.height b ≤ 6) : y.Staging := by
  have terminal : ∀ t, y.terminal t = Terminal.initial := fun t => by
    rw [Yard.terminal, hl]
    rcases Nat.lt_or_ge t 8 with ht | ht
    · rw [Vector.getElem?_eq_getElem ht]
      simp [LoaderLink.initial]
    · rw [Vector.getElem?_eq_none ht]
      rfl
  have claims : ∀ b, y.claimsOf b = 0 := fun b => by rw [Yard.claimsOf, hc]; rfl
  exact {
    listed := fun t n h => by rw [terminal] at h; cases h
    held := fun n m h => by rw [Yard.move?, hl] at h; cases h
    once := fun t => by rw [terminal]; exact List.nodup_nil
    credit := fun t => by rw [terminal]; decide
    off := fun t _ => by rw [terminal]; rfl
    claims := fun b => by rw [claims, Yard.movesTo, hl]; rfl
    height := fun b => by rw [claims]; exact height b }

theorem Yard.sound_quieted (y : Yard) : y.Sound y.quieted where
  tables ht := { ht with claims := rfl, claimsListed := rfl, moves := rfl }
  staging _ hs := staging_of_initial rfl rfl fun b => Nat.le_trans (Nat.le_add_right _ _) (hs.height b)
  lanes _ hl := hl

/-- A yard with no truck and every lane FREE keeps the law of lanes and trucks. -/
theorem Yard.laneLaw_emptied (y : Yard) : y.emptied.LaneLaw := by
  have lane : ∀ l, y.emptied.lane l = Lane.initial := fun l => by
    rw [Yard.lane]
    rcases Nat.lt_or_ge l 6 with h | h
    · rw [Vector.getElem?_eq_getElem h]
      simp [Yard.emptied]
    · rw [Vector.getElem?_eq_none h]
      rfl
  exact {
    numbers := List.nodup_nil
    vacant := fun l _ _ => by rw [lane]; rfl
    taken := fun l _ h => by rw [lane] at h; simp [Lane.initial] at h
    berthed := fun d hd => absurd hd List.not_mem_nil
    away := fun d hd => absurd hd List.not_mem_nil }

theorem Yard.sound_quieted_emptied (y : Yard) : y.Sound y.quieted.emptied where
  tables _ := ⟨rfl, rfl, rfl, rfl, rfl, Nat.zero_le _, rfl, rfl, rfl, rfl, rfl⟩
  staging _ _ := staging_of_initial rfl rfl fun _ => Nat.zero_le _
  lanes _ _ := Yard.laneLaw_emptied _

/-- R171: which yard the fix-ups begin with: the tables are kept or cleared, and flags are set. -/
theorem Part.restart_yard (p : Part) (pins : Pins) : ∃ (y : Yard) (ev : BitVec 24) (e : Env),
    (y = p.yard.quieted ∨ y = p.yard.quieted.emptied)
      ∧ (p.restart pins).yard = ({ y with events := ev }).restarted e := by
  have loaded : ∃ ev, p.clearVolatile.loadSettings.yard = { p.yard.quieted with events := ev } := by
    unfold Part.loadSettings
    split
    · exact ⟨_, rfl⟩
    · exact ⟨_, rfl⟩
  obtain ⟨ev, hev⟩ := loaded
  unfold Part.restart
  simp only
  generalize p.clearVolatile.loadSettings = q at hev
  have found : ∃ y ev, (y = p.yard.quieted ∨ y = p.yard.quieted.emptied)
      ∧ (if q.power.latch then q.retainLost else q.restartAudit).yard = { y with events := ev } := by
    split
    · exact ⟨_, _, .inr rfl, by simp only [Part.retainLost, Part.clearTables, Part.raise, hev]; rfl⟩
    · unfold Part.restartAudit
      split
      · exact ⟨_, _, .inr rfl, by simp only [Part.clearTables, Part.raise, hev]; rfl⟩
      · exact ⟨_, _, .inl rfl, hev⟩
  obtain ⟨y, ev', hy, hr⟩ := found
  generalize (if q.power.latch then q.retainLost else q.restartAudit) = r at hr
  have pinned : ∃ ev, (r.takePins pins).yard = { y with events := ev } := by
    unfold Part.takePins
    simp only
    split
    · exact ⟨_, by simp only [Part.raise, hr]; rfl⟩
    · exact ⟨ev', hr⟩
  obtain ⟨ev'', hp⟩ := pinned
  exact ⟨y, ev'', (r.takePins pins).env, hy, congrArg (Yard.restarted _) hp⟩

/-! ### The fix-ups (R123) -/

namespace Act

theorem keeps_fixSent (a : Act) (n : Nat) : a.yard.Keeps (a.fixSent n).yard := by
  unfold Act.fixSent
  split
  · split
    · exact a.keeps_unsend n _
    · exact .refl _
  · exact .refl _

theorem keeps_fixLifted (a : Act) (n : Nat) : a.yard.Keeps (a.fixLifted n).yard := by
  unfold Act.fixLifted
  split
  · split
    · exact a.keeps_lose n _
    · exact .refl _
  · exact .refl _

theorem keeps_testUnloading (a : Act) : a.yard.Keeps a.testUnloading.yard :=
  Yard.Keeps.foldl (f := fun a n => a.on fun y => y.testUnloaded n)
    (fun a n => a.yard.keeps_testUnloaded n) _ a

/-- R123 steps 1 and 2: the fix-ups before the trucks are paused. -/
def unsent (a : Act) : Act :=
  let a := a.yard.jobs.keys.foldl Act.fixSent a
  (a.yard.jobs.keys.foldl Act.fixLifted a).testUnloading

theorem fixUps_eq (a : Act) : a.fixUps = a.unsent.on Yard.pauseAll := rfl

theorem keeps_unsent (a : Act) : a.yard.Keeps a.unsent.yard :=
  ((Yard.Keeps.foldl Act.keeps_fixSent _ a).trans (Yard.Keeps.foldl Act.keeps_fixLifted _ _)).trans
    (Act.keeps_testUnloading _)

theorem fold_loader {β : Type} {f : Act → β → Act}
    (hf : ∀ (a : Act) (b : β), (f a b).yard.loader = a.yard.loader) (l : List β) (a : Act) :
    (l.foldl f a).yard.loader = a.yard.loader := by
  induction l generalizing a with
  | nil => rfl
  | cons b rest ih => exact (ih _).trans (hf a b)

/-- R123 steps 1 and 2 leave the loader link alone. -/
theorem unsent_loader (a : Act) : a.unsent.yard.loader = a.yard.loader := by
  have sent : ∀ (a : Act) (n : Nat), (a.fixSent n).yard.loader = a.yard.loader := fun a n => by
    unfold Act.fixSent
    split
    · split
      · exact congrArg (·.2.2) (a.calm_unsend n _)
      · rfl
    · rfl
  have lifted : ∀ (a : Act) (n : Nat), (a.fixLifted n).yard.loader = a.yard.loader := fun a n => by
    unfold Act.fixLifted
    split
    · split
      · exact a.lose_loader n _
      · rfl
    · rfl
  have tested : ∀ a : Act, a.testUnloading.yard.loader = a.yard.loader := fun a =>
    fold_loader (f := fun a n => a.on fun y => y.testUnloaded n)
      (fun a n => congrArg (·.2.2) (a.yard.calm_testUnloaded n)) _ a
  exact (tested _).trans ((fold_loader lifted _ _).trans (fold_loader sent _ a))

end Act

/-- R123 steps 3 and 4, where no move is outstanding. -/
theorem Yard.sound_pauseAll (y : Yard) (h : y.loader = LoaderLink.initial) : y.Sound y.pauseAll where
  tables ht := { ht with
    claims := rfl, claimsListed := rfl
    jobs := Table.wf_mapVal _ _ ht.jobs
    jobIndex := (Table.allVal_key_mapVal y.jobs (fun i => decide (i < 256)) _).trans ht.jobIndex
    trucks := Table.wf_mapVal _ _ ht.trucks
    truckIndex := (Table.allVal_key_mapVal y.trucks (fun i => decide (i < 24)) _).trans ht.truckIndex }
  staging _ hs := staging_of_initial h rfl fun b => Nat.le_trans (Nat.le_add_right _ _) (hs.height b)
  lanes _ hl := by
    have docks : y.pauseAll.docks = y.docks.map fun d =>
        { d with state := if d.state = .loading then .paused else d.state } := by
      simp only [Yard.docks, Yard.pauseAll, Table.mapVal, List.map_map]
      rfl
    unfold LaneLaw
    rw [docks]
    refine DockLaw.map hl (fun _ => rfl) (fun _ => rfl) fun d _ => ?_
    simp only
    split
    · next h => rw [h]; rfl
    · rfl

theorem Yard.keeps_restartExpiries (e : Env) (fuel : Nat) (y : Yard) :
    y.Keeps (Yard.restartExpiries e fuel y) := by
  induction fuel generalizing y with
  | zero => exact .refl y
  | succ fuel ih =>
    unfold Yard.restartExpiries
    split
    · next n hn =>
      refine (Yard.Keeps.trans ?_ (Act.keeps_settled e _)).trans (ih _)
      exact (Act.restates_endStockWait e y.act n fun hnum s hs => Option.some.inj
        (hs.symm.trans (Yard.expiredWait_waits hn hnum))).keeps
    · exact .refl y

theorem Act.keeps_fixNeeds (a : Act) : a.yard.Keeps a.fixNeeds.yard :=
  ((Act.settles_clearDue { a with bays := allBays }).trans (Act.settles_serveNeeds _ _)).keeps

theorem Yard.sound_fixedUp (e : Env) (y : Yard) (h : y.loader = LoaderLink.initial) :
    y.Sound (y.fixedUp e) := by
  have paused : y.Sound y.act.fixUps.yard :=
    y.act.keeps_unsent.toSound.trans (Yard.sound_pauseAll _ (y.act.unsent_loader.trans h))
  have needs := paused.trans y.act.fixUps.keeps_fixNeeds.toSound
  unfold Yard.fixedUp
  generalize y.act.fixUps.fixNeeds = b at needs
  exact (needs.trans (b.yard.keeps_judgeAll e).toSound).trans
    (Act.keeps_offers e (b.on (Yard.judgeAll e))).toSound

theorem Yard.sound_restarted (e : Env) (y : Yard) (h : y.loader = LoaderLink.initial) :
    y.Sound (y.restarted e) := by
  have expired := (y.sound_fixedUp e h).trans
    ((y.fixedUp e).keeps_restartExpiries e Config.maxTrucks).toSound
  unfold Yard.restarted
  generalize Yard.restartExpiries e Config.maxTrucks (y.fixedUp e) = z at expired
  exact (expired.trans (Act.keeps_grants e 6 z.act).toSound).trans (Yard.keeps_serveAll e _).toSound

/-- The restart sequence leaves the laws of the yard as it finds them. -/
theorem Part.sound_restart (p : Part) (pins : Pins) : p.yard.Sound (p.restart pins).yard := by
  obtain ⟨y, ev, e, hy, hr⟩ := p.restart_yard pins
  have flags : y.Sound { y with events := ev } :=
    ⟨fun ht => { ht with }, fun _ hs => hs.of_calm rfl, fun _ hl => hl⟩
  rw [hr]
  rcases hy with rfl | rfl
  · exact (p.yard.sound_quieted.trans flags).trans (Yard.sound_restarted e _ rfl)
  · exact (p.yard.sound_quieted_emptied.trans flags).trans (Yard.sound_restarted e _ rfl)

end Sys2Proof.Machine
end

section
/-! SUPPORT. Every operation of the part keeps the tables of the yard canonical and its laws (O12). -/

namespace Sys2Proof.Machine

/-- What O12 asks of a change of the part: the canonical form, and with it each of the two laws, go over. -/
structure Part.LawsKept (p q : Part) : Prop where
  tables : p.yard.Tables → q.yard.Tables
  staging : p.yard.Tables → p.yard.Staging → q.yard.Staging
  lanes : p.yard.Tables → p.Lanes → q.Lanes

/-- A weigh-out is armed for a truck (R146). -/
def Part.armedOut (p : Part) (n : Nat) : Prop :=
  ∃ a : Arming, p.weigh.arming = some a ∧ a.direction = .weighOut ∧ a.truck = n

theorem Part.lanes_iff (p : Part) :
    p.Lanes ↔ p.yard.LaneLaw ∧ ∀ n, p.armedOut n → p.yard.truckState? n = some .loaded := by
  rw [p.yard.laneLaw_iff]
  constructor
  · rintro ⟨numbers, agree, armed⟩
    exact ⟨⟨numbers, agree⟩, fun n ⟨a, ha, hd, hn⟩ => hn ▸ armed a ha hd⟩
  · rintro ⟨⟨numbers, agree⟩, armed⟩
    exact ⟨numbers, agree, fun a ha hd => armed _ ⟨a, ha, hd, rfl⟩⟩

namespace Part.LawsKept

theorem refl (p : Part) : p.LawsKept p := ⟨id, fun _ => id, fun _ => id⟩

theorem trans {p q r : Part} (h : p.LawsKept q) (k : q.LawsKept r) : p.LawsKept r where
  tables := k.tables ∘ h.tables
  staging ht hs := k.staging (h.tables ht) (h.staging ht hs)
  lanes ht hl := k.lanes (h.tables ht) (h.lanes ht hl)

/-- The laws of the yard are kept, and so is the LOADED state of the trucks that a weigh-out stays armed for. -/
theorem of_sound {p q : Part} (h : p.yard.Sound q.yard)
    (armed : p.yard.Tables → p.Lanes → ∀ n, q.armedOut n → q.yard.truckState? n = some .loaded) :
    p.LawsKept q where
  tables := h.tables
  staging := h.staging
  lanes ht hl := q.lanes_iff.mpr ⟨h.lanes ht (p.lanes_iff.mp hl).1, armed ht hl⟩

/-- No truck leaves LOADED, and no weigh-out is armed that was not before. -/
theorem of_keeps {p q : Part} (h : p.yard.Keeps q.yard) (armed : ∀ n, q.armedOut n → p.armedOut n) :
    p.LawsKept q :=
  of_sound h.toSound fun ht hl n hn =>
    h.loaded ht (p.lanes_iff.mp hl).1 n ((p.lanes_iff.mp hl).2 n (armed n hn))

theorem of_yard {p q : Part} (h : p.yard.Keeps q.yard) (arming : q.weigh.arming = p.weigh.arming) :
    p.LawsKept q :=
  of_keeps h fun n hn => by
    unfold Part.armedOut at hn ⊢
    rw [arming] at hn
    exact hn

/-- Neither the yard nor the armed weighing changes. -/
theorem of_same {p q : Part} (yard : q.yard = p.yard) (arming : q.weigh.arming = p.weigh.arming) :
    p.LawsKept q :=
  of_yard (yard ▸ .refl p.yard) arming

/-- An act of the yard, with what follows it. -/
theorem of_act {p : Part} (f : Env → Act → Act) (h : p.yard.Keeps (f p.env p.yard.act).yard) :
    p.LawsKept (p.doAct f) :=
  of_yard (h.trans (Act.keeps_finish p.env _)) rfl

theorem serve (p : Part) : p.LawsKept p.serve := of_yard (Yard.keeps_serveAll _ _) rfl

theorem judgeAndServe (p : Part) : p.LawsKept p.judgeAndServe :=
  of_yard ((Yard.keeps_judgeAll _ _).trans (Yard.keeps_serveAll _ _)) rfl

theorem raise (p : Part) (e : Event) : p.LawsKept (p.raise e) := of_yard (p.yard.keeps_raise e) rfl

end Part.LawsKept

open Part.LawsKept

/-! ### The clock, the weather and the settings -/

/-- The pack records changed one by one. -/
theorem Yard.keeps_mapPacks (y : Yard) (f : Nat → Pack → Pack) :
    y.Keeps { y with packs := y.packs.mapVal f } :=
  y.keeps_packs _ (Table.wf_mapVal _ _) (by rw [Table.size_mapVal])

theorem Part.laws_dryingExpiry (p : Part) : p.LawsKept p.dryingExpiry :=
  of_yard (p.yard.keeps_mapPacks _) rfl

theorem Part.laws_weighExpiry (p : Part) : p.LawsKept p.weighExpiry :=
  of_keeps (p.yard.keeps_raise .weighFail) fun n ⟨a, ha, _⟩ => by cases ha

theorem Part.laws_stockExpiry (p : Part) {n : Nat} (h : p.yard.expiredWait p.clock = some n) :
    p.LawsKept (p.stockExpiry n) :=
  of_act (fun e a => a.endStockWait e n) (Act.restates_endStockWait p.env p.yard.act n fun hn _ hs => Option.some.inj
    (hs.symm.trans (Yard.expiredWait_waits h hn))).keeps

theorem Part.laws_stockExpiries (fuel : Nat) (p : Part) : p.LawsKept (Part.stockExpiries fuel p) := by
  induction fuel generalizing p with
  | zero => exact .refl p
  | succ fuel ih =>
    unfold Part.stockExpiries
    split
    · next n hn => exact (p.laws_stockExpiry hn).trans (ih _)
    · exact .refl p

theorem Part.laws_expireAll (p : Part) : p.LawsKept p.expireAll := by
  have drying : ∀ p : Part, p.LawsKept (if due p.clock p.weather.deadline then p.dryingExpiry else p) :=
    fun p => by
      split
      · exact p.laws_dryingExpiry
      · exact .refl p
  have weighing : ∀ p : Part, p.LawsKept
      (if due p.clock (p.weigh.arming.map Arming.deadline) then p.weighExpiry else p) := fun p => by
    split
    · exact p.laws_weighExpiry
    · exact .refl p
  exact ((drying p).trans (weighing _)).trans (Part.laws_stockExpiries _ _)

theorem Part.laws_setWeather (p : Part) (w : WeatherSettings) : p.LawsKept (p.setWeather w) := by
  refine of_yard ?_ rfl
  show p.yard.Keeps (if w.capKg < p.settings.weather.capKg then p.yard.clampWater w.capKg else p.yard)
  split
  · exact p.yard.keeps_mapPacks _
  · exact .refl _

theorem Part.laws_setPlanningTo (p : Part) (s : PlanningSettings) :
    p.LawsKept (p.setPlanningTo s) := by
  unfold Part.setPlanningTo
  simp only
  split
  · exact of_same rfl rfl
  · refine Part.LawsKept.trans ?_ (Part.LawsKept.judgeAndServe _)
    exact of_same rfl rfl

theorem Part.laws_setWeighingTo (p : Part) (w : WeighSettings) : p.LawsKept (p.setWeighingTo w) := by
  refine of_same rfl ?_
  show (if _ then p.weigh else { p.weigh with receiver := .hunting }).arming = p.weigh.arming
  split <;> rfl

theorem Part.laws_recallCopy (p : Part) : p.LawsKept p.recallCopy := by
  refine Part.LawsKept.trans (Part.LawsKept.trans (Part.LawsKept.trans ?_ (Part.laws_setWeather _ _))
    (Part.laws_setWeighingTo _ _)) (Part.laws_setPlanningTo _ _)
  exact of_same rfl rfl

/-! ### The requests (R159): what each does to the part -/

namespace Part

theorem laws_setWindow (p : Part) (a : WindowArgs) : p.LawsKept (p.setWindow a).1 := by
  unfold Part.setWindow
  split
  · exact .refl p
  · split
    · exact .refl p
    · refine Part.LawsKept.trans ?_ (Part.LawsKept.serve _)
      exact of_same rfl rfl

theorem laws_setZoning (p : Part) (a : ZoningArgs) : p.LawsKept (p.setZoning a).1 := by
  unfold Part.setZoning
  split
  · exact .refl p
  · split <;> exact of_same rfl rfl

theorem laws_setSpecies (p : Part) (sp d t : Nat) : p.LawsKept (p.setSpecies sp d t).1 := by
  unfold Part.setSpecies
  split
  · exact .refl p
  · split <;> exact of_same rfl rfl

theorem laws_setWeatherRequest (p : Part) (a : WeatherArgs) :
    p.LawsKept (p.setWeatherRequest a).1 := by
  unfold Part.setWeatherRequest
  split
  · exact .refl p
  · split
    · exact .refl p
    · exact p.laws_setWeather _

theorem laws_setPlanning (p : Part) (a : PlanningArgs) : p.LawsKept (p.setPlanning a).1 := by
  unfold Part.setPlanning
  split
  · exact .refl p
  · split
    · exact .refl p
    · exact p.laws_setPlanningTo _

theorem laws_setLoaderLink (p : Part) (t r i : Nat) : p.LawsKept (p.setLoaderLink t r i).1 := by
  unfold Part.setLoaderLink
  simp only
  split
  · exact .refl p
  · split <;> exact of_same rfl rfl

theorem laws_setWeighing (p : Part) (a : WeighingArgs) : p.LawsKept (p.setWeighing a).1 := by
  unfold Part.setWeighing
  split
  · exact .refl p
  · split
    · exact .refl p
    · exact p.laws_setWeighingTo _

theorem laws_setEventMask (p : Part) (m : Nat) : p.LawsKept (p.setEventMask m).1 := by
  unfold Part.setEventMask
  split
  · exact .refl p
  · split <;> exact of_same rfl rfl

theorem laws_storeSettings (p : Part) : p.LawsKept p.storeSettings.1 := by
  unfold Part.storeSettings
  split <;> exact of_same rfl rfl

theorem laws_recallSettings (p : Part) : p.LawsKept p.recallSettings.1 := by
  unfold Part.recallSettings
  split
  · exact .refl p
  · split
    · exact .refl p
    · exact p.laws_recallCopy

theorem laws_setClock (p : Part) (c : Nat) : p.LawsKept (p.setClock c).1 := by
  unfold Part.setClock
  split
  · exact .refl p
  · refine Part.LawsKept.trans ?_ (Part.laws_expireAll _)
    exact of_same rfl rfl

theorem laws_registerPack (p : Part) (a : PackArgs) : p.LawsKept (p.registerPack a).1 := by
  unfold Part.registerPack
  split
  · exact .refl p
  · split
    · exact .refl p
    · split
      · exact .refl p
      · next full =>
        split
        · exact .refl p
        · next room =>
          exact of_act (fun e act => act.registerPack e a) (Act.keeps_registerPack p.env p.yard.act a (Nat.lt_of_not_le full)
            (Yard.lt_of_room (Nat.pos_of_ne_zero room)))

theorem laws_removePack (p : Part) (tag : Nat) : p.LawsKept (p.removePack tag).1 := by
  unfold Part.removePack
  split
  · exact .refl p
  · split
    · exact .refl p
    · split
      · exact of_act (fun e a => a.removePack e tag) (Act.keeps_removePack p.env p.yard.act tag)
      · exact .refl p

theorem laws_holdPack (p : Part) (tag : Nat) : p.LawsKept (p.holdPack tag).1 := by
  unfold Part.holdPack
  split
  · exact .refl p
  · split
    · exact .refl p
    · split
      · exact of_yard (p.yard.keeps_modifyPack tag _) rfl
      · exact .refl p
      · exact of_act (fun e a => a.holdReserved e tag) (Act.keeps_holdReserved p.env p.yard.act tag)
      · exact .refl p
      · exact .refl p
      · exact .refl p

theorem laws_releasePack (p : Part) (tag : Nat) : p.LawsKept (p.releasePack tag).1 := by
  unfold Part.releasePack
  split
  · exact .refl p
  · split
    · exact .refl p
    · split
      · exact .refl p
      · exact of_act (fun _ a => a.releasePack tag) (Act.keeps_setPackState p.yard.act tag .free)
      · exact .refl p
      · exact .refl p
      · exact .refl p
      · exact .refl p

theorem laws_locateDoubt (p : Part) (tag finding bay : Nat) :
    p.LawsKept (p.locateDoubt tag finding bay).1 := by
  unfold Part.locateDoubt
  split
  · split
    · exact .refl p
    · next room =>
      exact of_act (fun _ a => a.locateInBay tag bay) (Act.keeps_locateInBay p.yard.act tag bay
        (Yard.lt_of_room (Nat.pos_of_ne_zero room)))
  · split
    · split
      · split
        · next n number target _ _ _ _ _ _ =>
          exact of_act (fun e a => a.locateLoad e tag n number target)
            (Act.keeps_locateLoad p.env p.yard.act tag n number target)
        · exact .refl p
      · split
        · next n number source _ _ _ _ _ _ =>
          exact of_act (fun _ a => a.locateOffload tag n number source)
            (Act.keeps_locateOffload p.yard.act tag n number source)
        · exact .refl p
      · exact .refl p
    · exact of_act (fun e a => a.giveUp e tag) (Act.keeps_giveUp p.env p.yard.act tag)

theorem laws_locatePack (p : Part) (tag finding bay : Nat) :
    p.LawsKept (p.locatePack tag finding bay).1 := by
  unfold Part.locatePack
  split
  · exact .refl p
  · split
    · exact .refl p
    · split
      · exact p.laws_locateDoubt tag finding bay
      · exact .refl p

theorem laws_announceTruck (p : Part) (a : TruckArgs) : p.LawsKept (p.announceTruck a).1 := by
  unfold Part.announceTruck
  split
  · exact .refl p
  · next mode _ =>
    split
    · exact .refl p
    · split
      · exact .refl p
      · next known =>
        split
        · exact .refl p
        · next i hi =>
          exact of_yard (p.yard.keeps_addTruck i (newTruck a mode p.clock) hi (Option.not_isSome_iff_eq_none.mp known)
            rfl rfl) rfl

/-- R64, R65: a truck that no weighing is armed for is cancelled. -/
theorem laws_cancelTruck (p : Part) (n : Nat) : p.LawsKept (p.cancelTruck n).1 := by
  unfold Part.cancelTruck
  split
  · exact .refl p
  · split
    · exact .refl p
    · next t ht =>
      obtain ⟨-, rfl⟩ := Yard.dock_of_truck? ht
      split
      · exact .refl p
      · next unarmed =>
        split
        · exact .refl p
        · next early =>
          refine of_act (fun e a => a.cancelEarly e t) (Act.keeps_cancelEarly p.env p.yard.act t ht fun h => ?_)
          rw [h] at early
          cases early
        · next late =>
          obtain ⟨sound, others⟩ := Act.sound_cancelLate p.env p.yard.act t fun s hs => by
            have : p.yard.truckState? t.number = some s := hs
            rw [Yard.truckState?, ht] at this
            obtain rfl := Option.some.inj this
            revert late
            cases t.state <;> simp [TruckState.cancelEarly, TruckState.holdsLane]
          have finish := Act.keeps_finish p.env (p.yard.act.cancelLate p.env t)
          refine of_sound (sound.trans finish.toSound) fun htab hl n hn => ?_
          obtain ⟨law, armed⟩ := p.lanes_iff.mp hl
          have hne : n ≠ t.number := by
            rintro rfl
            obtain ⟨a, ha, -, hn⟩ := hn
            have : p.weigh.arming = some a := ha
            exact unarmed (by rw [this]; exact congrArg some hn)
          exact finish.loaded (sound.tables htab) (sound.lanes htab law) n
            (others htab law n hne (armed n hn))

/-- R62, R63: a truck goes between LOADING and PAUSED. -/
theorem laws_moveTruckTo (p : Part) (n : Nat) {st st' : TruckState}
    (h : p.yard.truckState? n = some st) (holds : st.holdsLane = st'.holdsLane) (ne : st ≠ .loaded) :
    p.LawsKept (p.moveTruckTo n st') := by
  refine Part.LawsKept.trans ?_ (Part.LawsKept.judgeAndServe _)
  refine of_yard (p.yard.keeps_state n (st := st') (fun _ => rfl) fun _ s hs => ?_) rfl
  rw [h] at hs
  obtain rfl := Option.some.inj hs
  exact ⟨holds, ne⟩

theorem laws_pauseTruck (p : Part) (n : Nat) : p.LawsKept (p.pauseTruck n).1 := by
  unfold Part.pauseTruck
  split
  · exact .refl p
  · split
    · exact .refl p
    · next h => exact p.laws_moveTruckTo n h rfl (by simp)
    · exact .refl p
    · exact .refl p

theorem laws_resumeTruck (p : Part) (n : Nat) : p.LawsKept (p.resumeTruck n).1 := by
  unfold Part.resumeTruck
  split
  · exact .refl p
  · split
    · exact .refl p
    · next h => exact p.laws_moveTruckTo n h rfl (by simp)
    · exact .refl p
    · exact .refl p

theorem laws_departTruck (p : Part) (n : Nat) : p.LawsKept (p.departTruck n).1 := by
  unfold Part.departTruck
  split
  · exact .refl p
  · split
    · exact .refl p
    · next h => exact of_yard (p.yard.keeps_depart n h) rfl
    · exact .refl p

theorem laws_openLane (p : Part) (l : Nat) : p.LawsKept (p.openLane l).1 := by
  unfold Part.openLane
  split
  · exact .refl p
  · simp only
    split
    · exact of_act (fun _ a => a.on fun y => y.modifyLane l Lane.opened) (p.yard.keeps_openLane l)
    · exact of_yard (p.yard.keeps_openLane l) rfl

theorem laws_closeLane (p : Part) (l : Nat) : p.LawsKept (p.closeLane l).1 := by
  unfold Part.closeLane
  split
  · exact .refl p
  · exact of_yard (p.yard.keeps_closeLane l) rfl

theorem laws_enrollLoader (p : Part) (t c s : Nat) : p.LawsKept (p.enrollLoader t c s).1 := by
  unfold Part.enrollLoader
  split
  · exact .refl p
  · split
    · exact .refl p
    · next range =>
      split
      · exact .refl p
      · split
        · exact .refl p
        · next state =>
          refine of_yard (p.yard.keeps_enroll t c _ (not_not.mp state) ?_) rfl
          have := (not_not.mp range).2
          simp only [within, Bool.and_eq_true, decide_eq_true_eq] at this
          exact this.2

theorem laws_retireLoader (p : Part) (t : Nat) : p.LawsKept (p.retireLoader t).1 := by
  unfold Part.retireLoader
  split
  · exact .refl p
  · split
    · exact .refl p
    · split
      · exact .refl p
      · exact of_act (fun e a => a.retire e t) (Act.keeps_retire p.env p.yard.act t)

theorem laws_readText (p : Part) : p.LawsKept p.readText.1 :=
  of_yard (p.yard.keeps_onLink (fun l => { l with texts := l.texts.tail }) rfl rfl) rfl

/-- R146: a weigh-out is armed for a LOADED truck alone. -/
theorem laws_arm (p : Part) (n : Nat) (d : Direction) : p.LawsKept (p.arm n d).1 := by
  unfold Part.arm
  split
  · exact .refl p
  · split
    · exact .refl p
    · next st hst =>
      split
      · exact .refl p
      · split
        · exact .refl p
        · next arms =>
          refine of_sound (.refl _) fun _ _ m ⟨a, ha, hd, hm⟩ => ?_
          obtain rfl := Option.some.inj ha
          obtain rfl : d = .weighOut := hd
          obtain rfl : n = m := hm
          refine hst.trans (congrArg some ?_)
          revert arms
          cases st <;> simp [Direction.arms]

theorem laws_abortWeighing (p : Part) : p.LawsKept p.abortWeighing.1 := by
  unfold Part.abortWeighing
  split
  · exact .refl p
  · exact of_keeps (.refl _) fun n ⟨a, ha, _⟩ => by cases ha

theorem laws_readEvents (p : Part) : p.LawsKept p.readEvents.1 := by
  unfold Part.readEvents
  simp only
  have cleared : p.LawsKept { p with yard := { p.yard with events := 0#24 } } :=
    of_yard (.of_calm (fun h => { h with }) rfl rfl rfl) rfl
  split
  · exact cleared
  · exact cleared.trans (Part.LawsKept.raise _ _)

theorem laws_read {p : Part} {o : Part × Response} (h : o.1 = p) : p.LawsKept o.1 := h ▸ .refl p

/-- R159: whatever a request does, the tables stay canonical and the laws hold on. -/
theorem laws_perform (p : Part) (r : Request) : p.LawsKept (p.perform r).1 := by
  cases r with
  | setWindow a => exact p.laws_setWindow a
  | setZoning a => exact p.laws_setZoning a
  | setSpecies sp d t => exact p.laws_setSpecies sp d t
  | setWeather a => exact p.laws_setWeatherRequest a
  | setPlanning a => exact p.laws_setPlanning a
  | setLoaderLink t r i => exact p.laws_setLoaderLink t r i
  | setWeighing a => exact p.laws_setWeighing a
  | setEventMask m => exact p.laws_setEventMask m
  | readSettings => exact .refl p
  | storeSettings => exact p.laws_storeSettings
  | recallSettings => exact p.laws_recallSettings
  | setClock c => exact p.laws_setClock c
  | readClock => exact .refl p
  | identify => exact .refl p
  | registerPack a => exact p.laws_registerPack a
  | removePack t => exact p.laws_removePack t
  | holdPack t => exact p.laws_holdPack t
  | releasePack t => exact p.laws_releasePack t
  | locatePack t f b => exact p.laws_locatePack t f b
  | readPack t => exact laws_read (by
      show (p.readPack t).1 = p
      unfold Part.readPack
      split
      · rfl
      · split <;> rfl)
  | readBay b => exact laws_read (by
      show (p.readBay b).1 = p
      unfold Part.readBay
      split <;> rfl)
  | announceTruck a => exact p.laws_announceTruck a
  | cancelTruck n => exact p.laws_cancelTruck n
  | pauseTruck n => exact p.laws_pauseTruck n
  | resumeTruck n => exact p.laws_resumeTruck n
  | departTruck n => exact p.laws_departTruck n
  | readTruck n k => exact laws_read (by
      show (p.readTruck n k).1 = p
      unfold Part.readTruck
      split
      · rfl
      · split <;> rfl)
  | listTrucks => exact .refl p
  | openLane l => exact p.laws_openLane l
  | closeLane l => exact p.laws_closeLane l
  | readLanes => exact .refl p
  | enrollLoader t c s => exact p.laws_enrollLoader t c s
  | retireLoader t => exact p.laws_retireLoader t
  | readLoader t => exact laws_read (by
      show (p.readLoader t).1 = p
      unfold Part.readLoader
      split <;> rfl)
  | readText => exact p.laws_readText
  | weighIn n => exact p.laws_arm n .weighIn
  | weighOut n => exact p.laws_arm n .weighOut
  | abortWeighing => exact p.laws_abortWeighing
  | readWeighbridge => exact of_same rfl rfl
  | readEvents => exact p.laws_readEvents
  | runAudit => exact laws_read (by
      show p.runAudit.1 = p
      unfold Part.runAudit
      split <;> rfl)
  | restart => exact of_same rfl rfl

/-! ### The store, the weighbridge line and the loader link -/

theorem laws_storeEnds (p : Part) (agrees : Bool) : p.LawsKept (p.storeEnds agrees) := by
  unfold Part.storeEnds
  split
  · refine Part.LawsKept.trans (Part.LawsKept.trans ?_ (Part.LawsKept.raise _ _))
      (Part.LawsKept.serve _)
    exact of_same rfl rfl
  · exact .refl p

theorem laws_recallEnds (p : Part) : p.LawsKept p.recallEnds := by
  unfold Part.recallEnds
  split
  · refine Part.LawsKept.trans ?_ (Part.LawsKept.serve _)
    exact of_same rfl rfl
  · exact .refl p

theorem laws_rainPulse (p : Part) : p.LawsKept p.rainPulse := by
  unfold Part.rainPulse
  simp only
  split
  · exact of_yard (p.yard.keeps_mapPacks _) rfl
  · exact of_same rfl rfl

theorem laws_haltOff (p : Part) : p.LawsKept p.haltOff := by
  refine Part.LawsKept.trans (Part.LawsKept.trans ?_ (Part.LawsKept.raise _ .haltOff))
    (Part.LawsKept.serve _)
  exact of_same rfl rfl

/-- R147: a weighing completes. A truck that a weigh-out is armed for is LOADED, and leaves that state only
with the arming record gone. -/
theorem laws_weighed (p : Part) (a : Arming) (front rear : Nat)
    (h : a.direction = .weighOut → p.armedOut a.truck) : p.LawsKept (p.weighed a front rear) := by
  unfold Part.weighed
  simp only
  split
  · refine Part.LawsKept.trans (q := { p with weigh := { p.weigh with arming := none } })
      (of_keeps (.refl _) fun n ⟨a, ha, _⟩ => by cases ha) ?_
    exact of_act (fun _ act => act.weighedIn a.truck front rear)
      (Act.keeps_weighedIn p.yard.act a.truck front rear)
  · next out =>
    have learnt : ∀ q : Part, (q.learn a.truck front rear).yard = q.yard
        ∧ (q.learn a.truck front rear).weigh = q.weigh := fun q => by
      unfold Part.learn
      split
      · split <;> exact ⟨rfl, rfl⟩
      · exact ⟨rfl, rfl⟩
    obtain ⟨hy, hw⟩ := learnt { p with weigh := { p.weigh with arming := none } }
    generalize Part.learn { p with weigh := { p.weigh with arming := none } } a.truck front rear = q
      at hy hw
    have start : p.yard = q.yard.act.yard := hy.symm
    have settles := q.yard.act.settles_weighedOut a.truck front rear
    have finish := Act.keeps_finish q.env (q.yard.act.weighedOut a.truck front rear)
    refine { tables := fun ht => finish.tables (settles.tables (start ▸ ht))
             staging := fun ht hs => finish.staging (settles.tables (start ▸ ht))
               ((start ▸ hs).of_calm settles.calm)
             lanes := fun ht hl => (Part.lanes_iff _).mpr ⟨?_, fun n ⟨b, hb, _⟩ => ?_⟩ }
    · obtain ⟨law, armed⟩ := p.lanes_iff.mp hl
      have loaded := armed a.truck (h out)
      rw [start] at ht law loaded
      have sound := Act.sound_weighedOut q.yard.act a.truck front rear fun s hs =>
        Option.some.inj (hs.symm.trans loaded)
      exact finish.lanes (sound.tables ht) (sound.lanes ht law)
    · have : q.weigh.arming = some b := hb
      rw [hw] at this
      cases this

theorem laws_handReading (p : Part) (deck value : Nat) : p.LawsKept (p.handReading deck value) := by
  unfold Part.handReading
  split
  · exact .refl p
  · next a ha =>
    have same : (a.put deck value).direction = a.direction ∧ (a.put deck value).truck = a.truck := by
      unfold Arming.put
      split <;> exact ⟨rfl, rfl⟩
    simp only
    split
    · exact p.laws_weighed _ _ _ fun hd => ⟨a, ha, same.1 ▸ hd, same.2.symm⟩
    · refine of_keeps (.refl _) fun n ⟨b, hb, hd, hn⟩ => ⟨a, ha, ?_⟩
      obtain rfl := Option.some.inj hb
      exact ⟨same.1 ▸ hd, same.2 ▸ hn⟩

theorem laws_discard (p : Part) : p.LawsKept p.discard :=
  of_yard (p.yard.keeps_raise .weighLine) rfl

theorem laws_recordEnds (p : Part) (chars : List Nat) : p.LawsKept (p.recordEnds chars) := by
  unfold Part.recordEnds
  split
  · exact p.laws_discard
  · next deck raw stable _ =>
    have last : ∀ r : Reading, p.LawsKept
        { p with weigh := ({ p.weigh with receiver := .hunting }).putLast deck r } := fun r =>
      of_same rfl (by
        show (WeighUnit.putLast _ deck r).arming = _
        unfold WeighUnit.putLast
        split <;> rfl)
    simp only
    split
    · exact (last _).trans (Part.laws_handReading _ _ _)
    · exact last _

theorem laws_lineChar (p : Part) (c : LineChar) : p.LawsKept (p.lineChar c) := by
  unfold Part.lineChar
  simp only
  split
  · split
    · exact of_same rfl rfl
    · exact .refl p
  · split
    · exact p.laws_discard
    · split
      · exact p.laws_recordEnds _
      · split
        · exact p.laws_discard
        · exact of_same rfl rfl

/-- A change of the loader link that leaves terminals and moves. -/
theorem laws_onLink (p : Part) (f : LoaderLink → LoaderLink)
    (terminals : (f p.yard.loader).terminals = p.yard.loader.terminals)
    (moves : (f p.yard.loader).moves = p.yard.loader.moves) :
    p.LawsKept { p with yard := p.yard.onLink f } :=
  of_yard (p.yard.keeps_onLink f terminals moves) rfl

theorem laws_loaderTurn (p : Part) : p.LawsKept p.loaderTurn := by
  unfold Part.loaderTurn
  split
  · exact p.laws_onLink _ rfl rfl
  · exact .refl p

theorem laws_probeTurn (p : Part) : p.LawsKept p.probeTurn := by
  unfold Part.probeTurn
  split
  · exact p.laws_onLink _ rfl rfl
  · exact .refl p

theorem laws_clearAllBegins (p : Part) : p.LawsKept p.clearAllBegins := by
  unfold Part.clearAllBegins
  split
  · exact p.laws_onLink _ rfl rfl
  · exact .refl p

theorem laws_enrollEnds (p : Part) (x : Exchange) : p.LawsKept (p.enrollEnds x) := by
  unfold Part.enrollEnds
  split
  · exact of_same rfl rfl
  · exact .refl p

theorem laws_answerTimeout (p : Part) : p.LawsKept p.answerTimeout := by
  have late := p.laws_onLink LoaderLink.lateExpires rfl rfl
  unfold Part.answerTimeout
  generalize ({ p with yard := p.yard.onLink LoaderLink.lateExpires } : Part) = q at late
  refine late.trans ?_
  unfold Part.notAnswered
  split
  · exact .refl q
  · next x _ =>
    split
    · exact of_yard (q.yard.keeps_resend x) rfl
    · exact (of_act (fun e a => a.exchangeFailed e x)
        (Act.keeps_exchangeFailed q.env q.yard.act x)).trans (Part.laws_enrollEnds _ x)

theorem laws_lateAnswer (p : Part) (t : Nat) (ans : Answer) : p.LawsKept (p.lateAnswer t ans) := by
  unfold Part.lateAnswer
  simp only
  have late := p.laws_onLink (fun l => { l with late := l.lateBut t }) rfl rfl
  split
  · exact late.trans (Part.LawsKept.raise _ _)
  · exact late

theorem laws_answered (p : Part) (t : Nat) (ans : Answer) : p.LawsKept (p.answered t ans) := by
  unfold Part.answered
  split
  · next x _ =>
    split
    · have taken : p.yard.Keeps
          ((p.yard.act.on fun y => y.exchangeDone p.env.clock x).report p.env x ans).yard :=
        (p.yard.keeps_exchangeDone p.env.clock x).trans (Act.keeps_report p.env
          (p.yard.act.on fun y => y.exchangeDone p.env.clock x) x ans)
      exact (of_act (fun e a => (a.on fun y => y.exchangeDone e.clock x).report e x ans) taken).trans
        (Part.laws_enrollEnds _ x)
    · split
      · exact p.laws_lateAnswer t ans
      · exact .refl p
  · split
    · exact p.laws_lateAnswer t ans
    · exact .refl p

/-- The restart sequence, after which no weighing is armed. -/
theorem laws_restart (p : Part) (pins : Pins) : p.LawsKept (p.restart pins) := by
  refine of_sound (p.sound_restart pins) fun _ _ n ⟨a, ha, _⟩ => ?_
  have none : (p.restart pins).weigh.arming = none := by
    have loaded : p.clearVolatile.loadSettings.weigh = WeighUnit.initial := by
      unfold Part.loadSettings
      split <;> rfl
    unfold Part.restart
    simp only
    generalize p.clearVolatile.loadSettings = q at loaded
    have found : (if q.power.latch then q.retainLost else q.restartAudit).weigh = q.weigh := by
      split
      · rfl
      · unfold Part.restartAudit
        split <;> rfl
    generalize (if q.power.latch then q.retainLost else q.restartAudit) = r at found
    unfold Part.takePins Part.onYard
    simp only
    split
    · show r.weigh.arming = none
      rw [found, loaded]; rfl
    · show r.weigh.arming = none
      rw [found, loaded]; rfl
  rw [none] at ha
  cases ha

/-- The tables and the laws of the yard are kept by every operation that a row is made of. -/
theorem laws_stepLaw : Part.StepLaw Part.LawsKept where
  refl := .refl
  trans h k := h.trans k
  perform p r _ _ _ _ := (p.laws_perform r).trans (of_same rfl rfl)
  refuse _ _ _ _ _ _ := of_same rfl rfl
  stored _ _ _ := of_same rfl rfl
  unstored _ _ _ _ := of_same rfl rfl
  full _ _ := of_same rfl rfl
  linkError p := .raise p .linkError
  receiver _ _ := of_same rfl rfl
  started _ _ := of_same rfl rfl
  sent _ _ _ := of_same rfl rfl
  power _ _ := of_same rfl rfl
  flightEnds _ := of_same rfl rfl
  restart := laws_restart
  storeEnds := laws_storeEnds
  recallEnds := laws_recallEnds
  clock _ := of_same rfl rfl
  dryingExpiry := laws_dryingExpiry
  stockExpiry p _ h := p.laws_stockExpiry h
  weighExpiry := laws_weighExpiry
  rainPulse := laws_rainPulse
  rainOtherEdge _ := of_same rfl rfl
  haltOn p := of_yard (p.yard.keeps_raise .haltOn) rfl
  haltOff := laws_haltOff
  lineChar := laws_lineChar
  loaderTurn := laws_loaderTurn
  probeTurn := laws_probeTurn
  clearAllBegins := laws_clearAllBegins
  answerTimeout := laws_answerTimeout
  answered := laws_answered

end Part

/-- Settles O12, by the induction over the operations of a step (Part.StepLaw). -/
theorem stepKeepsTables : Obligations.StepKeepsTables := by
  intro s t h hs
  have kept := Part.laws_stepLaw.step hs
  exact ⟨kept.tables h, kept.staging h, kept.lanes h⟩

end Sys2Proof.Machine
end

section
/-! SUPPORT. The state after reset (O10), and the requests that write a window or the zoning (O15, O16). -/

namespace Sys2Proof.Machine

/-! ### Reset -/

theorem State.reset_staging : State.reset.part.yard.Staging :=
  Yard.staging_of_initial rfl rfl fun _ => Nat.zero_le _

theorem State.reset_laneLaw : State.reset.part.yard.LaneLaw :=
  (State.reset.part.yard.laneLaw_iff).mpr ⟨List.nodup_nil, by decide⟩

/-- No pack stands in a stack, and no pack has a record. -/
theorem State.reset_placed : State.reset.part.yard.Placed := fun b i tag => by
  have stack : State.reset.part.yard.stackOf b = [] := rfl
  have pack : State.reset.part.yard.pack? tag = none := rfl
  simp [stack, pack]

/-- No job is queued, and there is no job. -/
theorem State.reset_queued : State.reset.part.yard.Queued State.reset.part.env := fun n zone hz => by
  have queue : State.reset.part.yard.queue zone = [] := by
    rw [Yard.queue, Vector.getElem?_eq_getElem hz]
    show (Vector.replicate 4 [])[zone] = []
    simp
  have job : State.reset.part.yard.belongsIn State.reset.part.env n zone = false := rfl
  rw [queue, job]
  rfl

/-- Settles O10: every table is empty, and the other fields are evaluated. -/
theorem resetMeetsInvariants : Obligations.ResetMeetsInvariants := by
  refine ⟨?_, ?_, State.reset_staging, (Part.lanes_iff _).mpr ⟨State.reset_laneLaw, ?_⟩,
    State.reset_placed, State.reset_queued, ?_, ?_⟩
  · exact {
      settings := by decide
      trims := by decide
      stored := by decide
      storedTrims := by decide
      flight := rfl
      clock := by decide
      prescale := by decide
      discards := by decide
      receiver := rfl
      inbound := by decide
      buffers := by decide }
  · exact ⟨rfl, rfl, rfl, rfl, rfl, by decide, rfl, rfl, rfl, rfl, rfl⟩
  · rintro n ⟨a, ha, -⟩
    cases ha
  · decide
  · decide

/-! ### A request that is taken at once (R158, R159) -/

/-- A taken request is carried out, and its reply buffer gets what it answers. -/
theorem State.request_taken {s : State} (h : s.takesNow) (hd : Header) (r : Request) :
    s.request hd r
      = .next (s.withPart (Part.answer (s.part.perform r) (byte (requestKind r)) hd.seq hd.check)) := by
  obtain ⟨running, can, inbound⟩ := h
  show Host.Outcome.next (s.withPart (s.part.request hd r)) = _
  unfold Part.request
  rw [running, can, inbound]
  rfl

/-- A request that replies leaves the state of the reply. -/
theorem State.request_replied {s : State} (h : s.takesNow) (hd : Header) {r : Request} {p : Part}
    {res : Result} {body : List Byte} (hp : s.part.perform r = (p, .reply res body)) :
    s.request hd r = .next (s.replied hd (byte (requestKind r)) res body p) := by
  rw [State.request_taken h, hp]
  rfl

theorem Part.storeBusy_iff (p : Part) : p.storeBusy = true ↔ ¬ p.flight = .nothing := by
  simp [Part.storeBusy]

/-! ### SET WINDOW (R12) -/

theorem flagOf?_iff (n : Nat) (b : Bool) : flagOf? n = some b ↔ n = if b then 1 else 0 := by
  unfold flagOf?
  split <;> cases b <;> simp_all

theorem WindowKind.ofCode?_iff (n : Nat) (k : WindowKind) : WindowKind.ofCode? n = some k ↔ n = k.code := by
  unfold WindowKind.ofCode?
  split <;> cases k <;> simp_all [WindowKind.code]

/-- A number is the value of a byte exactly when it is at most 255, and the byte is then its own. -/
theorem byte_iff (n : Nat) (b : Byte) : (n ≤ 255 ∧ byte n = b) ↔ n = b.toNat := by
  constructor
  · rintro ⟨h, rfl⟩
    exact (Nat.mod_eq_of_lt (by omega)).symm
  · rintro rfl
    exact ⟨by have := b.isLt; omega, BitVec.eq_of_toNat_eq (Nat.mod_eq_of_lt b.isLt)⟩

/-- R12: SET WINDOW reads the window that its operands name. -/
theorem windowOf?_iff (a : WindowArgs) (w : Window) : windowOf? a = some w ↔ windowNamed a w := by
  have fields : windowOf? a = some w ↔ flagOf? a.enable = some w.enable
      ∧ WindowKind.ofCode? a.kind = some w.kind ∧ a.window ≤ 7 ∧ (a.base ≤ 255 ∧ byte a.base = w.base)
      ∧ (a.mask ≤ 255 ∧ byte a.mask = w.mask) ∧ a.limit = w.limit ∧ 1 ≤ a.limit ∧ a.limit ≤ 6 := by
    unfold windowOf?
    split
    · next on k hon hk =>
      rw [hon, hk]
      obtain ⟨enable, kind, base, mask, limit⟩ := w
      simp only [within, Bool.and_eq_true, decide_eq_true_eq, Option.ite_none_right_eq_some,
        Option.some.injEq, Window.mk.injEq]
      tauto
    · next none =>
      exact ⟨fun h => (nomatch h), fun ⟨he, hk, _⟩ => absurd hk (none _ _ he)⟩
  rw [fields, flagOf?_iff, WindowKind.ofCode?_iff, byte_iff, byte_iff]
  unfold windowNamed
  tauto

/-- Settles O15: the operands name a window exactly when SET WINDOW reads one (windowOf?_iff). -/
theorem setWindowWrites : Obligations.SetWindowWrites := by
  intro h a s taken
  have busy : s.part.storeBusy = true ↔ ¬ s.storeIdle := s.part.storeBusy_iff
  refine ⟨fun w hw idle => ?_, fun none => ?_, fun ⟨w, hw⟩ flying => ?_⟩
  · refine State.request_replied taken h (r := .setWindow a) ?_
    show s.part.setWindow a = _
    unfold Part.setWindow
    rw [(windowOf?_iff a w).mpr hw]
    simp only
    rw [if_neg fun b => busy.mp b idle]
    rfl
  · refine State.request_replied taken h (r := .setWindow a) ?_
    show s.part.setWindow a = _
    unfold Part.setWindow
    have : windowOf? a = Option.none :=
      Option.eq_none_iff_forall_ne_some.mpr fun w hw => none ⟨w, (windowOf?_iff a w).mp hw⟩
    rw [this]
    rfl
  · refine State.request_replied taken h (r := .setWindow a) ?_
    show s.part.setWindow a = _
    unfold Part.setWindow
    rw [(windowOf?_iff a w).mpr hw]
    simp only
    rw [if_pos (busy.mpr flying)]
    rfl

/-! ### SET ZONING (R16) -/

theorem ZoningMode.ofCode?_iff (n : Nat) (m : ZoningMode) :
    ZoningMode.ofCode? n = some m ↔ n = m.code := by
  unfold ZoningMode.ofCode?
  split <;> cases m <;> simp_all [ZoningMode.code]

/-- R16: SET ZONING reads the zoning that its operands name. -/
theorem zonesOf?_iff (a : ZoningArgs) (m : ZoningMode) (z : Vector Nat 6) :
    zonesOf? a = some (m, z) ↔ zoningNamed a m z := by
  have zones : (#v[a.lane0, a.lane1, a.lane2, a.lane3, a.lane4, a.lane5] : Vector Nat 6).toList.all
        (fun z => decide (z ≤ 3)) = true
      ↔ a.lane0 ≤ 3 ∧ a.lane1 ≤ 3 ∧ a.lane2 ≤ 3 ∧ a.lane3 ≤ 3 ∧ a.lane4 ≤ 3 ∧ a.lane5 ≤ 3 := by
    simp
  unfold zonesOf? zoningNamed
  rw [← zones, ← ZoningMode.ofCode?_iff]
  simp only
  split
  · next k hk =>
    rw [hk]
    simp only [Option.ite_none_right_eq_some, Option.some.injEq, Prod.mk.injEq]
    tauto
  · next hk =>
    rw [hk]
    simp

/-- Settles O16: the operands name a zoning exactly when SET ZONING reads one (zonesOf?_iff). -/
theorem setZoningWrites : Obligations.SetZoningWrites := by
  intro h a s taken
  have busy : s.part.storeBusy = true ↔ ¬ s.storeIdle := s.part.storeBusy_iff
  refine ⟨fun m z hz idle empty => ?_, fun none => ?_, fun ⟨m, z, hz⟩ held => ?_⟩
  · refine State.request_replied taken h (r := .setZoning a) ?_
    show s.part.setZoning a = _
    unfold Part.setZoning
    rw [(zonesOf?_iff a m z).mpr hz]
    simp only
    rw [if_neg fun b => b.elim (fun b => busy.mp b idle) fun jobs => jobs empty]
    rfl
  · refine State.request_replied taken h (r := .setZoning a) ?_
    show s.part.setZoning a = _
    unfold Part.setZoning
    have : zonesOf? a = Option.none := Option.eq_none_iff_forall_ne_some.mpr fun (m, z) hz =>
      none ⟨m, z, (zonesOf?_iff a m z).mp hz⟩
    rw [this]
    rfl
  · refine State.request_replied taken h (r := .setZoning a) ?_
    show s.part.setZoning a = _
    unfold Part.setZoning
    rw [(zonesOf?_iff a m z).mpr hz]
    simp only
    rw [if_pos (held.imp busy.mpr id)]
    rfl

end Sys2Proof.Machine
end

section
/-! SUPPORT. Stacks and places agree through joins and leaves (R3, R4), and REGISTER PACK (R24, R25). -/

namespace Sys2Proof.Machine

/-- Where a tag's pack is, if it has a record. -/
def Yard.placeOf? (y : Yard) (tag : Nat) : Option Place := (y.pack? tag).map Pack.place

theorem tagsAfter_append {l r : List Nat} {tag : Nat} (h : tag ∉ l) :
    tagsAfter tag (l ++ tag :: r) = r := by
  induction l with
  | nil => simp [tagsAfter]
  | cons t rest ih =>
    obtain ⟨ht, hr⟩ := not_or.mp (mt List.mem_cons.mpr h)
    rw [List.cons_append, tagsAfter, if_neg (Ne.symm ht), ih hr]

namespace Yard

/-! ### The creation of a record, and the join -/

theorem placeOf?_addPack (y : Yard) (tag : Nat) (p : Pack) (u : Nat) :
    (y.addPack tag p).placeOf? u = if u = tag then some p.place else y.placeOf? u := by
  unfold placeOf?
  split
  · next hu =>
    subst hu
    exact congrArg (Option.map Pack.place) (Table.get?_put_same ..)
  · next hu => exact congrArg (Option.map Pack.place) (Table.get?_put_other _ _ (Ne.symm hu))

/-- A record that stands nowhere enters the table under a new tag. -/
theorem Placed.addPack {y : Yard} (h : y.Placed) {tag : Nat} {p : Pack} (new : y.pack? tag = none)
    (nowhere : p.place = .nowhere) : (y.addPack tag p).Placed := by
  intro b i u
  show (y.stackOf b)[i]? = some u ↔ (y.addPack tag p).placeOf? u = _
  rw [placeOf?_addPack, h b i u]
  split
  · next hu =>
    subst hu
    rw [new, nowhere]
    simp
  · rfl

theorem placeOf?_joinStack (y : Yard) (b tag u : Nat) : (y.joinStack b tag).placeOf? u
    = if u = tag then (y.pack? tag).map fun _ => .bay b (y.height b + 1) else y.placeOf? u := by
  unfold placeOf?
  split
  · next hu =>
    subst hu
    rw [pack?_joinStack_same, Option.map_map]
    rfl
  · next hu => rw [pack?_joinStack_other _ _ (Ne.symm hu)]

/-- The entries of a stack after a join: the old ones, and the new tag on top. -/
theorem stackOf_joinStack_getElem? (y : Yard) (b tag c i u : Nat) :
    ((y.joinStack b tag).stackOf c)[i]? = some u
      ↔ (y.stackOf c)[i]? = some u ∨ c = b ∧ i = y.height b ∧ u = tag := by
  by_cases hc : c = b
  · subst hc
    rw [stackOf_joinStack_same, List.getElem?_append]
    unfold height
    split
    · next hi => simp; omega
    · next hi =>
      rw [List.getElem?_eq_none (l := y.stackOf c) (by omega), List.getElem?_singleton]
      split
      · next hz => simp; omega
      · next hz => simp; omega
  · rw [stackOf_joinStack_other _ _ (Ne.symm hc)]
    simp [hc]

/-- R3: the join of a pack that stands in no bay. -/
theorem Placed.joinStack {y : Yard} (h : y.Placed) {b tag : Nat} {k : Pack} (hk : y.pack? tag = some k)
    (away : k.standing = false) : (y.joinStack b tag).Placed := by
  have absent : ∀ c i, (y.stackOf c)[i]? ≠ some tag := fun c i hi => by
    have place := (h c i tag).mp hi
    rw [hk] at place
    have : k.place = .bay c (i + 1) := Option.some.inj place
    simp [Pack.standing, this] at away
  intro c i u
  show _ ↔ (y.joinStack b tag).placeOf? u = _
  rw [stackOf_joinStack_getElem?, placeOf?_joinStack]
  split
  · next hu =>
    subst hu
    rw [hk]
    simp only [absent c i, false_or, and_true, Option.map_some, Option.some.injEq, Place.bay.injEq]
    omega
  · next hu =>
    simp only [hu, and_false, or_false]
    exact h c i u

/-! ### The leave -/

theorem placeOf?_leaveStack (y : Yard) (b tag u : Nat) : (y.leaveStack b tag).placeOf? u
    = if u = tag then (y.pack? tag).map fun _ => .nowhere
      else if u ∈ y.above b tag then (y.placeOf? u).map Place.lower else y.placeOf? u := by
  unfold placeOf?
  split
  · next hu =>
    subst hu
    rw [pack?_leaveStack_same, Option.map_map]
    rfl
  · next hu =>
    rw [pack?_leaveStack_other _ _ hu, Option.map_map]
    by_cases above : u ∈ y.above b tag
    · rw [if_pos above, Option.map_map]
      refine congrArg (Option.map · _) (funext fun p => ?_)
      simp only [Function.comp, List.contains_iff_mem, above, if_true]
    · rw [if_neg above]
      refine congrArg (Option.map · _) (funext fun p => ?_)
      simp only [Function.comp, List.contains_iff_mem, above, if_false]

/-- R4: the leave of a pack from its stack: those above it move down one tier. -/
theorem Placed.leaveStack {y : Yard} (h : y.Placed) {b tag : Nat} (hm : tag ∈ y.stackOf b) :
    (y.leaveStack b tag).Placed := by
  obtain ⟨l, r, hl, split, erased⟩ := List.exists_erase_eq hm
  have at_ : ∀ c i u, (y.stackOf c)[i]? = some u ↔ y.placeOf? u = some (.bay c (i + 1)) := h
  have above : y.above b tag = r := by rw [Yard.above, split, tagsAfter_append hl]
  -- the tag stands at tier l.length + 1, and those above it higher
  have mine : y.placeOf? tag = some (.bay b (l.length + 1)) := (at_ b _ tag).mp (by rw [split]; simp)
  have higher : ∀ u, u ∈ r ↔ ∃ k, y.placeOf? u = some (.bay b (l.length + 1 + k + 1)) := by
    intro u
    rw [List.mem_iff_getElem?]
    refine exists_congr fun k => ?_
    rw [← at_ b, split, List.getElem?_append_right (by omega),
      show l.length + 1 + k - l.length = k + 1 by omega, List.getElem?_cons_succ]
  have known : (y.pack? tag).map (fun _ => Place.nowhere) = some .nowhere := by
    unfold placeOf? at mine
    cases hp : y.pack? tag with
    | none => rw [hp] at mine; cases mine
    | some p => rfl
  intro c i u
  show _ ↔ (y.leaveStack b tag).placeOf? u = _
  rw [placeOf?_leaveStack, above, known]
  by_cases hc : c = b
  · subst hc
    rw [stackOf_leaveStack_same, erased]
    have entry : (l ++ r)[i]? = some u ↔ if i < l.length then y.placeOf? u = some (.bay c (i + 1))
        else y.placeOf? u = some (.bay c (i + 1 + 1)) := by
      by_cases hi : i < l.length
      · rw [if_pos hi, ← at_ c, split, List.getElem?_append_left hi, List.getElem?_append_left hi]
      · rw [if_neg hi, ← at_ c, split, List.getElem?_append_right (by omega),
          List.getElem?_append_right (by omega), show i + 1 - l.length = (i - l.length) + 1 by omega,
          List.getElem?_cons_succ]
    rw [entry]
    by_cases hu : u = tag
    · subst hu
      rw [mine, if_pos rfl]
      split <;> simp <;> omega
    · by_cases hr : u ∈ r
      · obtain ⟨k, hk⟩ := (higher u).mp hr
        rw [hk]
        simp [hu, hr, Place.lower]
        omega
      · rw [if_neg hu, if_neg hr]
        split
        · rfl
        · next hi =>
          constructor
          · intro hp
            exact absurd ((higher u).mpr ⟨i - l.length, by rw [hp]; congr 2; omega⟩) hr
          · intro hp
            rcases Nat.eq_or_lt_of_le (Nat.le_of_not_lt hi) with hi | hi
            · refine absurd ?_ hu
              have mine' := (at_ c l.length tag).mpr mine
              rw [hi, (at_ c i u).mpr hp] at mine'
              exact Option.some.inj mine'
            · exact absurd ((higher u).mpr ⟨i - l.length - 1, by rw [hp]; congr 2; omega⟩) hr
  · rw [stackOf_leaveStack_other _ _ (Ne.symm hc), at_ c i u]
    by_cases hu : u = tag
    · subst hu
      rw [mine]
      simp [Ne.symm hc]
    · by_cases hr : u ∈ r
      · obtain ⟨k, hk⟩ := (higher u).mp hr
        rw [hk]
        simp [hu, hr, Place.lower, Ne.symm hc]
      · rw [if_neg hu, if_neg hr]

end Yard

/-! ### REGISTER PACK -/

/-- Stacks read the same from yards that are still alike. -/
theorem Yard.stackOf_of_still {y z : Yard} (h : y.still = z.still) (b : Nat) :
    y.stackOf b = z.stackOf b := by
  have : y.stack = z.stack := (congrArg Yard.stack h : y.still.stack = z.still.stack)
  rw [Yard.stackOf, this, Yard.stackOf]

/-- Settles O26. -/
theorem registerPackJoins : Obligations.RegisterPackJoins := by
  refine ⟨fun h a s taken => ⟨fun range => ?_, fun range => ⟨fun known => ?_, fun new full => ?_,
    fun new space low => ?_, fun new space room => ?_⟩⟩, fun y b tag placed =>
    ⟨fun k hk away => placed.joinStack hk away, fun hm => placed.leaveStack hm⟩⟩
  · refine State.request_replied taken h (r := .registerPack a) ?_
    show s.part.registerPack a = _
    simp [Part.registerPack, range, Part.refuse, Response.refuse]
  · refine State.request_replied taken h (r := .registerPack a) ?_
    show s.part.registerPack a = _
    simp [Part.registerPack, range, known, Part.refuse, Response.refuse]
  · refine State.request_replied taken h (r := .registerPack a) ?_
    show s.part.registerPack a = _
    simp [Part.registerPack, range, new, full, Config.maxPacks, Part.refuse, Response.refuse]
  · refine State.request_replied taken h (r := .registerPack a) ?_
    show s.part.registerPack a = _
    simp [Part.registerPack, range, new, Nat.not_le.mpr space, low, Config.maxPacks, Part.refuse,
      Response.refuse]
  · intro act
    have still : (act.finish s.part.env).still = act.yard.still := Act.still_finish _ _
    have record : (s.part.yard.addPack a.tag (newPack a s.part.clock)).pack? a.tag
        = some (newPack a s.part.clock) := Table.get?_put_same ..
    refine ⟨act.finish s.part.env, ?_, rfl, rfl, ?_, rfl, rfl, rfl, rfl, rfl, fun placed => ?_, still,
      ?_, fun b hb => ?_⟩
    · refine State.request_replied taken h (r := .registerPack a) ?_
      show s.part.registerPack a = _
      simpa [Part.registerPack, range, new, Nat.not_le.mpr space, Nat.ne_of_gt room, Config.maxPacks]
        using ⟨rfl, rfl⟩
    · exact (Yard.pack?_joinStack_same _ _ _).trans (congrArg (Option.map _) record)
    · exact (placed.addPack new rfl).joinStack record rfl
    · rw [Yard.stackOf_of_still still]
      exact Yard.stackOf_joinStack_same _ _ _
    · rw [Yard.stackOf_of_still still]
      exact Yard.stackOf_joinStack_other _ _ (Ne.symm hb)

end Sys2Proof.Machine
end

section
/-! SUPPORT. HALT (R140, R120), and what a send (R119) and the end of a move (R132) leave of each table. -/

namespace Sys2Proof.Machine

namespace Yard

/-! ### What a send leaves -/

/-- R119: what a send leaves of jobs, queues, packs, trucks and the move counter. -/
theorem send_rest (y : Yard) (pl : SendPlan) :
    let k := freeMoveNumber y.loader.moves 33 y.loader.counter
    (y.send pl).jobs = y.jobs.modify pl.job (fun j =>
        { j with state := .sent, bound := none, move := some k })
      ∧ (y.send pl).queues = y.queues.map (fun q => q.filter fun m => m != pl.job)
      ∧ (y.send pl).packs = y.packs.modify pl.tag (fun p =>
        { p with prior := some p.state, state := .moving })
      ∧ (y.send pl).trucks = y.trucks
      ∧ (y.send pl).loader.counter = nextMoveNumber k := by
  unfold send
  cases pl.dest <;> exact ⟨rfl, rfl, rfl, rfl, rfl⟩

theorem queue_send (y : Yard) (pl : SendPlan) (z : Nat) :
    (y.send pl).queue z = (y.queue z).filter fun m => m != pl.job := by
  obtain ⟨-, queues, -⟩ := y.send_rest pl
  rw [queue, queues, queue]
  rcases Nat.lt_or_ge z 4 with hz | hz
  · rw [Vector.getElem?_eq_getElem hz, Vector.getElem?_eq_getElem hz]
    simp
  · rw [Vector.getElem?_eq_none hz, Vector.getElem?_eq_none hz]
    rfl

theorem job?_send_same (y : Yard) (pl : SendPlan) : (y.send pl).job? pl.job
    = (y.job? pl.job).map fun j => { j with
        state := .sent, bound := none
        move := some (freeMoveNumber y.loader.moves 33 y.loader.counter) } := by
  obtain ⟨jobs, -⟩ := y.send_rest pl
  rw [job?, jobs]
  exact Table.get?_modify_same ..

theorem job?_send_other (y : Yard) (pl : SendPlan) {m : Nat} (h : m ≠ pl.job) :
    (y.send pl).job? m = y.job? m := by
  obtain ⟨jobs, -⟩ := y.send_rest pl
  rw [job?, jobs]
  exact Table.get?_modify_other _ _ (Ne.symm h)

theorem bayOf?_send (y : Yard) (pl : SendPlan) (tag : Nat) : (y.send pl).bayOf? tag = y.bayOf? tag := by
  obtain ⟨-, -, packs, -⟩ := y.send_rest pl
  rw [bayOf?, pack?, packs, Table.modify, Table.get?_mapVal, Option.bind_map, bayOf?, pack?]
  refine congrArg (Option.bind _) (funext fun p => ?_)
  simp only [Function.comp]
  split <;> rfl

/-- A job's zone is read from its pack's place or its truck's lane, which a send leaves (R115). -/
theorem zoneOfJob_send (e : Env) (y : Yard) (pl : SendPlan) (j : Job) :
    (y.send pl).zoneOfJob e j = y.zoneOfJob e j := by
  obtain ⟨-, -, -, trucks, -⟩ := y.send_rest pl
  have truck : ∀ n, (y.send pl).truck? n = y.truck? n := fun n => by
    rw [truck?, truckNo?, trucks, truck?, truckNo?]
  unfold zoneOfJob
  simp only [truck, bayOf?_send]

/-- R115, R119: a send takes its job off the one queue that lists it, and the others stay listed. -/
theorem Queued.send {e : Env} {y : Yard} (h : y.Queued e) {pl : SendPlan} : (y.send pl).Queued e := by
  intro m zone hz
  rw [queue_send]
  by_cases hm : m = pl.job
  · subst hm
    have gone : ((y.queue zone).filter fun m => m != pl.job).count pl.job = 0 :=
      List.count_eq_zero.mpr fun hmem => by simp at hmem
    have not : (y.send pl).belongsIn e pl.job zone = false := by
      unfold belongsIn
      rw [job?_send_same]
      cases y.job? pl.job with
      | none => rfl
      | some j => rfl
    rw [gone, not]
    rfl
  · rw [List.count_filter (by simpa using hm), h m zone hz]
    have same : (y.send pl).belongsIn e m zone = y.belongsIn e m zone := by
      unfold belongsIn
      rw [job?_send_other y pl hm]
      simp only [zoneOfJob_send]
    rw [same]

/-- R117 to R119: what a send plan of a job leads to, clause by clause. -/
theorem send_spec (e : Env) (y : Yard) {zone n : Nat} {j : Job} {pl : SendPlan} (hj : y.job? n = some j)
    (h : y.sendPlan? e zone n = some pl) :
    pl.job = n ∧ pl.tag = j.tag ∧ pl.kind = j.moveKind
      ∧ (y.terminal pl.terminal).canTake = true ∧ pl.terminal ≤ 7
      ∧ ∀ b, pl.dest = .bay b → y.takesAside e b = true := by
  obtain ⟨j', hj', job, tag, kind, terminal, dest⟩ := sendPlan?_spec h
  obtain rfl := Option.some.inj (hj.symm.trans hj')
  have take := terminalFor_canTake terminal
  refine ⟨job, tag, kind, take, ?_, fun b hb => moveDest_bay (by rw [dest, hb])⟩
  by_contra far
  rw [y.terminal_far (by omega)] at take
  exact absurd take (by decide)

end Yard

/-! ### HALT -/

theorem Yard.serveAll_of_withheld {e : Env} (y : Yard) (h : e.dispatch = false) : y.serveAll e = y := by
  unfold Yard.serveAll
  rw [h]
  rfl

theorem Part.env_withheld {p : Part} (h : p.halt = true ∨ p.flight ≠ .nothing) :
    p.env.dispatch = false := by
  show (!p.halt && decide (p.flight = .nothing)) = false
  rcases h with h | h
  · rw [h]; rfl
  · rw [decide_eq_false h, Bool.and_false]

/-- A row that waits for an occasion does its work where the occasion holds, and nothing elsewhere. -/
theorem State.ifThen_eq (s : State) (running : s.part.running = true) (test : Part → Bool)
    (f : Part → Part) : s.ifThen test f = .next (s.withPart (if test s.part then f s.part else s.part)) := by
  show Host.Outcome.next (s.withPart (s.part.whileRunning _)) = _
  rw [Part.whileRunning, running]
  rfl

/-- Settles O45. -/
theorem haltRows : Obligations.HaltRows := by
  refine ⟨fun s running => ⟨fun low => ⟨?_, ?_⟩, fun high => ⟨?_, _, ?_, rfl, ?_⟩⟩,
    fun p y h => y.serveAll_of_withheld (Part.env_withheld h),
    fun e y h => y.serveAll_of_withheld h, fun e y zone n j pl hj hpl => ?_, fun y n m hm ht => ?_⟩
  · refine (s.ifThen_eq running (fun p => !p.halt) Part.haltOn).trans ?_
    simp only [low]
    rfl
  · refine (s.ifThen_eq running (fun p => p.halt) Part.haltOff).trans ?_
    simp only [low]
    rfl
  · refine (s.ifThen_eq running (fun p => !p.halt) Part.haltOn).trans ?_
    simp only [high]
    rfl
  · refine (s.ifThen_eq running (fun p => p.halt) Part.haltOff).trans ?_
    simp only [high]
    rfl
  · exact Yard.still_serveAll _ _
  · intro k u was
    obtain ⟨rfl, tag, kind, take, htm, aside⟩ := y.send_spec e hj hpl
    obtain ⟨terminals, moves, claims, -⟩ := y.send_reads pl htm
    obtain ⟨-, -, packs, -, counter⟩ := y.send_rest pl
    have active : was.state = .active ∧ was.moves.length < was.credit := by
      simpa [Terminal.canTake, Terminal.hasCredit] using take
    refine ⟨active.1, active.2, fun b hb => ?_, fun b hb => ?_, ?_, y.queue_send pl, ?_, ?_, fun p hp => ?_,
      counter, fun _ hs => hs.freeMoveNumber, fun hq => hq.send⟩
    · obtain ⟨clear, room⟩ := Yard.takesAside_iff.mp (aside b hb)
      exact ⟨clear, room, (claims b).trans (if_pos hb)⟩
    · exact (claims b).trans (if_neg hb)
    · exact (y.job?_send_same pl).trans (by rw [hj]; rfl)
    · show (y.send pl).loader.moves.get? _ = _
      rw [moves, kind, tag]
      exact Table.get?_put_same ..
    · exact (terminals pl.terminal).trans (if_pos rfl)
    · show (y.send pl).packs.get? _ = _
      rw [packs, ← tag]
      have : y.packs.get? pl.tag = some p := tag ▸ hp
      rw [Table.get?_modify_same, this]
      rfl
  · obtain ⟨terminals, moves, claims, -⟩ := y.dropMove_reads n m hm ht
    refine ⟨?_, claims, (terminals m.terminal).trans (if_pos rfl)⟩
    rw [Yard.move?, moves]
    exact Table.get?_drop_same ..

end Sys2Proof.Machine
end

section
/-! SUPPORT. What the writes of the fix-ups (R123) leave of flags, jobs, packs and trucks. -/

namespace Sys2Proof.Machine

/-! ### Flags stay set -/

theorem holdsFlag_raiseIn_same (f : Flags24) (e : Event) : holdsFlag (raiseIn f e) e = true := by
  have own : e.flag.getLsbD e.bit = true := by cases e <;> rfl
  rw [holdsFlag, raiseIn, BitVec.getLsbD_or, own, Bool.or_true]

theorem holdsFlag_raiseIn {f : Flags24} (e : Event) {g : Event} (h : holdsFlag f g = true) :
    holdsFlag (raiseIn f e) g = true := by
  unfold holdsFlag at h ⊢
  rw [raiseIn, BitVec.getLsbD_or, h, Bool.true_or]

/-- Every flag set in one yard is set in the other (R162). -/
def Yard.FlagsStay (y z : Yard) : Prop :=
  ∀ e, holdsFlag y.events e = true → holdsFlag z.events e = true

namespace Yard

theorem FlagsStay.refl (y : Yard) : y.FlagsStay y := fun _ => id

theorem FlagsStay.trans {y z w : Yard} (h : y.FlagsStay z) (k : z.FlagsStay w) : y.FlagsStay w :=
  fun e he => k e (h e he)

theorem FlagsStay.of_eq {y z : Yard} (h : z.events = y.events) : y.FlagsStay z := fun _ he => h ▸ he

theorem flagsStay_raise (y : Yard) (e : Event) : y.FlagsStay (y.raise e) := fun _ => holdsFlag_raiseIn e

theorem Settles.flagsStay {free : Bool} {y z : Yard} (s : y.Settles free z) : y.FlagsStay z := by
  induction s with
  | trans _ _ ih ik => exact ih.trans ik
  | flag y e => exact y.flagsStay_raise e
  | truck y n f _ _ => exact .of_eq (y.modifyTruck_events n f)
  | refl | pack | job | newJob | dropJob | queues | lane => exact .refl _

theorem releaseLane_events (y : Yard) (n : Nat) : (y.releaseLane n).events = y.events := by
  unfold releaseLane
  split
  · exact y.modifyTruck_events n _
  · rfl

theorem flagsStay_testUnloaded (y : Yard) (n : Nat) : y.FlagsStay (y.testUnloaded n) := by
  unfold testUnloaded
  split
  · exact (FlagsStay.of_eq ((dropTruck_events _ n).trans (y.releaseLane_events n))).trans
      (flagsStay_raise _ _)
  · exact .refl y

end Yard

theorem Act.flagsStay_fold {β : Type} {f : Act → β → Act}
    (hf : ∀ (a : Act) (b : β), a.yard.FlagsStay (f a b).yard) (l : List β) (a : Act) :
    a.yard.FlagsStay (l.foldl f a).yard := by
  induction l generalizing a with
  | nil => exact .refl _
  | cons b rest ih => exact (hf a b).trans (ih _)

/-! ### The parts of an unsend and of a loss -/

namespace Act

/-- R66: what a LOAD job of an UNLOADING truck leaves, before the end of unloading is tested. -/
def cancelled (a : Act) (n number tag : Nat) : Act :=
  (a.endJob n).on fun y => (y.unassign tag).vacatePlanned number tag

theorem dropCancelled_eq (a : Act) (n number tag : Nat) :
    a.dropCancelled n number tag = (a.cancelled n number tag).on fun y => y.testUnloaded number := rfl

theorem settles_cancelled {free : Bool} (a : Act) (n number tag : Nat) :
    a.yard.Settles free (a.cancelled n number tag).yard :=
  (a.settles_endJob n).trans ((Yard.settles_unassign _ tag).trans
    (Yard.settles_vacatePlanned _ number tag))

theorem flagsStay_dropCancelled (a : Act) (n number tag : Nat) :
    a.yard.FlagsStay (a.dropCancelled n number tag).yard :=
  (a.settles_cancelled (free := false) n number tag).flagsStay.trans
    (Yard.flagsStay_testUnloaded _ number)

theorem flagsStay_unsend (a : Act) (n : Nat) (j : Job) : a.yard.FlagsStay (a.unsend n j).yard := by
  unfold Act.unsend
  split
  · exact Yard.FlagsStay.trans (.of_eq rfl) (Act.flagsStay_dropCancelled (a.setPackState j.tag .free) _ _ _)
  · exact .of_eq rfl

/-- R31: the loss of a pack sets PACK_DOUBT and clears no flag. -/
theorem flags_toDoubt (a : Act) (tag : Nat) :
    a.yard.FlagsStay (a.toDoubt tag).yard ∧ holdsFlag (a.toDoubt tag).yard.events .packDoubt = true := by
  have left : (a.leave tag).yard.events = a.yard.events := by
    unfold Act.leave
    split <;> rfl
  refine ⟨(Yard.FlagsStay.of_eq (z := (a.leave tag).yard) left).trans ?_, holdsFlag_raiseIn_same _ _⟩
  exact fun e h => holdsFlag_raiseIn _ h

theorem flags_lose (a : Act) (n : Nat) (j : Job) :
    a.yard.FlagsStay (a.lose n j).yard ∧ holdsFlag (a.lose n j).yard.events .packDoubt = true := by
  have doubt := a.flags_toDoubt j.tag
  unfold Act.lose
  split
  · have rest := (a.toDoubt j.tag).flagsStay_dropCancelled n ‹_› j.tag
    exact ⟨doubt.1.trans rest, rest _ doubt.2⟩
  · exact doubt

theorem flagsStay_fixSent (a : Act) (n : Nat) : a.yard.FlagsStay (a.fixSent n).yard := by
  unfold Act.fixSent
  split
  · split
    · exact a.flagsStay_unsend n _
    · exact .refl _
  · exact .refl _

theorem flagsStay_fixLifted (a : Act) (n : Nat) : a.yard.FlagsStay (a.fixLifted n).yard := by
  unfold Act.fixLifted
  split
  · split
    · exact (a.flags_lose n _).1
    · exact .refl _
  · exact .refl _

theorem flagsStay_testUnloading (a : Act) : a.yard.FlagsStay a.testUnloading.yard :=
  Act.flagsStay_fold (f := fun a n => a.on fun y => y.testUnloaded n)
    (fun a n => a.yard.flagsStay_testUnloaded n) _ a

/-- R123: the fix-ups clear no flag. -/
theorem flagsStay_fixUps (a : Act) : a.yard.FlagsStay a.fixUps.yard := by
  rw [fixUps_eq]
  exact ((Act.flagsStay_fold Act.flagsStay_fixSent _ a).trans
    (Act.flagsStay_fold Act.flagsStay_fixLifted _ _)).trans (Act.flagsStay_testUnloading _)

end Act

/-! ### Jobs -/

namespace Yard

theorem releaseLane_jobs (y : Yard) (n : Nat) : (y.releaseLane n).jobs = y.jobs := by
  unfold releaseLane
  split
  · exact y.modifyTruck_jobs n _
  · rfl

theorem releaseLane_packs (y : Yard) (n : Nat) : (y.releaseLane n).packs = y.packs := by
  unfold releaseLane
  split
  · exact y.modifyTruck_packs n _
  · rfl

@[simp] theorem testUnloaded_jobs (y : Yard) (n : Nat) : (y.testUnloaded n).jobs = y.jobs := by
  unfold testUnloaded
  split
  · exact (dropTruck_jobs _ n).trans (y.releaseLane_jobs n)
  · rfl

@[simp] theorem testUnloaded_packs (y : Yard) (n : Nat) : (y.testUnloaded n).packs = y.packs := by
  unfold testUnloaded
  split
  · exact (dropTruck_packs _ n).trans (y.releaseLane_packs n)
  · rfl

@[simp] theorem vacatePlanned_jobs (y : Yard) (n tag : Nat) : (y.vacatePlanned n tag).jobs = y.jobs :=
  y.modifyTruck_jobs n _

@[simp] theorem vacatePlanned_packs (y : Yard) (n tag : Nat) : (y.vacatePlanned n tag).packs = y.packs :=
  y.modifyTruck_packs n _

@[simp] theorem unassign_jobs (y : Yard) (tag : Nat) : (y.unassign tag).jobs = y.jobs := by
  unfold unassign
  split
  · rfl
  · exact modifyTruck_jobs _ _ _

/-- R23 step 1: an unassigned pack has no assignment; the other packs stay. -/
theorem pack?_unassign_same (y : Yard) (tag : Nat) :
    (y.unassign tag).pack? tag = (y.pack? tag).map fun p => { p with assignment := none } := by
  unfold unassign
  split
  · next h =>
    cases hp : y.pack? tag with
    | none => rfl
    | some p =>
      rw [hp] at h
      have : p.assignment = none := h
      rw [Option.map_some, ← this]
  · rw [pack?, modifyTruck_packs]
    exact y.pack?_modifyPack_same tag _

theorem pack?_unassign_other (y : Yard) {tag u : Nat} (h : u ≠ tag) :
    (y.unassign tag).pack? u = y.pack? u := by
  unfold unassign
  split
  · rfl
  · rw [pack?, modifyTruck_packs]
    exact y.pack?_modifyPack_other _ (Ne.symm h)

end Yard

namespace Act

theorem job?_endJob (a : Act) (n m : Nat) :
    (a.endJob n).yard.job? m = if m = n then none else a.yard.job? m := by
  cases h : a.yard.job? n with
  | none =>
    rw [Act.endJob_none h]
    split
    · next e => rw [e, h]
    · rfl
  | some j =>
    rw [Act.endJob_yard h]
    show (a.yard.jobs.drop n).get? m = _
    split
    · next e => rw [e]; exact Table.get?_drop_same ..
    · next e => exact Table.get?_drop_other _ (Ne.symm e)

theorem job?_dropCancelled (a : Act) (n number tag m : Nat) :
    (a.dropCancelled n number tag).yard.job? m = if m = n then none else a.yard.job? m := by
  rw [← a.job?_endJob]
  show ((((a.endJob n).yard.unassign tag).vacatePlanned number tag).testUnloaded number).jobs.get? m = _
  rw [Yard.testUnloaded_jobs, Yard.vacatePlanned_jobs, Yard.unassign_jobs]
  rfl

/-- What a fix-up makes of its own job: nothing where a LOAD job of an UNLOADING truck ends, else the job as it
waits or is suspended, without a move. -/
theorem job?_unsend (a : Act) (n : Nat) (j : Job) (m : Nat) : (a.unsend n j).yard.job? m
    = if m = n then
        if (a.yard.cancelledLoad? j).isSome then none
        else (a.yard.job? n).map fun j => { j with state := .waiting, bound := none, move := none }
      else a.yard.job? m := by
  unfold Act.unsend
  split
  · next number hc =>
    rw [hc]
    exact (Act.job?_dropCancelled (a.setPackState j.tag .free) n number j.tag m)
  · next hc =>
    rw [hc]
    show (a.yard.jobs.modify n _).get? m = _
    split
    · next e => rw [e]; exact Table.get?_modify_same ..
    · next e => exact Table.get?_modify_other _ _ (Ne.symm e)

theorem toDoubt_jobs (a : Act) (tag : Nat) : (a.toDoubt tag).yard.jobs = a.yard.jobs := by
  unfold Act.toDoubt Act.leave
  split <;> rfl

theorem job?_lose (a : Act) (n : Nat) (j : Job) (m : Nat) : (a.lose n j).yard.job? m
    = if m = n then
        if (a.yard.cancelledLoad? j).isSome then none
        else (a.yard.job? n).map fun j => { j with state := .suspended, bound := none, move := none }
      else a.yard.job? m := by
  have jobs : ∀ k, (a.toDoubt j.tag).yard.job? k = a.yard.job? k := fun k => by
    rw [Yard.job?, toDoubt_jobs, Yard.job?]
  unfold Act.lose
  split
  · next number hc =>
    rw [hc, Act.job?_dropCancelled, jobs]
    rfl
  · next hc =>
    rw [hc, ← jobs n, ← jobs m]
    show ((a.toDoubt j.tag).yard.jobs.modify n _).get? m = _
    split
    · next e => rw [e]; exact Table.get?_modify_same ..
    · next e => exact Table.get?_modify_other _ _ (Ne.symm e)

theorem job?_fixSent_other (a : Act) {n m : Nat} (h : n ≠ m) : (a.fixSent m).yard.job? n = a.yard.job? n := by
  unfold Act.fixSent
  split
  · split
    · rw [job?_unsend, if_neg h]
    · rfl
  · rfl

theorem job?_fixLifted_other (a : Act) {n m : Nat} (h : n ≠ m) :
    (a.fixLifted m).yard.job? n = a.yard.job? n := by
  unfold Act.fixLifted
  split
  · split
    · rw [job?_lose, if_neg h]
    · rfl
  · rfl

/-- R123 step 1: its own job is SENT or ACCEPTED no more. -/
theorem job?_fixSent_same {a : Act} {n : Nat} {i : Job} (h : (a.fixSent n).yard.job? n = some i) :
    i.state ≠ .sent ∧ i.state ≠ .accepted := by
  unfold Act.fixSent at h
  split at h
  · next j hj =>
    split at h
    · rw [job?_unsend, if_pos rfl] at h
      split at h
      · cases h
      · obtain ⟨_, _, rfl⟩ := Option.map_eq_some_iff.mp h
        exact ⟨by simp, by simp⟩
    · next hs =>
      rw [hj] at h
      obtain rfl := Option.some.inj h
      exact not_or.mp hs
  · next hj =>
    rw [hj] at h
    cases h

/-- R123 step 2: its own job is LIFTED no more, and if it is not SUSPENDED it is as it was. -/
theorem job?_fixLifted_same {a : Act} {n : Nat} {i : Job} (h : (a.fixLifted n).yard.job? n = some i) :
    i.state ≠ .lifted ∧ (i.state = .suspended ∨ a.yard.job? n = some i) := by
  unfold Act.fixLifted at h
  split at h
  · next j hj =>
    split at h
    · rw [job?_lose, if_pos rfl] at h
      split at h
      · cases h
      · obtain ⟨_, _, rfl⟩ := Option.map_eq_some_iff.mp h
        exact ⟨by simp, .inl rfl⟩
    · next hs =>
      refine ⟨?_, .inr h⟩
      rw [hj] at h
      obtain rfl := Option.some.inj h
      exact hs
  · next hj =>
    rw [hj] at h
    cases h

/-- A fold over job numbers that touches one job at a time leaves the jobs it does not name. -/
theorem fold_job?_other {g : Act → Nat → Act} {n : Nat}
    (other : ∀ (a : Act) (m : Nat), n ≠ m → (g a m).yard.job? n = a.yard.job? n) (l : List Nat)
    (h : n ∉ l) (a : Act) : (l.foldl g a).yard.job? n = a.yard.job? n := by
  induction l generalizing a with
  | nil => rfl
  | cons m rest ih =>
    exact (ih (fun hm => h (List.mem_cons_of_mem _ hm)) _).trans
      (other a m fun e => h (e ▸ List.mem_cons_self))

/-- After such a fold over all job numbers, every job is as its own turn left it. -/
theorem fold_job?_good {g : Act → Nat → Act} {good : Job → Prop}
    (other : ∀ (a : Act) (n m : Nat), n ≠ m → (g a m).yard.job? n = a.yard.job? n)
    (same : ∀ (a : Act) (n : Nat) (i : Job), (g a n).yard.job? n = some i → good i) (a : Act) {n : Nat}
    {i : Job} (h : (a.yard.jobs.keys.foldl g a).yard.job? n = some i) : good i := by
  have listed : ∀ (l : List Nat) (a : Act), n ∈ l → (l.foldl g a).yard.job? n = some i → good i := by
    intro l
    induction l with
    | nil => exact fun _ hn => absurd hn List.not_mem_nil
    | cons m rest ih =>
      intro a hn h
      by_cases hr : n ∈ rest
      · exact ih _ hr h
      · obtain rfl := (List.mem_cons.mp hn).resolve_right hr
        rw [List.foldl_cons, fold_job?_other (other · n) rest hr] at h
        exact same a n i h
  by_cases hn : n ∈ a.yard.jobs.keys
  · exact listed _ a hn h
  · rw [fold_job?_other (other · n) _ hn] at h
    exact absurd (List.mem_map_of_mem (f := Prod.fst) (Table.mem_of_get? h)) hn

end Act

/-- No job has a move under way: none is SENT, ACCEPTED or LIFTED, and none names a move (R123). -/
def Yard.Idle (y : Yard) : Prop := ∀ (n : Nat) (j : Job), y.job? n = some j →
  j.move = none ∧ j.state ≠ .sent ∧ j.state ≠ .accepted ∧ j.state ≠ .lifted

theorem Act.testUnloading_jobs (a : Act) : a.testUnloading.yard.jobs = a.yard.jobs := by
  have fold : ∀ (l : List Nat) (a : Act),
      (l.foldl (fun a n => a.on fun y => y.testUnloaded n) a).yard.jobs = a.yard.jobs := by
    intro l
    induction l with
    | nil => exact fun _ => rfl
    | cons n rest ih => exact fun a => (ih _).trans (a.yard.testUnloaded_jobs n)
  exact fold _ a

theorem Act.testUnloading_packs (a : Act) : a.testUnloading.yard.packs = a.yard.packs := by
  have fold : ∀ (l : List Nat) (a : Act),
      (l.foldl (fun a n => a.on fun y => y.testUnloaded n) a).yard.packs = a.yard.packs := by
    intro l
    induction l with
    | nil => exact fun _ => rfl
    | cons n rest ih => exact fun a => (ih _).trans (a.yard.testUnloaded_packs n)
  exact fold _ a

theorem Yard.job?_pauseAll (y : Yard) (n : Nat) :
    y.pauseAll.job? n = (y.job? n).map Job.afterRestart := Table.get?_mapVal ..

/-- R123: after the fix-ups no job has a move under way. -/
theorem Act.idle_fixUps (a : Act) : a.fixUps.yard.Idle := by
  intro n j h
  rw [fixUps_eq, Act.on_yard, Yard.job?_pauseAll] at h
  obtain ⟨i, hi, rfl⟩ := Option.map_eq_some_iff.mp h
  rw [Act.unsent, Yard.job?, testUnloading_jobs] at hi
  generalize hb : a.yard.jobs.keys.foldl Act.fixSent a = b at hi
  have unsent : ∀ n i, b.yard.job? n = some i → i.state ≠ .sent ∧ i.state ≠ .accepted := by
    subst hb
    exact fun n i => fold_job?_good (fun a _ _ => a.job?_fixSent_other)
      (fun _ _ _ => job?_fixSent_same) a
  have kept : ∀ (l : List Nat) (c : Act),
      (∀ n i, c.yard.job? n = some i → i.state ≠ .sent ∧ i.state ≠ .accepted) →
      ∀ n i, (l.foldl Act.fixLifted c).yard.job? n = some i → i.state ≠ .sent ∧ i.state ≠ .accepted := by
    intro l
    induction l with
    | nil => exact fun _ hc => hc
    | cons m rest ih =>
      refine fun c hc => ih _ fun n i hi => ?_
      by_cases hm : n = m
      · subst hm
        rcases (job?_fixLifted_same hi).2 with hs | hi
        · simp [hs]
        · exact hc n i hi
      · rw [job?_fixLifted_other c hm] at hi
        exact hc n i hi
  have down := fold_job?_good (good := fun i => i.state ≠ .lifted) (fun a _ _ => a.job?_fixLifted_other)
    (fun _ _ _ h => (job?_fixLifted_same h).1) b hi
  obtain ⟨sent, accepted⟩ := kept _ b unsent n i hi
  refine ⟨rfl, ?_⟩
  unfold Job.afterRestart
  simp only
  split
  · simp
  · exact ⟨sent, accepted, down⟩

/-- What follows the fix-ups gives no job a move. -/
theorem Yard.Settles.idle {free : Bool} {y z : Yard} (s : y.Settles free z) (h : y.Idle) : z.Idle := by
  induction s with
  | trans _ _ ih ik => exact ik (ih h)
  | truck y n f _ _ => intro m j hj; exact h m j (by rw [job?, y.modifyTruck_jobs] at hj; exact hj)
  | job y n f hf =>
    intro m j hj
    have read : (y.job? m).map (fun j => if m = n then f j else j) = some j := by
      rw [← hj]; exact (Table.get?_mapVal y.jobs (fun k j => if k = n then f j else j) m).symm
    obtain ⟨i, hi, rfl⟩ := Option.map_eq_some_iff.mp read
    obtain ⟨move, states⟩ := h m i hi
    split
    · obtain ⟨hm, hs⟩ := hf i
      refine ⟨hm.elim (fun e => e.trans move) id, ?_⟩
      rcases hs with hs | hs | hs
      · rw [hs]; exact states
      · revert hs
        cases (f i).state <;> simp [JobState.judged]
      · simp [hs]
    · exact ⟨move, states⟩
  | newJob y n work tag _ =>
    intro m j hj
    by_cases hm : m = n
    · subst hm
      obtain rfl := Option.some.inj ((Table.get?_put_same ..).symm.trans hj)
      exact ⟨rfl, by simp [Job.fresh]⟩
    · exact h m j ((Table.get?_put_other _ _ (Ne.symm hm)).symm.trans hj)
  | dropJob y n =>
    intro m j hj
    by_cases hm : m = n
    · subst hm
      cases (Table.get?_drop_same ..).symm.trans hj
    · exact h m j ((Table.get?_drop_other _ (Ne.symm hm)).symm.trans hj)
  | refl | pack | queues | flag | lane => exact h

end Sys2Proof.Machine
end

section
/-! SUPPORT. The fix-ups of a restart (R123), job by job: what one makes of its own job and pack, and what it
leaves of the others. -/

namespace Sys2Proof.Machine

namespace Yard

/-! ### The states of trucks -/

theorem truckState?_entries (y : Yard) (m : Nat) : y.truckState? m
    = (y.trucks.entries.find? fun en => decide (en.2.number = m)).map fun en => en.2.state := by
  rw [truckState?, truck?, truckNo?, Table.first?, Option.map_map]
  rfl

/-- A truck change that keeps number and state. -/
theorem truckState?_modifyTruck (y : Yard) (n : Nat) {f : Truck → Truck}
    (hf : ∀ t, (f t).number = t.number ∧ (f t).state = t.state) (m : Nat) :
    (y.modifyTruck n f).truckState? m = y.truckState? m := by
  unfold modifyTruck
  split
  · next i _ _ =>
    rw [truckState?_entries, truckState?_entries]
    simp only [Table.modify, Table.mapVal, List.find?_map, Option.map_map]
    have number : ∀ en : Nat × Truck, (if en.1 = i then f en.2 else en.2).number = en.2.number :=
      fun en => by split <;> simp [hf]
    have state : ∀ en : Nat × Truck, (if en.1 = i then f en.2 else en.2).state = en.2.state :=
      fun en => by split <;> simp [hf]
    simp only [Function.comp_def, number, state]
  · rfl

theorem truckState?_dropTruck_other (y : Yard) (hw : y.trucks.wf = true) {n m : Nat} (h : m ≠ n) :
    (y.dropTruck n).truckState? m = y.truckState? m := by
  unfold dropTruck
  split
  · next i t hi =>
    rw [truckState?_entries, truckState?_entries]
    have member := List.mem_of_find?_eq_some hi
    have number : t.number = n := by
      simpa using List.find?_some (p := fun en : Nat × Truck => decide (en.2.number = n)) hi
    refine congrArg (Option.map _) ((List.find?_filter ..).trans (List.find?_congr fun en hen => ?_))
    by_cases he : en.1 = i
    · obtain rfl := Table.entry_unique hw hen member he
      simp [number, Ne.symm h]
    · simp [he]
  · rfl

theorem truckState?_releaseLane (y : Yard) (n m : Nat) :
    (y.releaseLane n).truckState? m = y.truckState? m := by
  unfold releaseLane
  split
  · exact y.truckState?_modifyTruck n (f := fun t => { t with lane := none }) (fun _ => ⟨rfl, rfl⟩) m
  · rfl

theorem releaseLane_wf {y : Yard} (h : y.trucks.wf = true) (n : Nat) :
    (y.releaseLane n).trucks.wf = true := by
  unfold releaseLane modifyTruck
  split
  · split
    · exact Table.wf_modify _ _ _ h
    · exact h
  · exact h

/-- R67: the end of unloading takes from the table the truck that it holds of, and no other. -/
theorem truckState?_testUnloaded (y : Yard) (hw : y.trucks.wf = true) (n m : Nat)
    (h : y.unloadingEnded m = false) : (y.testUnloaded n).truckState? m = y.truckState? m := by
  unfold testUnloaded
  split
  · next ended =>
    have hne : m ≠ n := by
      rintro rfl
      rw [h] at ended
      cases ended
    exact (truckState?_dropTruck_other _ (releaseLane_wf hw n) hne).trans (y.truckState?_releaseLane n m)
  · rfl

theorem unloadingEnded_of_state {y : Yard} {m : Nat} (h : y.truckState? m ≠ some .unloading) :
    y.unloadingEnded m = false := by
  simp [unloadingEnded, h]

/-- R67: unloading does not end while a job of the truck is in the list. -/
theorem unloadingEnded_of_job {y : Yard} {n m : Nat} {j : Job} (hj : y.job? n = some j)
    (hm : j.work.truck? = some m) : y.unloadingEnded m = false := by
  have : y.jobs.anyVal (fun _ j => decide (j.work.truck? = some m)) = true :=
    List.any_eq_true.mpr ⟨(n, j), Table.mem_of_get? hj, by simpa using hm⟩
  simp [unloadingEnded, this]

/-! ### One pack -/

/-- A pack keeps all of its record but its place, and a pack that stands nowhere keeps that too. -/
def PackStays (y z : Yard) (u : Nat) : Prop := ∀ k, y.pack? u = some k →
  ∃ pl, z.pack? u = some { k with place := pl } ∧ (k.place = .nowhere → pl = .nowhere)

theorem PackStays.of_eq {y z : Yard} {u : Nat} (h : z.pack? u = y.pack? u) : y.PackStays z u :=
  fun k hk => ⟨k.place, h.trans hk, id⟩

theorem PackStays.trans {y z w : Yard} {u : Nat} (h : y.PackStays z u) (k : z.PackStays w u) :
    y.PackStays w u := fun p hp => by
  obtain ⟨pl, hz, hn⟩ := h p hp
  obtain ⟨pl', hw, hn'⟩ := k _ hz
  exact ⟨pl', hw, fun e => hn' (hn e)⟩

end Yard

namespace Act

theorem pack?_endJob {a : Act} {n : Nat} {j : Job} (hj : a.yard.job? n = some j) (u : Nat) :
    (a.endJob n).yard.pack? u = if u = j.tag then (a.yard.pack? u).map fun p => { p with job := none }
      else a.yard.pack? u := by
  rw [endJob_yard hj]
  split
  · next e => rw [e]; exact Yard.pack?_modifyPack_same _ _ _
  · next e => exact Yard.pack?_modifyPack_other _ _ (Ne.symm e)

theorem pack?_dropCancelled {a : Act} {n : Nat} {j : Job} (hj : a.yard.job? n = some j) (number u : Nat) :
    (a.dropCancelled n number j.tag).yard.pack? u
      = if u = j.tag then (a.yard.pack? u).map fun p => { p with job := none, assignment := none }
        else a.yard.pack? u := by
  have unassigned : (a.dropCancelled n number j.tag).yard.pack? u
      = ((a.endJob n).yard.unassign j.tag).pack? u := by
    show ((((a.endJob n).yard.unassign j.tag).vacatePlanned number j.tag).testUnloaded
      number).packs.get? u = _
    rw [Yard.testUnloaded_packs, Yard.vacatePlanned_packs]
    rfl
  rw [unassigned]
  split
  · next e =>
    subst e
    rw [Yard.pack?_unassign_same, pack?_endJob hj, if_pos rfl, Option.map_map]
    rfl
  · next e => rw [Yard.pack?_unassign_other _ e, pack?_endJob hj, if_neg e]

theorem pack?_toDoubt_same {a : Act} {tag : Nat} {k : Pack} (h : a.yard.pack? tag = some k) :
    (a.toDoubt tag).yard.pack? tag
      = some { k with state := .doubt, prior := none, place := .nowhere } := by
  refine (Yard.pack?_modifyPack_same _ _ _).trans ?_
  unfold Act.leave
  split
  · rw [Act.touchBay_yard, Act.on_yard, Yard.pack?_leaveStack_same, h]
    rfl
  · rw [h]
    rfl

/-- R31: the other packs may go down a tier. -/
theorem toDoubt_packStays (a : Act) {tag u : Nat} (h : u ≠ tag) :
    a.yard.PackStays (a.toDoubt tag).yard u := by
  intro k hk
  have other : (a.toDoubt tag).yard.pack? u = (a.leave tag).yard.pack? u :=
    Yard.pack?_modifyPack_other _ _ (Ne.symm h)
  rw [other]
  unfold Act.leave
  split
  · rw [Act.touchBay_yard, Act.on_yard, Yard.pack?_leaveStack_other _ _ h, hk, Option.map_some]
    split
    · exact ⟨k.place.lower, rfl, fun e => by rw [e]; rfl⟩
    · exact ⟨k.place, rfl, id⟩
  · exact ⟨k.place, hk, id⟩

/-! ### The fix-up of one job, seen from its own pack -/

/-- A pack of another job keeps its record but for its place (R22, R4). -/
theorem unsend_packStays {a : Act} {n : Nat} {j : Job} (hj : a.yard.job? n = some j) {u : Nat}
    (h : u ≠ j.tag) : a.yard.PackStays (a.unsend n j).yard u := by
  refine .of_eq ?_
  have other : ∀ f, (a.yard.modifyPack j.tag f).pack? u = a.yard.pack? u := fun f =>
    a.yard.pack?_modifyPack_other f (Ne.symm h)
  unfold Act.unsend
  split
  · have kept : (a.setPackState j.tag .free).yard.job? n = some j := hj
    exact (pack?_dropCancelled kept _ u).trans ((if_neg h).trans (other _))
  · exact other _

theorem lose_packStays {a : Act} {n : Nat} {j : Job} (hj : a.yard.job? n = some j) {u : Nat}
    (h : u ≠ j.tag) : a.yard.PackStays (a.lose n j).yard u := by
  have doubt := a.toDoubt_packStays h
  unfold Act.lose
  split
  · have kept : (a.toDoubt j.tag).yard.job? n = some j := by
      rw [Yard.job?, toDoubt_jobs]; exact hj
    refine doubt.trans (.of_eq ?_)
    rw [pack?_dropCancelled kept, if_neg h]
  · exact doubt

/-- A truck that is not UNLOADING, or that another job is of, keeps its state where a LOAD job ends (R66). -/
theorem truckState?_dropCancelled (a : Act) (ht : a.yard.Tables) (n number tag m : Nat)
    (h : a.yard.truckState? m ≠ some .unloading
      ∨ ∃ u i, u ≠ n ∧ a.yard.job? u = some i ∧ i.work.truck? = some m) :
    (a.dropCancelled n number tag).yard.truckState? m = a.yard.truckState? m := by
  have settles := a.settles_cancelled (free := false) n number tag
  have job : ∀ u, u ≠ n → (a.cancelled n number tag).yard.job? u = a.yard.job? u := fun u hu => by
    have : (a.cancelled n number tag).yard.job? u = (a.endJob n).yard.job? u := by
      show (((a.endJob n).yard.unassign tag).vacatePlanned number tag).jobs.get? u = _
      rw [Yard.vacatePlanned_jobs, Yard.unassign_jobs]
      rfl
    rw [this, job?_endJob, if_neg hu]
  rw [dropCancelled_eq, Act.on_yard]
  refine (Yard.truckState?_testUnloaded _ (settles.tables ht).trucks number m ?_).trans
    (settles.truckState? m)
  rcases h with h | ⟨u, i, hu, hi, hm⟩
  · exact Yard.unloadingEnded_of_state (by rw [settles.truckState?]; exact h)
  · exact Yard.unloadingEnded_of_job ((job u hu).trans hi) hm

theorem truckState?_unsend (a : Act) (ht : a.yard.Tables) (n : Nat) (j : Job) (m : Nat)
    (h : a.yard.truckState? m ≠ some .unloading
      ∨ ∃ u i, u ≠ n ∧ a.yard.job? u = some i ∧ i.work.truck? = some m) :
    (a.unsend n j).yard.truckState? m = a.yard.truckState? m := by
  unfold Act.unsend
  split
  · exact (a.setPackState j.tag .free).truckState?_dropCancelled
      ((a.keeps_setPackState j.tag .free).tables ht) n _ j.tag m h
  · rfl

theorem toDoubt_trucks (a : Act) (tag : Nat) : (a.toDoubt tag).yard.trucks = a.yard.trucks := by
  unfold Act.toDoubt Act.leave
  split <;> rfl

theorem truckState?_lose (a : Act) (ht : a.yard.Tables) (n : Nat) (j : Job) (m : Nat)
    (h : a.yard.truckState? m ≠ some .unloading
      ∨ ∃ u i, u ≠ n ∧ a.yard.job? u = some i ∧ i.work.truck? = some m) :
    (a.lose n j).yard.truckState? m = a.yard.truckState? m := by
  have state : (a.toDoubt j.tag).yard.truckState? m = a.yard.truckState? m := by
    rw [Yard.truckState?_entries, toDoubt_trucks, Yard.truckState?_entries]
  have job : ∀ u, (a.toDoubt j.tag).yard.job? u = a.yard.job? u := fun u => by
    rw [Yard.job?, toDoubt_jobs, Yard.job?]
  unfold Act.lose
  split
  · rw [← state]
    refine Act.truckState?_dropCancelled _ ((a.keeps_toDoubt j.tag).tables ht) n _ j.tag m ?_
    rw [state]
    simp only [job]
    exact h
  · exact state

end Act

/-! ### What the fix-ups of the other jobs leave -/

/-- Only the job of a number has a pack's tag. -/
def Yard.solely (y : Yard) (n tag : Nat) : Prop := ∀ u i, y.job? u = some i → i.tag = tag → u = n

/-- Jobs keep their tags, and none is added. -/
def Yard.TagsStay (y z : Yard) : Prop :=
  ∀ u i, z.job? u = some i → ∃ i', y.job? u = some i' ∧ i'.tag = i.tag

theorem Yard.TagsStay.solely {y z : Yard} (h : y.TagsStay z) {n tag : Nat} (hs : y.solely n tag) :
    z.solely n tag := fun u i hi ht => by
  obtain ⟨i', hi', e⟩ := h u i hi
  exact hs u i' hi' (e.trans ht)

/-- What the fix-up of another job leaves of a job and of its pack: the job, its pack but for the place, and
the state of every truck that is not UNLOADING, or that the job is of. -/
structure Yard.Beside (n tag : Nat) (y z : Yard) : Prop where
  tables : y.Tables → z.Tables
  job : z.job? n = y.job? n
  tags : y.TagsStay z
  pack : y.solely n tag → y.PackStays z tag
  truck : y.Tables → ∀ m, y.truckState? m ≠ some .unloading
    ∨ (∃ i, y.job? n = some i ∧ i.work.truck? = some m) → z.truckState? m = y.truckState? m

namespace Yard.Beside

variable {n tag : Nat}

theorem refl (y : Yard) : Beside n tag y y :=
  ⟨id, rfl, fun _ i hi => ⟨i, hi, rfl⟩, fun _ => .of_eq rfl, fun _ _ _ => rfl⟩

theorem trans {y z w : Yard} (h : Beside n tag y z) (k : Beside n tag z w) : Beside n tag y w where
  tables := k.tables ∘ h.tables
  job := k.job.trans h.job
  tags u i hi := by
    obtain ⟨i', hi', e⟩ := k.tags u i hi
    obtain ⟨i'', hi'', e'⟩ := h.tags u i' hi'
    exact ⟨i'', hi'', e'.trans e⟩
  pack hs := (h.pack hs).trans (k.pack (h.tags.solely hs))
  truck ht m hm := by
    have first := h.truck ht m hm
    refine (k.truck (h.tables ht) m ?_).trans first
    rw [first, h.job]
    exact hm

/-- Whether a job is of an UNLOADING truck does not depend on the fix-ups of the others. -/
theorem cancelledLoad? {y z : Yard} (h : Beside n tag y z) (ht : y.Tables) {j : Job}
    (hj : y.job? n = some j) : z.cancelledLoad? j = y.cancelledLoad? j := by
  unfold Yard.cancelledLoad?
  split
  · next number r hw => rw [h.truck ht number (.inr ⟨j, hj, by rw [hw]; rfl⟩)]
  · rfl

end Yard.Beside

namespace Act

theorem tagsStay_unsend (a : Act) (n : Nat) (j : Job) : a.yard.TagsStay (a.unsend n j).yard := by
  intro u i hi
  rw [job?_unsend] at hi
  split at hi
  · next hu =>
    subst hu
    split at hi
    · cases hi
    · obtain ⟨i', hi', rfl⟩ := Option.map_eq_some_iff.mp hi
      exact ⟨i', hi', rfl⟩
  · exact ⟨i, hi, rfl⟩

theorem tagsStay_lose (a : Act) (n : Nat) (j : Job) : a.yard.TagsStay (a.lose n j).yard := by
  intro u i hi
  rw [job?_lose] at hi
  split at hi
  · next hu =>
    subst hu
    split at hi
    · cases hi
    · obtain ⟨i', hi', rfl⟩ := Option.map_eq_some_iff.mp hi
      exact ⟨i', hi', rfl⟩
  · exact ⟨i, hi, rfl⟩

theorem beside_fixSent (a : Act) {n m : Nat} (tag : Nat) (h : n ≠ m) :
    a.yard.Beside n tag (a.fixSent m).yard := by
  unfold Act.fixSent
  split
  · next j hj =>
    split
    · exact {
        tables := (a.keeps_unsend m j).tables
        job := by rw [job?_unsend, if_neg h]
        tags := a.tagsStay_unsend m j
        pack := fun hs => unsend_packStays hj fun e => h (hs m j hj e.symm).symm
        truck := fun ht k hk => a.truckState?_unsend ht m j k
          (hk.imp_right fun ⟨i, hi, hw⟩ => ⟨n, i, h, hi, hw⟩) }
    · exact .refl _
  · exact .refl _

theorem beside_fixLifted (a : Act) {n m : Nat} (tag : Nat) (h : n ≠ m) :
    a.yard.Beside n tag (a.fixLifted m).yard := by
  unfold Act.fixLifted
  split
  · next j hj =>
    split
    · exact {
        tables := (a.keeps_lose m j).tables
        job := by rw [job?_lose, if_neg h]
        tags := a.tagsStay_lose m j
        pack := fun hs => lose_packStays hj fun e => h (hs m j hj e.symm).symm
        truck := fun ht k hk => a.truckState?_lose ht m j k
          (hk.imp_right fun ⟨i, hi, hw⟩ => ⟨n, i, h, hi, hw⟩) }
    · exact .refl _
  · exact .refl _

/-- The fix-ups of other jobs, one after another. -/
theorem beside_fold {g : Act → Nat → Act} {n tag : Nat}
    (hg : ∀ (a : Act) {m : Nat}, n ≠ m → a.yard.Beside n tag (g a m).yard) (l : List Nat) (h : n ∉ l)
    (a : Act) : a.yard.Beside n tag (l.foldl g a).yard := by
  induction l generalizing a with
  | nil => exact .refl _
  | cons m rest ih =>
    exact (hg a fun e => h (e ▸ List.mem_cons_self)).trans
      (ih (fun hm => h (List.mem_cons_of_mem _ hm)) _)

/-- The fix-ups of all jobs, of which a job's own does nothing. -/
theorem beside_fold_idle {g : Act → Nat → Act} {n tag : Nat}
    (hg : ∀ (a : Act) {m : Nat}, n ≠ m → a.yard.Beside n tag (g a m).yard) (l : List Nat) (a : Act)
    (idle : ∀ b : Act, b.yard.job? n = a.yard.job? n → g b n = b) :
    a.yard.Beside n tag (l.foldl g a).yard := by
  induction l generalizing a with
  | nil => exact .refl _
  | cons m rest ih =>
    have first : a.yard.Beside n tag (g a m).yard := by
      by_cases h : n = m
      · subst h
        rw [idle a rfl]
        exact .refl _
      · exact hg a h
    exact first.trans (ih _ fun b hb => idle b (hb.trans first.job))

/-- The fix-ups of all jobs: those before a job's own, its own, and those after it. -/
theorem beside_fold_around {g : Act → Nat → Act} {n tag : Nat}
    (hg : ∀ (a : Act) {m : Nat}, n ≠ m → a.yard.Beside n tag (g a m).yard)
    (flags : ∀ (a : Act) (m : Nat), a.yard.FlagsStay (g a m).yard) (a : Act) (ht : a.yard.Tables)
    {j : Job} (hj : a.yard.job? n = some j) :
    ∃ b : Act, a.yard.Beside n tag b.yard
      ∧ (g b n).yard.Beside n tag (a.yard.jobs.keys.foldl g a).yard
      ∧ (g b n).yard.FlagsStay (a.yard.jobs.keys.foldl g a).yard := by
  have listed : n ∈ a.yard.jobs.keys := List.mem_map_of_mem (f := Prod.fst) (Table.mem_of_get? hj)
  have once : a.yard.jobs.keys.Nodup := ((Table.rising_iff _).mp ht.jobs).imp Nat.ne_of_lt
  obtain ⟨before, after, split⟩ := List.append_of_mem listed
  rw [split] at once ⊢
  obtain ⟨-, tail, apart⟩ := List.nodup_append.mp once
  have notBefore : n ∉ before := fun hm => apart n hm n List.mem_cons_self rfl
  have notAfter : n ∉ after := (List.nodup_cons.mp tail).1
  refine ⟨before.foldl g a, beside_fold hg before notBefore a, ?_, ?_⟩
  · rw [List.foldl_append, List.foldl_cons]
    exact beside_fold hg after notAfter _
  · rw [List.foldl_append, List.foldl_cons]
    exact flagsStay_fold flags after _

end Act
end Sys2Proof.Machine
end

section
/-! SUPPORT. What the fix-ups (R123) make of each job, its pack and the trucks: the second half of O42. -/

namespace Sys2Proof.Machine

namespace Act

/-- R123 steps 1 and 2, before the end of unloading is tested. -/
def recalled (a : Act) : Act :=
  let a := a.yard.jobs.keys.foldl Act.fixSent a
  a.yard.jobs.keys.foldl Act.fixLifted a

theorem fixUps_yard (a : Act) : a.fixUps.yard = a.recalled.testUnloading.yard.pauseAll := rfl

theorem job?_fixUps (a : Act) (n : Nat) :
    a.fixUps.yard.job? n = (a.recalled.yard.job? n).map Job.afterRestart := by
  rw [fixUps_yard, Yard.job?_pauseAll, Yard.job?, testUnloading_jobs]
  rfl

theorem pack?_fixUps (a : Act) (tag : Nat) : a.fixUps.yard.pack? tag = a.recalled.yard.pack? tag := by
  show a.recalled.testUnloading.yard.packs.get? tag = _
  rw [testUnloading_packs]
  rfl

/-! ### A job's own turn -/

theorem fixSent_of_not {a : Act} {n : Nat}
    (h : ∀ j, a.yard.job? n = some j → j.state ≠ .sent ∧ j.state ≠ .accepted) : a.fixSent n = a := by
  unfold Act.fixSent
  split
  · next j hj => rw [if_neg (not_or.mpr (h j hj))]
  · rfl

theorem fixLifted_of_not {a : Act} {n : Nat}
    (h : ∀ j, a.yard.job? n = some j → j.state ≠ .lifted) : a.fixLifted n = a := by
  unfold Act.fixLifted
  split
  · next j hj => rw [if_neg (h j hj)]
  · rfl

/-- A job with no move under way is left as it is. -/
theorem recalled_of_idle {a : Act} {n : Nat} {j : Job} (hj : a.yard.job? n = some j) (sent : j.state ≠ .sent)
    (accepted : j.state ≠ .accepted) (lifted : j.state ≠ .lifted) :
    a.recalled.yard.job? n = some j := by
  have first := beside_fold_idle (n := n) (tag := j.tag) (fun a _ h => a.beside_fixSent j.tag h)
    a.yard.jobs.keys a fun b hb => fixSent_of_not fun i hi => by
      obtain rfl := Option.some.inj (hj.symm.trans (hb.symm.trans hi))
      exact ⟨sent, accepted⟩
  unfold recalled
  generalize a.yard.jobs.keys.foldl Act.fixSent a = b at first
  have second := beside_fold_idle (n := n) (tag := j.tag) (fun a _ h => a.beside_fixLifted j.tag h)
    b.yard.jobs.keys b fun c hc => fixLifted_of_not fun i hi => by
      obtain rfl := Option.some.inj (hj.symm.trans (first.job.symm.trans (hc.symm.trans hi)))
      exact lifted
  exact second.job.trans (first.job.trans hj)

/-- A job that is SENT or ACCEPTED is unsent at its turn of step 1, between the fix-ups of other jobs. -/
theorem recalled_of_sent {a : Act} (ht : a.yard.Tables) {n : Nat} {j : Job} (hj : a.yard.job? n = some j)
    (h : j.state = .sent ∨ j.state = .accepted) : ∃ b : Act, a.yard.Beside n j.tag b.yard
      ∧ (b.unsend n j).yard.Beside n j.tag a.recalled.yard := by
  obtain ⟨b, before, after, -⟩ := beside_fold_around (n := n) (tag := j.tag)
    (fun a _ h => a.beside_fixSent j.tag h) flagsStay_fixSent a ht hj
  have own : b.fixSent n = b.unsend n j := by
    unfold Act.fixSent
    rw [before.job, hj]
    exact if_pos h
  rw [own] at after
  refine ⟨b, before, after.trans ?_⟩
  unfold recalled
  generalize a.yard.jobs.keys.foldl Act.fixSent a = c at after
  refine beside_fold_idle (fun a _ h => a.beside_fixLifted j.tag h) _ c fun d hd =>
    fixLifted_of_not fun i hi => ?_
  rw [hd, after.job, job?_unsend, if_pos rfl] at hi
  split at hi
  · cases hi
  · obtain ⟨_, -, rfl⟩ := Option.map_eq_some_iff.mp hi
    simp

/-- A job that is LIFTED is lost at its turn of step 2, between the fix-ups of other jobs. -/
theorem recalled_of_lifted {a : Act} (ht : a.yard.Tables) {n : Nat} {j : Job}
    (hj : a.yard.job? n = some j) (h : j.state = .lifted) : ∃ b : Act, a.yard.Beside n j.tag b.yard
      ∧ (b.lose n j).yard.Beside n j.tag a.recalled.yard
      ∧ (b.lose n j).yard.FlagsStay a.recalled.yard := by
  have first := beside_fold_idle (n := n) (tag := j.tag) (fun a _ h => a.beside_fixSent j.tag h)
    a.yard.jobs.keys a fun b hb => fixSent_of_not fun i hi => by
      obtain rfl := Option.some.inj (hj.symm.trans (hb.symm.trans hi))
      simp [h]
  unfold recalled
  generalize a.yard.jobs.keys.foldl Act.fixSent a = c at first
  obtain ⟨b, before, after, flags⟩ := beside_fold_around (n := n) (tag := j.tag)
    (fun a _ h => a.beside_fixLifted j.tag h) flagsStay_fixLifted c (first.tables ht)
    (first.job.trans hj)
  have reached := first.trans before
  have own : b.fixLifted n = b.lose n j := by
    unfold Act.fixLifted
    rw [reached.job, hj]
    exact if_pos h
  rw [own] at after flags
  exact ⟨b, reached, after, flags⟩

/-! ### Its own pack -/

/-- R22, R66: the pack of an unsent job. -/
theorem pack?_unsend {a : Act} {n : Nat} {j : Job} (hj : a.yard.job? n = some j) {k : Pack}
    (hk : a.yard.pack? j.tag = some k) : (a.unsend n j).yard.pack? j.tag
      = some (if (a.yard.cancelledLoad? j).isSome
        then { k with state := .free, prior := none, job := none, assignment := none }
        else { k with state := k.prior.getD k.state, prior := none }) := by
  have written : ∀ f, (a.yard.modifyPack j.tag f).pack? j.tag = some (f k) := fun f => by
    rw [Yard.pack?_modifyPack_same, hk]; rfl
  unfold Act.unsend
  split
  · next number hc =>
    rw [hc]
    have kept : (a.setPackState j.tag .free).yard.job? n = some j := hj
    refine (pack?_dropCancelled kept number j.tag).trans ((if_pos rfl).trans ?_)
    exact congrArg (Option.map _) (written _)
  · next hc =>
    rw [hc]
    exact written _

/-- R31, R66: the pack of a lost job. -/
theorem pack?_lose {a : Act} {n : Nat} {j : Job} (hj : a.yard.job? n = some j) {k : Pack}
    (hk : a.yard.pack? j.tag = some k) : (a.lose n j).yard.pack? j.tag
      = some (if (a.yard.cancelledLoad? j).isSome
        then { k with state := .doubt, prior := none, place := .nowhere, job := none, assignment := none }
        else { k with state := .doubt, prior := none, place := .nowhere }) := by
  have doubt := pack?_toDoubt_same hk
  unfold Act.lose
  split
  · next number hc =>
    rw [hc]
    have kept : (a.toDoubt j.tag).yard.job? n = some j := by
      rw [Yard.job?, toDoubt_jobs]; exact hj
    refine (pack?_dropCancelled kept number j.tag).trans ((if_pos rfl).trans ?_)
    exact congrArg (Option.map _) doubt
  · next hc =>
    rw [hc]
    exact doubt

/-! ### Trucks -/

/-- A fold of fix-ups that each keep the states of trucks that are not UNLOADING. -/
theorem truckState?_fold {g : Act → Nat → Act} (tables : ∀ a n, a.yard.Tables → (g a n).yard.Tables)
    {m : Nat} (hg : ∀ a n, a.yard.Tables → a.yard.truckState? m ≠ some .unloading →
      (g a n).yard.truckState? m = a.yard.truckState? m)
    (l : List Nat) (a : Act) (ht : a.yard.Tables) (h : a.yard.truckState? m ≠ some .unloading) :
    (l.foldl g a).yard.truckState? m = a.yard.truckState? m := by
  induction l generalizing a with
  | nil => rfl
  | cons n rest ih =>
    have first := hg a n ht h
    exact (ih _ (tables a n ht) (by rw [first]; exact h)).trans first

theorem truckState?_fixSent (a : Act) (n : Nat) (ht : a.yard.Tables) {m : Nat}
    (h : a.yard.truckState? m ≠ some .unloading) :
    (a.fixSent n).yard.truckState? m = a.yard.truckState? m := by
  unfold Act.fixSent
  split
  · split
    · exact a.truckState?_unsend ht n _ m (.inl h)
    · rfl
  · rfl

theorem truckState?_fixLifted (a : Act) (n : Nat) (ht : a.yard.Tables) {m : Nat}
    (h : a.yard.truckState? m ≠ some .unloading) :
    (a.fixLifted n).yard.truckState? m = a.yard.truckState? m := by
  unfold Act.fixLifted
  split
  · split
    · exact a.truckState?_lose ht n _ m (.inl h)
    · rfl
  · rfl

/-- Steps 1 and 2 leave the states of the trucks that are not UNLOADING. -/
theorem truckState?_unsent (a : Act) (ht : a.yard.Tables) {m : Nat}
    (h : a.yard.truckState? m ≠ some .unloading) :
    a.unsent.yard.truckState? m = a.yard.truckState? m := by
  have sent := truckState?_fold (fun a n => (a.keeps_fixSent n).tables)
    (fun a n ht h => a.truckState?_fixSent n ht h) a.yard.jobs.keys a ht h
  have sentTables := (Yard.Keeps.foldl Act.keeps_fixSent a.yard.jobs.keys a).tables ht
  unfold unsent
  simp only
  generalize a.yard.jobs.keys.foldl Act.fixSent a = b at sent sentTables
  have lifted := truckState?_fold (fun a n => (a.keeps_fixLifted n).tables)
    (fun a n ht h => a.truckState?_fixLifted n ht h) b.yard.jobs.keys b sentTables (by rw [sent]; exact h)
  have liftedTables := (Yard.Keeps.foldl Act.keeps_fixLifted b.yard.jobs.keys b).tables sentTables
  generalize b.yard.jobs.keys.foldl Act.fixLifted b = c at lifted liftedTables
  have tested := truckState?_fold (g := fun a n => a.on fun y => y.testUnloaded n)
    (fun a n => (a.yard.keeps_testUnloaded n).tables)
    (fun a n ht h => a.yard.truckState?_testUnloaded ht.trucks n m (Yard.unloadingEnded_of_state h))
    (c.yard.trucks.entries.map fun en => en.2.number) c liftedTables
    (by rw [lifted, sent]; exact h)
  exact tested.trans (lifted.trans sent)

end Act

theorem Yard.truckState?_pauseAll (y : Yard) (m : Nat) : y.pauseAll.truckState? m
    = (y.truckState? m).map fun s => if s = .loading then .paused else s := by
  rw [truckState?_entries, truckState?_entries]
  simp only [Yard.pauseAll, Table.mapVal, List.find?_map, Option.map_map]
  rfl

/-! ### The fix-ups, clause by clause -/

/-- R123 step 3: a queued job waits, a SUSPENDED one stays, and neither has a move. -/
theorem Yard.fixUps_idle {y : Yard} {n : Nat} {j : Job} (hj : y.job? n = some j) :
    (j.state.judged = true → y.act.fixUps.yard.job? n
        = some { j with state := .waiting, bound := none, move := none })
      ∧ (j.state = .suspended → y.act.fixUps.yard.job? n
        = some { j with state := .suspended, bound := none, move := none }) := by
  have left : j.state ≠ .sent → j.state ≠ .accepted → j.state ≠ .lifted →
      y.act.fixUps.yard.job? n = some j.afterRestart := fun sent accepted lifted => by
    rw [Act.job?_fixUps, Act.recalled_of_idle (a := y.act) hj sent accepted lifted]
    rfl
  refine ⟨fun h => ?_, fun h => ?_⟩
  · refine (left ?_ ?_ ?_).trans (by rw [Job.afterRestart, if_pos h])
    all_goals
      intro e
      rw [e] at h
      cases h
  · refine (left ?_ ?_ ?_).trans ?_
    · simp [h]
    · simp [h]
    · simp [h]
    · rw [Job.afterRestart, h]
      rfl

/-- R123 step 1: a job that is SENT or ACCEPTED, and its pack. -/
theorem Yard.fixUps_sent {y : Yard} (ht : y.Tables) {n : Nat} {j : Job} (hj : y.job? n = some j)
    {k : Pack} (hk : y.pack? j.tag = some k) (own : y.solely n j.tag)
    (h : j.state = .sent ∨ j.state = .accepted) :
    y.act.fixUps.yard.job? n = (if (y.cancelledLoad? j).isSome then none
        else some { j with state := .waiting, bound := none, move := none })
      ∧ ∃ pl, y.act.fixUps.yard.pack? j.tag = some (if (y.cancelledLoad? j).isSome
          then { k with state := .free, prior := none, job := none, assignment := none, place := pl }
          else { k with state := k.prior.getD k.state, prior := none, place := pl }) := by
  obtain ⟨b, before, after⟩ := Act.recalled_of_sent (a := y.act) ht hj h
  have cancelled : b.yard.cancelledLoad? j = y.cancelledLoad? j := before.cancelledLoad? ht hj
  have held : b.yard.job? n = some j := before.job.trans hj
  constructor
  · rw [Act.job?_fixUps, after.job, Act.job?_unsend, if_pos rfl, cancelled, held]
    split <;> rfl
  · obtain ⟨pl, hb, -⟩ := before.pack own k hk
    obtain ⟨pl', hz, -⟩ := after.pack ((b.tagsStay_unsend n j).solely (before.tags.solely own)) _
      (Act.pack?_unsend held hb)
    refine ⟨pl', ?_⟩
    rw [Act.pack?_fixUps, hz, cancelled]
    split <;> rfl

/-- R123 step 2: a job that is LIFTED, and its pack. -/
theorem Yard.fixUps_lifted {y : Yard} (ht : y.Tables) {n : Nat} {j : Job} (hj : y.job? n = some j)
    {k : Pack} (hk : y.pack? j.tag = some k) (own : y.solely n j.tag) (h : j.state = .lifted) :
    y.act.fixUps.yard.job? n = (if (y.cancelledLoad? j).isSome then none
        else some { j with state := .suspended, bound := none, move := none })
      ∧ y.act.fixUps.yard.pack? j.tag = some (if (y.cancelledLoad? j).isSome
          then { k with state := .doubt, prior := none, place := .nowhere, job := none, assignment := none }
          else { k with state := .doubt, prior := none, place := .nowhere })
      ∧ holdsFlag y.act.fixUps.yard.events .packDoubt = true := by
  obtain ⟨b, before, after, flags⟩ := Act.recalled_of_lifted (a := y.act) ht hj h
  have cancelled : b.yard.cancelledLoad? j = y.cancelledLoad? j := before.cancelledLoad? ht hj
  have held : b.yard.job? n = some j := before.job.trans hj
  refine ⟨?_, ?_, ?_⟩
  · rw [Act.job?_fixUps, after.job, Act.job?_lose, if_pos rfl, cancelled, held]
    split <;> rfl
  · obtain ⟨pl, hb, -⟩ := before.pack own k hk
    obtain ⟨pl', hz, nowhere⟩ := after.pack ((b.tagsStay_lose n j).solely (before.tags.solely own)) _
      (Act.pack?_lose held hb)
    obtain rfl := nowhere (by split <;> rfl)
    rw [Act.pack?_fixUps, hz, cancelled]
    split <;> rfl
  · exact (Act.flagsStay_testUnloading _) _ (flags _ (b.flags_lose n j).2)

end Sys2Proof.Machine
end

section
/-! SUPPORT. The restart sequence of the part (R171), step by step, and what it leaves (O42). -/

namespace Sys2Proof.Machine

/-! ### What follows the fix-ups -/

/-- R117: with no terminal that can take a move, no queue is served. -/
theorem Yard.serveAll_of_idle {e : Env} {y : Yard} (h : ∀ t, (y.terminal t).canTake = false) :
    y.serveAll e = y := by
  have plan : ∀ zone n, y.sendPlan? e zone n = none := fun zone n => by
    cases hp : y.sendPlan? e zone n with
    | none => rfl
    | some pl =>
      obtain ⟨j, -, -, -, -, ht, -⟩ := sendPlan?_spec hp
      have := terminalFor_canTake ht
      rw [h] at this
      cases this
  have zone : ∀ z, Yard.serveZone e z 33 y = y := fun z => by
    unfold serveZone
    have none : (y.queue z).findSome? (fun n => y.sendPlan? e z n) = Option.none :=
      List.findSome?_eq_none_iff.mpr fun n _ => plan z n
    rw [none]
  unfold serveAll
  split
  · simp only [List.foldl_cons, List.foldl_nil, zone]
  · rfl

theorem Yard.terminal_of_initial {y : Yard} (h : y.loader = LoaderLink.initial) (t : Nat) :
    y.terminal t = Terminal.initial := by
  rw [terminal, h]
  rcases Nat.lt_or_ge t 8 with ht | ht
  · rw [Vector.getElem?_eq_getElem ht]
    simp [LoaderLink.initial]
  · rw [Vector.getElem?_eq_none ht]
    rfl

/-- With the link as after a restart, what follows the fix-ups writes packs, jobs, queues, trucks, lanes and
flags alone: no move is sent. -/
theorem Yard.settles_restarted (e : Env) {y : Yard} (h : y.loader = LoaderLink.initial) :
    y.act.fixUps.yard.Settles true (y.restarted e) := by
  have needs : y.act.fixUps.yard.Settles true y.act.fixUps.fixNeeds.yard :=
    (Act.settles_clearDue { y.act.fixUps with bays := allBays }).trans (Act.settles_serveNeeds _ _)
  have fixed : y.act.fixUps.yard.Settles true (y.fixedUp e) := by
    unfold Yard.fixedUp
    generalize y.act.fixUps.fixNeeds = b at needs
    exact (needs.trans (b.yard.settles_judgeAll e)).trans
      (Act.settles_offers e (b.on (Yard.judgeAll e)))
  have expired := fixed.trans ((y.fixedUp e).settles_restartExpiries e Config.maxTrucks)
  unfold Yard.restarted
  generalize Yard.restartExpiries e Config.maxTrucks (y.fixedUp e) = z at expired
  have granted := expired.trans (Act.settles_grants e 6 z.act)
  generalize (z.act.grants e 6).yard = w at granted
  have loader : w.loader = LoaderLink.initial := by
    have calm : w.loader = y.act.fixUps.yard.loader := congrArg (·.2.2) granted.calm
    rw [calm]
    exact y.act.unsent_loader.trans h
  rw [serveAll_of_idle fun t => by rw [terminal_of_initial loader]; rfl]
  exact granted

/-! ### Emptied tables stay empty -/

/-- Nothing in the tables: no stack, no pack, no truck, no job, and lanes as after a clear. -/
structure Yard.Bare (y : Yard) : Prop where
  stack : y.stack = ⟨[]⟩
  packs : y.packs = ⟨[]⟩
  trucks : y.trucks = ⟨[]⟩
  jobs : y.jobs = ⟨[]⟩
  lanes : y.lanes = Vector.replicate 6 Lane.initial

namespace Yard

theorem Bare.pauseAll {y : Yard} (h : y.Bare) : y.pauseAll.Bare where
  stack := h.stack
  packs := h.packs
  trucks := by simp only [Yard.pauseAll, h.trucks]; rfl
  jobs := by simp only [Yard.pauseAll, h.jobs]; rfl
  lanes := h.lanes

theorem Bare.fixUps {y : Yard} (h : y.Bare) : y.act.fixUps = y.act.on Yard.pauseAll := by
  have keys : y.act.yard.jobs.keys = [] := by rw [show y.act.yard.jobs = ⟨[]⟩ from h.jobs]; rfl
  have trucks : y.act.yard.trucks.entries = [] := by rw [show y.act.yard.trucks = ⟨[]⟩ from h.trucks]
  have unsent : y.act.unsent = y.act := by
    unfold Act.unsent Act.testUnloading
    simp only [keys, List.foldl_nil, trucks, List.map_nil]
  rw [Act.fixUps_eq, unsent]

/-- R109: no truck and no stack has a need for a job. -/
theorem Bare.no_need {y : Yard} (h : y.Bare) : y.firstNeed = none := by
  have clear : y.firstClearNeed = none := by rw [firstClearNeed, h.stack]; rfl
  have load : y.firstLoadNeed = none := by rw [firstLoadNeed, h.trucks]; rfl
  have offload : y.firstOffloadNeed = none := by rw [firstOffloadNeed, h.trucks]; rfl
  unfold Yard.firstNeed
  rw [clear, load]
  exact offload

theorem Bare.clearDue {a : Act} (h : a.yard.Bare) : a.clearDue = { a with bays := [] } := by
  have bay : ∀ (c : Act) (b : Nat), c.yard.Bare → c.clearBay b = c := fun c b hc => by
    unfold Act.clearBay
    rw [stackOf, hc.stack]
    rfl
  have bays : ∀ (l : List Nat) (c : Act), c.yard.Bare → l.foldl Act.clearBay c = c := by
    intro l
    induction l with
    | nil => exact fun _ _ => rfl
    | cons b rest ih =>
      intro c hc
      rw [List.foldl_cons, bay c b hc, ih c hc]
  exact bays a.bays _ h

theorem Bare.serveNeeds {a : Act} (h : a.yard.Bare) (fuel : Nat) : a.serveNeeds fuel = a := by
  cases fuel with
  | zero => rfl
  | succ fuel =>
    unfold Act.serveNeeds
    split
    · rfl
    · rw [h.no_need]

theorem Bare.judgeAll {y : Yard} (e : Env) (h : y.Bare) : y.judgeAll e = y := by
  unfold Yard.judgeAll
  rw [h.jobs]
  rfl

theorem Bare.restartExpiries {y : Yard} (e : Env) (h : y.Bare) (fuel : Nat) :
    Yard.restartExpiries e fuel y = y := by
  cases fuel with
  | zero => rfl
  | succ fuel =>
    have none : y.expiredWait e.clock = Option.none := by
      rw [expiredWait, waitingTrucks, h.trucks]; rfl
    rw [Yard.restartExpiries, none]

theorem Bare.grants {y : Yard} (e : Env) (h : y.Bare) (fuel : Nat) : y.act.grants e fuel = y.act := by
  cases fuel with
  | zero => rfl
  | succ fuel =>
    have none : y.act.yard.firstQueued e = Option.none := by
      rw [firstQueued, show y.act.yard.trucks = ⟨[]⟩ from h.trucks]; rfl
    unfold Act.grants
    rw [none]
    cases y.act.yard.freeLane <;> rfl

end Yard

theorem Act.offers_of_nothing (e : Env) {a : Act} (h : a.freed = []) : a.offers e = a := by
  unfold Act.offers
  generalize a.freed.length + 384 = fuel
  cases fuel with
  | zero => rfl
  | succ fuel => rw [Act.offerAll, h]

namespace Yard

/-- Emptied tables with the link as after a restart: nothing follows from the fix-ups. -/
theorem Bare.restarted {y : Yard} (e : Env) (h : y.Bare) (link : y.loader = LoaderLink.initial) :
    y.restarted e = y.pauseAll := by
  have paused := h.pauseAll
  have fixed : y.fixedUp e = y.pauseAll := by
    unfold fixedUp Act.fixNeeds
    rw [h.fixUps, Bare.clearDue paused]
    generalize Config.maxJobs = fuel
    rw [Bare.serveNeeds paused]
    rw [Act.offers_of_nothing e rfl]
    exact paused.judgeAll e
  unfold Yard.restarted
  generalize Config.maxTrucks = trucks
  generalize (6 : Nat) = lanes
  rw [fixed, paused.restartExpiries e, paused.grants e]
  exact serveAll_of_idle fun t => congrArg Terminal.canTake (terminal_of_initial link t)

end Yard
end Sys2Proof.Machine
end

section
/-! SUPPORT. What every restart sequence leaves of the part (R171), for O42. -/

namespace Sys2Proof.Machine

theorem holdsFlag_foldl_raiseIn {e : Event} {l : List Event} (h : e ∈ l) (f : Flags24) :
    holdsFlag (l.foldl raiseIn f) e = true := by
  have kept : ∀ (l : List Event) (f : Flags24), holdsFlag f e = true →
      holdsFlag (l.foldl raiseIn f) e = true := by
    intro l
    induction l with
    | nil => exact fun _ h => h
    | cons g rest ih => exact fun f h => ih _ (holdsFlag_raiseIn g h)
  induction l generalizing f with
  | nil => cases h
  | cons g rest ih =>
    rcases List.mem_cons.mp h with rfl | h
    · exact kept rest _ (holdsFlag_raiseIn_same f e)
    · exact ih h _

/-- R172: an audit that is run passes or fails. -/
theorem Yard.audit_ne_notRun (y : Yard) : y.audit ≠ .notRun := by
  unfold Yard.audit
  split <;> exact nofun

namespace Part

/-- The events of a restart: RESTART, STORE_FAIL of a bad store, those of the tables, HALT_ON. -/
def restartEvents (p : Part) (pins : Pins) (found : List Event) : List Event :=
  (if p.store.good then [Event.restart] else [Event.restart, Event.storeFail])
    ++ (found ++ if pins.halt then [Event.haltOn] else [])

/-- R171: the settings of a restart. -/
def restartSettings (p : Part) : Settings := if p.store.good then p.store.settings else Settings.factory

/-- The part at the end of the sequence but for the fix-ups, as the tables, the trims, the clock and the audit
came out of steps 3 and 4. -/
def beforeFixUps (p : Part) (pins : Pins) (y : Yard) (found : List Event) (trims : Vector Nat 8)
    (clock : Nat) (audit : AuditResult) : Part :=
  { p with
    settings := p.restartSettings
    trims := trims
    clock := clock
    lastAudit := audit
    yard := { y with events := (p.restartEvents pins found).foldl raiseIn 0#24 }
    weather :=
      { p.weather with
        prescaleCount := 0
        rainLevel := pins.rain
        deadline := dryingFrom p.restartSettings.weather clock }
    weigh := WeighUnit.initial
    host := HostLink.initial (pins.baud % 4)
    flight := .nothing
    halt := pins.halt
    power := { p.power with latch := false } }

/-- The part at the end of the sequence. -/
def afterFixUps (p : Part) (pins : Pins) (y : Yard) (found : List Event) (trims : Vector Nat 8)
    (clock : Nat) (audit : AuditResult) : Part :=
  (p.beforeFixUps pins y found trims clock audit).onYard Yard.restarted

/-- R171 steps 1 and 2. -/
theorem loaded_eq (p : Part) : p.clearVolatile.loadSettings = { p.clearVolatile with
    settings := p.restartSettings
    trims := if p.store.good then p.trims else factoryTrims
    yard := { p.yard.quieted with events := (if p.store.good then [Event.restart]
      else [Event.restart, Event.storeFail]).foldl raiseIn 0#24 } } := by
  unfold loadSettings restartSettings
  rw [show p.clearVolatile.store = p.store from rfl]
  cases p.store.good <;> rfl

/-- The end of R171. -/
theorem takePins_eq (p : Part) (pins : Pins) : p.takePins pins = { p with
    host := HostLink.initial (pins.baud % 4)
    weather :=
      { p.weather with
        rainLevel := pins.rain
        deadline := dryingFrom p.settings.weather p.clock }
    halt := pins.halt
    yard := { p.yard with
      events := (if pins.halt then [Event.haltOn] else []).foldl raiseIn p.yard.events } } := by
  unfold takePins
  cases pins.halt <;> rfl

theorem restartEvents_fold (p : Part) (pins : Pins) (found : List Event) :
    (p.restartEvents pins found).foldl raiseIn 0#24
      = (if pins.halt then [Event.haltOn] else []).foldl raiseIn (found.foldl raiseIn
        ((if p.store.good then [Event.restart] else [Event.restart, Event.storeFail]).foldl
          raiseIn 0#24)) := by
  rw [restartEvents, List.foldl_append, List.foldl_append]

theorem restart_lost {p : Part} (pins : Pins) (h : p.power.latch = true) :
    p.restart pins
      = p.afterFixUps pins p.yard.quieted.emptied [.retainLost] p.clearedTrims 0 .notRun := by
  refine congrArg (Part.onYard · Yard.restarted) ?_
  simp only [loaded_eq]
  rw [show p.clearVolatile.power.latch = true from h, if_pos rfl, takePins_eq, beforeFixUps,
    restartEvents_fold]
  rfl

/-- With the latch found clear, nothing is left to clear of it. -/
theorem latch_cleared {p : Part} (h : p.power.latch = false) :
    { p.power with latch := false } = p.power := by
  rw [← h]

theorem restart_fails {p : Part} (pins : Pins) (h : p.power.latch = false) {n : Nat} {i : AuditItem}
    (failed : p.yard.audit = .fails n i) :
    p.restart pins = p.afterFixUps pins p.yard.quieted.emptied [.auditFail] p.clearedTrims p.clock
      (.fails n i) := by
  refine congrArg (Part.onYard · Yard.restarted) ?_
  simp only [loaded_eq]
  rw [show p.clearVolatile.power.latch = false from h, if_neg Bool.false_ne_true, restartAudit]
  simp only [show ∀ ev, Yard.audit { p.yard.quieted with events := ev } = .fails n i from fun _ => failed]
  rw [takePins_eq, beforeFixUps, restartEvents_fold, latch_cleared h]
  rfl

theorem restart_passes {p : Part} (pins : Pins) (h : p.power.latch = false)
    (passed : p.yard.audit = .pass) :
    p.restart pins = p.afterFixUps pins p.yard.quieted []
      (if p.store.good then p.trims else factoryTrims) p.clock .pass := by
  refine congrArg (Part.onYard · Yard.restarted) ?_
  simp only [loaded_eq]
  rw [show p.clearVolatile.power.latch = false from h, if_neg Bool.false_ne_true, restartAudit]
  simp only [show ∀ ev, Yard.audit { p.yard.quieted with events := ev } = .pass from fun _ => passed]
  rw [takePins_eq, beforeFixUps, restartEvents_fold, latch_cleared h]
  rfl

theorem clearedTrims_of_bad {p : Part} (h : p.store.good = false) : p.clearedTrims = factoryTrims := by
  rw [clearedTrims, h]
  rfl

theorem clearedTrims_of_good {p : Part} (h : p.store.good = true) : p.clearedTrims = p.store.trims := by
  rw [clearedTrims, h]
  rfl

/-- A restart that finds the latch clear keeps the clock, and the trims of a good store where the audit
passes. -/
theorem restart_unlatched (p : Part) (pins : Pins) (latch : p.power.latch = false) :
    ∃ (y : Yard) (found : List Event) (trims : Vector Nat 8) (audit : AuditResult),
      p.restart pins = p.afterFixUps pins y found trims p.clock audit
        ∧ y.loader = LoaderLink.initial ∧ (p.store.good = false → trims = factoryTrims)
        ∧ (p.store.good = true → audit = .pass → trims = p.trims) := by
  cases audit : p.yard.audit with
  | pass =>
    exact ⟨_, _, _, _, restart_passes pins latch audit, rfl, fun bad => by rw [bad]; rfl,
      fun good _ => by rw [good]; rfl⟩
  | fails n i =>
    exact ⟨_, _, _, _, restart_fails pins latch audit, rfl, clearedTrims_of_bad, fun _ => nofun⟩
  | notRun => exact absurd audit p.yard.audit_ne_notRun

/-- Every restart ends in `afterFixUps`, with the link as at the start and the trims of a bad store. -/
theorem restart_eq (p : Part) (pins : Pins) : ∃ (y : Yard) (found : List Event) (trims : Vector Nat 8)
    (clock : Nat) (audit : AuditResult),
    p.restart pins = p.afterFixUps pins y found trims clock audit
      ∧ y.loader = LoaderLink.initial ∧ (p.store.good = false → trims = factoryTrims) := by
  cases latch : p.power.latch with
  | true => exact ⟨_, _, _, _, _, restart_lost pins latch, rfl, clearedTrims_of_bad⟩
  | false =>
    obtain ⟨y, found, trims, audit, hq, link, bad, -⟩ := p.restart_unlatched pins latch
    exact ⟨y, found, trims, _, audit, hq, link, bad⟩

variable (p : Part) (pins : Pins) {y : Yard} (found : List Event) (trims : Vector Nat 8) (clock : Nat)
  (audit : AuditResult)

/-- What follows the fix-ups, in the part. -/
theorem settles_afterFixUps (link : y.loader = LoaderLink.initial) :
    (p.beforeFixUps pins y found trims clock audit).yard.act.fixUps.yard.Settles true
      (p.afterFixUps pins y found trims clock audit).yard :=
  Yard.settles_restarted _ link

/-- The events of a restart are set at its end. -/
theorem holdsFlag_afterFixUps (link : y.loader = LoaderLink.initial) {e : Event}
    (h : e ∈ p.restartEvents pins found) :
    holdsFlag (p.afterFixUps pins y found trims clock audit).yard.events e = true :=
  (p.settles_afterFixUps pins found trims clock audit link).flagsStay e
    (Act.flagsStay_fixUps _ e (holdsFlag_foldl_raiseIn h _))

/-- R123: no move, no exchange, no text and no claim is held at the end of a restart. -/
theorem afterFixUps_calm (link : y.loader = LoaderLink.initial) :
    (p.afterFixUps pins y found trims clock audit).yard.loader = LoaderLink.initial
      ∧ (p.afterFixUps pins y found trims clock audit).yard.claims.entries = [] := by
  have calm := (p.settles_afterFixUps pins found trims clock audit link).calm
  exact ⟨(congrArg (·.2.2) calm).trans ((Act.unsent_loader _).trans link),
    congrArg (·.2.1.entries) calm⟩

/-- Tables cleared before the fix-ups are empty at the end of a restart. -/
theorem afterFixUps_emptied (y : Yard) :
    let z := (p.afterFixUps pins y.quieted.emptied found trims clock audit).yard
    z.stack.entries = [] ∧ z.packs.entries = [] ∧ z.trucks.entries = [] ∧ z.jobs.entries = []
      ∧ z.lanes = Vector.replicate 6 Lane.initial := by
  have bare : (p.beforeFixUps pins y.quieted.emptied found trims clock audit).yard.Bare :=
    ⟨rfl, rfl, rfl, rfl, rfl⟩
  have left := bare.restarted (p.beforeFixUps pins y.quieted.emptied found trims clock audit).env rfl
  obtain ⟨stack, packs, trucks, jobs, lanes⟩ := bare.pauseAll
  intro z
  have paused : z = _ := left
  rw [paused, stack, packs, trucks, jobs, lanes]
  exact ⟨rfl, rfl, rfl, rfl, rfl⟩

theorem restart_mem_events : .restart ∈ p.restartEvents pins found := by
  unfold restartEvents
  split <;> exact List.mem_cons_self

theorem storeFail_mem_events (h : p.store.good = false) : .storeFail ∈ p.restartEvents pins found := by
  simp [restartEvents, h]

theorem haltOn_mem_events (h : pins.halt = true) : .haltOn ∈ p.restartEvents pins found := by
  simp [restartEvents, h]

theorem found_mem_events (e : Event) : e ∈ p.restartEvents pins [e] := by
  simp [restartEvents]

end Part

/-- What the second half of the statement says of a job with a move, of its pack and of the flags. -/
theorem Yard.fixUps_moved {y : Yard} (ht : y.Tables) {n : Nat} {j : Job} (hj : y.job? n = some j)
    {k : Pack} (hk : y.pack? j.tag = some k) (own : y.solely n j.tag) :
    (y.cancelledLoad? j = none →
        (j.state = .sent ∨ j.state = .accepted →
          y.act.fixUps.yard.job? n = some { j with state := .waiting, bound := none, move := none }
          ∧ ∃ k' : Pack, y.act.fixUps.yard.pack? j.tag = some k'
            ∧ { k' with place := k.place } = { k with state := k.prior.getD k.state, prior := none })
        ∧ (j.state = .lifted →
          y.act.fixUps.yard.job? n = some { j with state := .suspended, bound := none, move := none }
          ∧ (y.act.fixUps.yard.pack? j.tag).map Pack.state = some .doubt
          ∧ (y.act.fixUps.yard.pack? j.tag).map Pack.place = some .nowhere
          ∧ holdsFlag y.act.fixUps.yard.events .packDoubt = true))
      ∧ ((y.cancelledLoad? j).isSome = true →
        (j.state = .sent ∨ j.state = .accepted ∨ j.state = .lifted →
          y.act.fixUps.yard.job? n = none
          ∧ (y.act.fixUps.yard.pack? j.tag).map Pack.assignment = some none
          ∧ (y.act.fixUps.yard.pack? j.tag).map Pack.state
            = some (if j.state = .lifted then .doubt else .free))) := by
  refine ⟨fun kept => ⟨fun h => ?_, fun h => ?_⟩, fun ends h => ?_⟩
  · obtain ⟨job, pl, pack⟩ := Yard.fixUps_sent ht hj hk own h
    rw [kept] at job pack
    exact ⟨job, _, pack, rfl⟩
  · obtain ⟨job, pack, flag⟩ := Yard.fixUps_lifted ht hj hk own h
    rw [kept] at job pack
    exact ⟨job, by rw [pack]; rfl, by rw [pack]; rfl, flag⟩
  · rcases or_assoc.mpr h with h | h
    · obtain ⟨job, pl, pack⟩ := Yard.fixUps_sent ht hj hk own h
      rw [if_pos ends] at job pack
      have down : j.state ≠ .lifted := by rcases h with h | h <;> simp [h]
      exact ⟨job, by rw [pack]; rfl, by rw [pack, if_neg down]; rfl⟩
    · obtain ⟨job, pack, -⟩ := Yard.fixUps_lifted ht hj hk own h
      rw [if_pos ends] at job pack
      exact ⟨job, by rw [pack]; rfl, by rw [pack, if_pos h]; rfl⟩

/-- R56, R123 step 4: a truck that was LOADING is PAUSED. -/
theorem Yard.fixUps_loading {y : Yard} (ht : y.Tables) {n : Nat}
    (h : y.truckState? n = some .loading) : y.act.fixUps.yard.truckState? n = some .paused := by
  have kept := y.act.truckState?_unsent ht (m := n) (by rw [Yard.act, h]; simp)
  rw [Act.fixUps_eq]
  refine (Yard.truckState?_pauseAll y.act.unsent.yard n).trans ?_
  rw [kept, Yard.act, h]
  rfl

/-- Settles O42: the sequence is one of three (latch set, audit failed, audit passed), and each clause is read
off the part before the fix-ups, or follows from what the fix-ups leave of flags, link, tables and jobs. -/
theorem restartLeaves : Obligations.RestartLeaves := by
  unfold Obligations.RestartLeaves
  refine ⟨fun p pins => ?_, fun y ht => ?_⟩
  · intro q
    obtain ⟨y, found, trims, clock, audit, hq, link, bad⟩ := p.restart_eq pins
    have left : q = p.afterFixUps pins y found trims clock audit := hq
    obtain ⟨loader, claims⟩ := p.afterFixUps_calm pins found trims clock audit link
    have flag : ∀ {e}, e ∈ p.restartEvents pins found → holdsFlag q.yard.events e = true := fun h => by
      rw [left]; exact p.holdsFlag_afterFixUps pins found trims clock audit link h
    refine ⟨by rw [left]; rfl, by rw [left]; rfl, flag (p.restart_mem_events pins found),
      fun h => ⟨flag (p.storeFail_mem_events pins found h), by rw [left]; exact bad h⟩,
      by rw [left]; exact loader, by rw [left]; exact claims, by rw [left]; rfl, by rw [left]; rfl,
      by rw [left]; rfl, by rw [left]; rfl, fun h => flag (p.haltOn_mem_events pins found h),
      by rw [left]; rfl, by rw [left]; rfl, by rw [left]; rfl, by rw [left]; rfl, fun latch => ?_,
      fun latch => ?_, ?_⟩
    · have lost : q = _ := Part.restart_lost pins latch
      obtain ⟨stack, packs, trucks, jobs, lanes⟩ :=
        p.afterFixUps_emptied pins [.retainLost] p.clearedTrims 0 .notRun p.yard
      rw [lost]
      exact ⟨rfl, p.holdsFlag_afterFixUps pins _ _ _ _ rfl (p.found_mem_events pins _), rfl,
        stack, packs, trucks, jobs, lanes, Part.clearedTrims_of_good⟩
    · obtain ⟨y', found', trims', audit', hq', -, -, kept⟩ := p.restart_unlatched pins latch
      have left' : q = p.afterFixUps pins y' found' trims' p.clock audit' := hq'
      refine ⟨by rw [left']; rfl, by rw [left']; exact kept, fun n i failed => ?_, fun passed => ?_⟩
      · have fails : q = _ := Part.restart_fails pins latch failed
        obtain ⟨stack, packs, trucks, jobs, lanes⟩ :=
          p.afterFixUps_emptied pins [.auditFail] p.clearedTrims p.clock (.fails n i) p.yard
        rw [fails]
        exact ⟨rfl, p.holdsFlag_afterFixUps pins _ _ _ _ rfl (p.found_mem_events pins _),
          stack, packs, trucks, jobs, lanes, Part.clearedTrims_of_good⟩
      · have passes : q = _ := Part.restart_passes pins latch passed
        rw [passes]
        exact ⟨rfl, rfl⟩
    · rw [left]
      exact (p.settles_afterFixUps pins found trims clock audit link).idle (Act.idle_fixUps _)
  · exact ⟨rfl, fun n => Yard.fixUps_loading ht, fun n j hj =>
      ⟨(Yard.fixUps_idle hj).1, (Yard.fixUps_idle hj).2, fun k hk own => Yard.fixUps_moved ht hj hk own⟩⟩

end Sys2Proof.Machine
end

section
/-! SUPPORT. The reads (R36, R37, R69, R71, R142, R168, R169, R173): each answers OK with its body. -/

namespace Sys2Proof.Machine

/-! ### The length of the settings body (R177) -/

@[simp] theorem length_leBytes (width n : Nat) : (leBytes width n).length = width := by
  induction width generalizing n with
  | zero => rfl
  | succ width ih => rw [leBytes, List.length_cons, ih]

theorem length_pairsBytes (l : List Nat) : (pairsBytes l).length = 2 * l.length := by
  induction l with
  | nil => rfl
  | cons n rest ih => simp [pairsBytes, ih]; omega

theorem length_windowListBytes (number : Nat) (l : List Window) :
    (windowListBytes number l).length = 6 * l.length := by
  induction l generalizing number with
  | nil => rfl
  | cons w rest ih => simp [windowListBytes, Window.bytes, ih]; omega

/-- An optional field has its presence byte and its width, whether it is there or not. -/
theorem length_optBytes (width : Nat) (o : Option (List Byte)) (h : ∀ l, o = some l → l.length = width) :
    (optBytes width o).length = width + 1 := by
  cases o with
  | none => simp [optBytes]
  | some l => simp [optBytes, h l rfl]

theorem Settings.length_headBytes (s : Settings) (trims : Vector Nat 8) :
    (s.headBytes trims).length = 94 := by
  simp [headBytes, length_windowListBytes, length_pairsBytes, zoningBytes, WeatherSettings.bytes]

theorem Settings.length_tailBytes (s : Settings) : s.tailBytes.length = 18 := by
  simp [tailBytes, PlanningSettings.bytes, LinkSettings.bytes, WeighSettings.bytes, intBytes, flagsBytes]

/-- R177: the body of READ SETTINGS has 120 bytes. -/
theorem Part.length_settingsBody (p : Part) : p.settingsBody.length = 120 := by
  have deadline : (optBytes 4 (p.weather.deadline.map timeBytes)).length = 5 :=
    length_optBytes 4 _ fun l h => by
      obtain ⟨d, -, rfl⟩ := Option.map_eq_some_iff.mp h
      exact length_leBytes 4 d
  simp [settingsBody, Settings.length_headBytes, Settings.length_tailBytes, deadline]

/-! ### The reads that name an item -/

/-- A tag of a request is in range exactly where R175 says. -/
theorem tagInRange_of {tag : Nat} (lo : 1 ≤ tag) (hi : tag ≤ 16777215) : tagInRange tag = true := by
  simp [tagInRange, within, lo, hi]

theorem Part.readPack_of {p : Part} {tag : Nat} (lo : 1 ≤ tag) (hi : tag ≤ 16777215) {k : Pack}
    (hk : p.yard.pack? tag = some k) : p.readPack tag = (p, .ok (p.yard.packBody p.env tag k)) := by
  simp [readPack, tagInRange_of lo hi, hk]

theorem Part.readTruck_of {p : Part} {n i part : Nat} (lo : 1 ≤ n) (hi : n ≤ 65535) (hp : part ≤ 2)
    {t : Truck} (ht : p.yard.truckNo? n = some (i, t)) : p.readTruck n part
      = (p, .ok (if part = 0 then t.vehicleBody p.env i else if part = 1 then t.linesBody else t.bedBody)) := by
  simp [readTruck, truckInRange, within, lo, hi, hp, ht]

theorem Part.runAudit_of {p : Part} (moves : p.yard.loader.moves.size = 0) (arming : p.weigh.arming = none)
    (idle : p.flight = .nothing) :
    p.runAudit = (p, .ok (p.yard.audit.bytes ++ p.lastAudit.bytes)) := by
  simp [runAudit, storeRefused, storeBusy, moves, arming, idle]

/-- Settles O24. -/
theorem readsAnswer : Obligations.ReadsAnswer := by
  intro h s taken
  have reads : ∀ {r : Request} {body : List Byte}, s.part.perform r = (s.part, .ok body) →
      s.request h r = .next (s.replied h (byte (requestKind r)) .ok body s.part) :=
    fun hp => State.request_replied taken h hp
  refine ⟨⟨reads (r := .readSettings) rfl, s.part.length_settingsBody⟩, reads (r := .readClock) rfl,
    reads (r := .identify) rfl, fun tag k lo hi hk => ?_, fun b hb => ?_, fun n i t lo hi ht => ?_,
    reads (r := .listTrucks) rfl, reads (r := .readLanes) rfl, fun t ht => ?_, fun moves arming idle => ?_⟩
  · exact reads (r := .readPack tag) (Part.readPack_of lo hi hk)
  · exact reads (r := .readBay b) (if_neg (Nat.not_lt.mpr hb))
  · exact ⟨reads (r := .readTruck n 0) (Part.readTruck_of lo hi (by decide) ht),
      reads (r := .readTruck n 1) (Part.readTruck_of lo hi (by decide) ht),
      reads (r := .readTruck n 2) (Part.readTruck_of lo hi (by decide) ht)⟩
  · exact reads (r := .readLoader t) (if_neg (Nat.not_lt.mpr ht))
  · exact reads (r := .runAudit) (Part.runAudit_of moves arming idle)

end Sys2Proof.Machine
end

section
/-! SUPPORT. The release of an assignment with its refill (R23, R87 to R90) leaves all that Yard.still keeps;
HOLD PACK (R26, R27) and RELEASE PACK (R28). -/

namespace Sys2Proof.Machine

/-! ### What a release of an assignment leaves -/

theorem Truck.still_vacateForRefill (t : Truck) (r : BedRef) : (t.vacateForRefill r).1.still = t.still := by
  unfold Truck.vacateForRefill
  simp only
  split
  · exact (Truck.still_modifyPos _ _ _).trans (t.still_modifyPos _ _)
  · exact t.still_modifyPos _ _

theorem Yard.still_testLoaded (y : Yard) (number : Nat) : (y.testLoaded number).still = y.still := by
  unfold Yard.testLoaded
  split
  · rfl
  · split
    · exact y.still_enterLoaded number
    · rfl

theorem Yard.still_retarget (y : Yard) (tag slot : Nat) : (y.retarget tag slot).still = y.still := by
  unfold Yard.retarget
  split <;> rfl

namespace Act

theorem still_endJob (a : Act) (n : Nat) : (a.endJob n).yard.still = a.yard.still := by
  cases hj : a.yard.job? n with
  | none => rw [endJob_none hj]
  | some j =>
    rw [endJob_yard hj]
    refine (Yard.still_modifyPack _ _ _ ?_).trans rfl
    intro p
    rfl

theorem still_fillVacancy (a : Act) (number line : Nat) (r : BedRef) (pl : Plan) :
    (a.fillVacancy number line r pl).yard.still = a.yard.still := by
  rw [fillVacancy, still_createJob, on_yard,
    Yard.still_modifyTruck _ _ _ fun t => t.still_modifyPos _ _, Yard.still_takePack]

theorem still_failRefill (a : Act) (number line : Nat) (candidates : Bool) :
    (a.failRefill number line candidates).yard.still = a.yard.still := by
  refine (Yard.still_testLoaded _ number).trans ?_
  split
  · exact Yard.still_addWeightShort _ _ _
  · exact Yard.still_modifyStockShort _ _ _ _

theorem still_replace (e : Env) (a : Act) (number line : Nat) (r : BedRef) :
    (a.replace e number line r).yard.still = a.yard.still := by
  unfold replace
  split
  · simp only
    split
    · exact a.still_failRefill _ _ _
    · split
      · exact a.still_fillVacancy _ _ _ _
      · exact a.still_failRefill _ _ _
  · rfl

/-- R88: the vacancy of a refill: its position is vacated, and a pack that moves down has its job's bed
target changed. -/
def vacatedFor (a : Act) (number : Nat) (r : BedRef) : Option Nat → Act
  | some moved =>
    (a.on fun y => y.modifyTruck number fun t => (t.vacateForRefill r).1).on fun y => y.retarget moved r.slot
  | none => a.on fun y => y.modifyTruck number fun t => (t.vacateForRefill r).1

/-- R87 to R90: a refill that finds the truck vacates a position and looks for a replacement, or finds no
position and makes the line short. -/
theorem refill_cases (e : Env) (a : Act) (number line tag : Nat) :
    a.refill e number line tag = a
    ∨ a.refill e number line tag = a.failRefill number line false
    ∨ ∃ r moved v, a.refill e number line tag = (a.vacatedFor number r moved).replace e number line v := by
  unfold refill
  split
  · exact .inl rfl
  · next t _ =>
    split
    · exact .inr (.inl rfl)
    · next r _ =>
      refine .inr (.inr ⟨r, (t.vacateForRefill r).2.2, (t.vacateForRefill r).2.1, ?_⟩)
      simp only
      cases (t.vacateForRefill r).2.2 <;> rfl

theorem still_vacatedFor (a : Act) (number : Nat) (r : BedRef) (moved : Option Nat) :
    (a.vacatedFor number r moved).yard.still = a.yard.still := by
  have vacated := a.yard.still_modifyTruck number _ fun t => t.still_vacateForRefill r
  cases moved with
  | none => exact vacated
  | some tag => exact (Yard.still_retarget _ tag r.slot).trans vacated

theorem still_refill (e : Env) (a : Act) (number line tag : Nat) :
    (a.refill e number line tag).yard.still = a.yard.still := by
  obtain h | h | ⟨r, moved, v, h⟩ := a.refill_cases e number line tag
  · rw [h]
  · rw [h, still_failRefill]
  · rw [h, still_replace, still_vacatedFor]

theorem still_afterRelease (e : Env) (a : Act) (number line tag : Nat) :
    (a.afterRelease e number line tag).yard.still = a.yard.still := by
  unfold afterRelease
  split
  · exact a.still_refill e number line tag
  · exact a.still_refill e number line tag
  · exact Yard.still_modifyStockShort _ _ _ _
  · rfl

/-- R23 steps 1 and 2: the assignment and the LOAD job are gone, and nothing is refilled yet. -/
def unassigned (a : Act) (tag : Nat) : Act :=
  match (a.on fun y => y.unassign tag).yard.jobOfPack? tag with
  | some (n, j) =>
    if j.work.isLoad then (a.on fun y => y.unassign tag).endJob n else a.on fun y => y.unassign tag
  | none => a.on fun y => y.unassign tag

theorem releaseAssignment_none {a : Act} {tag : Nat} (h : (a.yard.pack? tag).bind Pack.assignment = none)
    (e : Env) (settle : Act → Act) : a.releaseAssignment e tag settle = settle a := by
  unfold releaseAssignment
  rw [h]

theorem releaseAssignment_some {a : Act} {tag : Nat} {asg : Assignment}
    (h : (a.yard.pack? tag).bind Pack.assignment = some asg) (e : Env) (settle : Act → Act) :
    a.releaseAssignment e tag settle
      = (settle (a.unassigned tag)).afterRelease e asg.truck asg.line tag := by
  unfold releaseAssignment
  rw [h]
  rfl

theorem still_unassigned (a : Act) (tag : Nat) : (a.unassigned tag).yard.still = a.yard.still := by
  have unassign : (a.on fun y => y.unassign tag).yard.still = a.yard.still := a.yard.still_unassign tag
  unfold unassigned
  split
  · split
    · exact (Act.still_endJob _ _).trans unassign
    · exact unassign
  · exact unassign

/-- The release of an assignment leaves all that Yard.still keeps, where the calling rule does. -/
theorem still_releaseAssignment (e : Env) (a : Act) (tag : Nat) {settle : Act → Act}
    (hs : ∀ b : Act, (settle b).yard.still = b.yard.still) :
    (a.releaseAssignment e tag settle).yard.still = a.yard.still := by
  cases h : (a.yard.pack? tag).bind Pack.assignment with
  | none => rw [releaseAssignment_none h, hs]
  | some asg => rw [releaseAssignment_some h, still_afterRelease, hs, still_unassigned]

end Act

/-! ### What yards that are still alike have in common -/

theorem Yard.stack_of_still {y z : Yard} (h : y.still = z.still) : y.stack = z.stack :=
  (congrArg Yard.stack h : y.still.stack = z.still.stack)

theorem Yard.pack?_of_still {y z : Yard} (h : y.still = z.still) (tag : Nat) :
    (y.pack? tag).map Pack.still = (z.pack? tag).map Pack.still := by
  have packs : (y.packs.mapVal fun _ p => p.still).get? tag = (z.packs.mapVal fun _ p => p.still).get? tag :=
    congrArg (fun w : Yard => w.packs.get? tag) h
  rwa [Table.get?_mapVal, Table.get?_mapVal] at packs

/-! ### HOLD PACK and RELEASE PACK -/

/-- Settles O27. -/
theorem holdPackOutcomes : Obligations.HoldPackOutcomes := by
  intro h tag s taken lo hi
  have range := tagInRange_of lo hi
  have answers : ∀ {p : Part} {res : Result} {body : List Byte},
      s.part.holdPack tag = (p, .reply res body) →
      exec (.holdPack h tag) s = .next (s.replied h 0x12#8 res body p) :=
    fun hp => State.request_replied taken h (r := .holdPack tag) hp
  refine ⟨fun none => answers ?_, fun k hk => ⟨fun free => answers ?_, fun held => answers ?_,
    fun reserved => ?_, fun moving => answers ?_, fun away => answers ?_⟩⟩
  · simp [Part.holdPack, range, none, Part.refuse, Response.refuse]
  · simp [Part.holdPack, range, hk, free, Part.holdFree, Response.ok]
  · simp [Part.holdPack, range, hk, held, Response.ok]
  · have still : ((s.part.yard.act.holdReserved s.part.env tag).finish s.part.env).still
        = s.part.yard.still :=
      (Act.still_finish _ _).trans
        (Act.still_releaseAssignment _ _ tag fun b => b.still_setPackState tag .held)
    refine ⟨_, answers (p := s.part.doAct fun e a => a.holdReserved e tag) ?_, rfl,
      Yard.stack_of_still still, Yard.pack?_of_still still⟩
    simp [Part.holdPack, range, hk, reserved, Response.ok]
  · simp [Part.holdPack, range, hk, moving, Part.refuse, Response.refuse]
  · rcases away with st | st <;> simp [Part.holdPack, range, hk, st, Part.refuse, Response.refuse]

/-- Settles O28. -/
theorem releasePackOutcomes : Obligations.ReleasePackOutcomes := by
  intro h tag s taken lo hi
  have range := tagInRange_of lo hi
  have answers : ∀ {p : Part} {res : Result} {body : List Byte},
      s.part.releasePack tag = (p, .reply res body) →
      exec (.releasePack h tag) s = .next (s.replied h 0x13#8 res body p) :=
    fun hp => State.request_replied taken h (r := .releasePack tag) hp
  refine ⟨fun none => answers ?_, fun k hk => ⟨fun held => ?_, fun free => answers ?_,
    fun moving => answers ?_, fun away => answers ?_⟩⟩
  · simp [Part.releasePack, range, none, Part.refuse, Response.refuse]
  · refine ⟨_, answers (p := s.part.doAct fun _ a => a.releasePack tag) ?_, rfl,
      (Act.still_finish _ _).trans (Act.still_setPackState _ tag .free)⟩
    simp [Part.releasePack, range, hk, held, Response.ok]
  · simp [Part.releasePack, range, hk, free, Response.ok]
  · simp [Part.releasePack, range, hk, moving, Part.refuse, Response.refuse]
  · rcases away with st | st | st <;>
      simp [Part.releasePack, range, hk, st, Part.refuse, Response.refuse]

end Sys2Proof.Machine
end

section
/-! SUPPORT. REMOVE PACK (R29, R30), and the refutation of the statement on LOCATE PACK (R35). -/

namespace Sys2Proof.Machine

/-! ### REMOVE PACK -/

/-- R29: a FREE, HELD or DOUBT pack can be removed where every job it has is SUSPENDED. -/
theorem Yard.removal_ok {y : Yard} {tag : Nat} {k : Pack}
    (st : k.state = .free ∨ k.state = .held ∨ k.state = .doubt)
    (jobs : ∀ n j, y.jobOfPack? tag = some (n, j) → j.state = .suspended) : y.removal tag k = .ok := by
  unfold Yard.removal
  cases hj : y.jobOfPack? tag with
  | none => rcases st with st | st | st <;> rw [st]
  | some en => rcases st with st | st | st <;> rw [st] <;> exact if_pos (jobs en.1 en.2 hj)

/-- R29: a job that is not SUSPENDED stands against the removal. -/
theorem Yard.removal_busy {y : Yard} {tag n : Nat} {j : Job} {k : Pack}
    (st : k.state = .free ∨ k.state = .held ∨ k.state = .doubt)
    (hj : y.jobOfPack? tag = some (n, j)) (busy : j.state ≠ .suspended) :
    y.removal tag k = .wrongState := by
  unfold Yard.removal
  rcases st with st | st | st <;> rw [st, hj] <;> exact if_neg busy

/-- Settles O29. -/
theorem removePackOutcomes : Obligations.RemovePackOutcomes := by
  intro h s taken
  have answers : ∀ {tag : Nat} {p : Part} {res : Result} {body : List Byte},
      s.part.removePack tag = (p, .reply res body) →
      exec (.removePack h tag) s = .next (s.replied h 0x11#8 res body p) :=
    fun hp => State.request_replied taken h (r := .removePack _) hp
  refine ⟨answers rfl, fun tag lo hi => ?_⟩
  have range := tagInRange_of lo hi
  have judged : ∀ {k : Pack} {res : Result}, s.part.yard.pack? tag = some k →
      s.part.yard.removal tag k = res → res ≠ .ok → s.part.removePack tag = s.part.refuse res := by
    intro k res hk hr bad
    unfold Part.removePack
    simp only [range, hk, hr, not_true_eq_false, if_false]
  refine ⟨fun none => answers ?_, fun k hk => ⟨fun st => ⟨fun jobs => ?_, fun ⟨n, j, hj, busy⟩ => ?_⟩,
    fun moving => ?_, fun away => ?_⟩⟩
  · simp [Part.removePack, range, none, Part.refuse, Response.refuse]
  · refine ⟨_, answers (p := s.part.doAct fun e a => a.removePack e tag) ?_, rfl, ?_⟩
    · simp [Part.removePack, range, hk, Yard.removal_ok st jobs, Response.ok]
    · have gone : (s.part.yard.act.removePack s.part.env tag).yard.pack? tag = none :=
        Table.get?_drop_same _ tag
      have still := Yard.pack?_of_still (Act.still_finish s.part.env
        (s.part.yard.act.removePack s.part.env tag)) tag
      rw [gone] at still
      exact Option.map_eq_none_iff.mp still
  · exact answers (judged hk (Yard.removal_busy st hj busy) (by simp))
  · exact answers (judged hk (res := .inMotion) (by rw [Yard.removal, moving]) (by simp))
  · refine answers (judged hk (res := .wrongState) ?_ (by simp))
    rcases away with st | st <;> rw [Yard.removal, st]

/-! ### LOCATE PACK -/

/-- A LOADING truck that plans the pack of tag 5 on its only slot, from its only order line. -/
def planningTruck : Truck where
  number := 760
  announcedAt := 0
  cls := 0
  shortMode := .partialLoad
  frontLimit := 20000
  rearLimit := 20000
  grossLimit := 30000
  wheelbase := 800
  slots := [{ x := 200, one := { plan := some { tag := 5, mass := 500, front := 375, rear := 125 }
                                 loaded := false }, two := BedPos.vacant }]
  tare := some { front := 3000, rear := 3000 }
  lines := [{ grade := 1, sectionCode := 1, lengthClass := 1, species := none, wanted := 1,
              assigned := [5], stockShort := 0, weightShort := 0 }]
  lane := some 3
  grantedAt := some 0
  deadline := none
  state := .loading
  weighedOut := false
  measured := none

/-- A pack of the product that the truck orders. -/
def orderedPack (state : PackState) (place : Place) (assignment : Option Assignment) : Pack where
  grade := 1
  sectionCode := 1
  lengthClass := 1
  species := 0
  volume := 1000
  moisture := 20
  measured := false
  footprint := 100
  registeredAt := 0
  water := 0
  state := state
  place := place
  prior := none
  assignment := assignment
  job := none
  loadedMass := none

/-- The record of tag 5, in doubt and assigned to the truck. -/
def lostPack : Pack := orderedPack .doubt .nowhere (some { truck := 760, line := 1 })

/-- The part after reset, with the truck, and with a pack table that lists tag 5 twice: the record that is
read, in doubt, and behind it one that is FREE in bay 0. -/
def listedTwice : State :=
  { State.reset with part := { Part.reset with yard := { Part.reset.yard with
      trucks := ⟨[(0, planningTruck)]⟩
      packs := ⟨[(5, lostPack), (5, orderedPack .free (.bay 0 1) none)]⟩ } } }

/-- Refutes O30: its clause on GONE fails where the pack table is not in canonical form, which the statement
does not ask. The release of the lost pack refills its truck; the second record of its tag is a candidate
(R89), and its reservation (R90) is written under the tag, so that the lost pack is RESERVED and not DOUBT. -/
theorem not_locatePackOutcomes : ¬ Obligations.LocatePackOutcomes := by
  intro h
  obtain ⟨-, located⟩ := h { seq := 0#8, check := false } 5 2 0 listedTwice (by decide) (by decide)
    (by decide) (by decide) (by decide)
  obtain ⟨-, doubt⟩ := located lostPack rfl
  obtain ⟨-, -, -, gone⟩ := doubt rfl
  obtain ⟨-, -, -, -, kept⟩ := gone rfl
  have taken : ((listedTwice.part.yard.act.giveUp listedTwice.part.env 5).yard.pack? 5).map Pack.state
      = some .reserved := rfl
  rw [taken] at kept
  cases kept

end Sys2Proof.Machine
end

section
/-! SUPPORT. A refill (R87 to R90) passes over every pack that is not FREE: it takes no such pack, and makes no
job for it. -/

namespace Sys2Proof.Machine

/-! ### What entering LOADED leaves (R61) -/

theorem Yard.enterLoaded_packs (y : Yard) (n : Nat) : (y.enterLoaded n).packs = y.packs := by
  unfold Yard.enterLoaded
  simp only
  split
  · split <;> exact y.modifyTruck_packs n _
  · exact y.modifyTruck_packs n _

theorem Yard.enterLoaded_jobs (y : Yard) (n : Nat) : (y.enterLoaded n).jobs = y.jobs := by
  unfold Yard.enterLoaded
  simp only
  split
  · split <;> exact y.modifyTruck_jobs n _
  · exact y.modifyTruck_jobs n _

theorem Yard.testLoaded_cases (y : Yard) (n : Nat) :
    y.testLoaded n = y ∨ y.testLoaded n = y.enterLoaded n := by
  unfold Yard.testLoaded
  split
  · exact .inl rfl
  · split
    · exact .inr rfl
    · exact .inl rfl

/-! ### The candidates of a refill -/

/-- No record of a tag is FREE, so that no line takes the pack (R77). -/
def Yard.unoffered (y : Yard) (tag : Nat) : Prop := ∀ p, (tag, p) ∈ y.packs.entries → p.state ≠ .free

theorem Yard.choice?_spec {e : Env} {y : Yard} {number total room tag : Nat} {l : OrderLine} {p : Pack}
    {c : Choice} (h : y.choice? e number l total room tag p = some c) : c.tag = tag ∧ p.state = .free := by
  unfold Yard.choice? at h
  split at h
  · simp only at h
    split at h
    · next ok =>
      obtain rfl := Option.some.inj h
      exact ⟨rfl, ok.1⟩
    · cases h
  · cases h

theorem Yard.choices_ne {e : Env} {y : Yard} {number total room tag : Nat} {l : OrderLine} {c : Choice}
    (h : y.unoffered tag) (hc : c ∈ y.choices e number l total room) : c.tag ≠ tag := by
  obtain ⟨⟨u, p⟩, member, chosen⟩ := List.mem_filterMap.mp hc
  obtain ⟨rfl, free⟩ := Yard.choice?_spec chosen
  intro same
  exact h p (same ▸ member) free

theorem Yard.admitRefill_tag {e : Env} {y : Yard} {t : Truck} {r : BedRef} {c : Choice} {pl : Plan}
    (h : y.admitRefill e t r c = some pl) : pl.tag = c.tag := by
  unfold Yard.admitRefill at h
  split at h
  · cases h
  · simp only at h
    split at h
    · obtain rfl := Option.some.inj h
      rfl
    · cases h

/-! ### A pack is passed over -/

/-- Writes of the job list and the allocator that leave a pack's record and make no job for it. -/
structure Yard.PassesOver (tag : Nat) (y z : Yard) : Prop where
  settles : y.Settles true z
  pack : z.pack? tag = y.pack? tag
  jobs : ∀ n i, z.job? n = some i → i.tag = tag → ∃ i', y.job? n = some i' ∧ i'.tag = tag

namespace Yard.PassesOver

variable {tag : Nat}

theorem refl (y : Yard) : PassesOver tag y y := ⟨.refl y, rfl, fun _ i hi ht => ⟨i, hi, ht⟩⟩

theorem trans {y z w : Yard} (h : PassesOver tag y z) (k : PassesOver tag z w) : PassesOver tag y w where
  settles := h.settles.trans k.settles
  pack := k.pack.trans h.pack
  jobs := fun n i hi ht => by
    obtain ⟨i', hi', ht'⟩ := k.jobs n i hi ht
    exact h.jobs n i' hi' ht'

/-- Writes of other tables than those of packs and jobs. -/
theorem of_same {y z : Yard} (settles : y.Settles true z) (packs : z.packs = y.packs)
    (jobs : z.jobs = y.jobs) : PassesOver tag y z where
  settles := settles
  pack := by rw [Yard.pack?, packs, Yard.pack?]
  jobs := fun n i hi ht => ⟨i, by rwa [Yard.job?, jobs] at hi, ht⟩

theorem modifyTruck (y : Yard) (n : Nat) {f : Truck → Truck} (h : ∀ t, (f t).dock = t.dock) :
    PassesOver tag y (y.modifyTruck n f) :=
  of_same (.quiet y n h) (y.modifyTruck_packs n f) (y.modifyTruck_jobs n f)

theorem testLoaded (y : Yard) (n : Nat) : PassesOver tag y (y.testLoaded n) := by
  rcases y.testLoaded_cases n with h | h <;> rw [h]
  · exact refl y
  · exact of_same (y.settles_enterLoaded n) (y.enterLoaded_packs n) (y.enterLoaded_jobs n)

theorem retarget (y : Yard) (moved slot : Nat) : PassesOver tag y (y.retarget moved slot) where
  settles := y.settles_retarget moved slot
  pack := by rw [Yard.pack?, Yard.retarget_packs, Yard.pack?]
  jobs := fun n i hi ht => by
    unfold Yard.retarget at hi
    split at hi
    · next m number target _ _ _ _ _ =>
      by_cases hn : m = n
      · subst hn
        have found := (Table.get?_modify_same y.jobs m _).symm.trans hi
        obtain ⟨i', hi', rfl⟩ := Option.map_eq_some_iff.mp found
        exact ⟨i', hi', ht⟩
      · exact ⟨i, (Table.get?_modify_other y.jobs _ hn).symm.trans hi, ht⟩
    · exact ⟨i, hi, ht⟩

end Yard.PassesOver

namespace Act

theorem passesOver_newJob (a : Act) (w : JobWork) {u tag : Nat} (h : u ≠ tag) :
    Yard.PassesOver tag a.yard (a.newJob w u).yard where
  settles := a.settles_newJob w u
  pack := by
    unfold newJob
    split
    · rfl
    · exact Yard.pack?_modifyPack_other _ _ h
  jobs := fun n i hi ht => by
    unfold newJob at hi
    split at hi
    · exact ⟨i, hi, ht⟩
    · next m _ =>
      by_cases hn : m = n
      · subst hn
        obtain rfl := Option.some.inj ((Table.get?_put_same a.yard.jobs m _).symm.trans hi)
        exact absurd ht h
      · exact ⟨i, (Table.get?_put_other a.yard.jobs _ hn).symm.trans hi, ht⟩

theorem passesOver_fillVacancy (a : Act) (number line : Nat) (r : BedRef) {pl : Plan} {tag : Nat}
    (h : pl.tag ≠ tag) : Yard.PassesOver tag a.yard (a.fillVacancy number line r pl).yard := by
  have taken : Yard.PassesOver tag a.yard (a.yard.takePack number line pl.tag) :=
    { settles := a.yard.settles_takePack number line pl.tag
      pack := by
        rw [Yard.pack?, Yard.takePack, Yard.modifyTruck_packs]
        exact a.yard.pack?_modifyPack_other _ h
      jobs := fun n i hi ht => by
        rw [Yard.job?, Yard.takePack, Yard.modifyTruck_jobs] at hi
        exact ⟨i, hi, ht⟩ }
  rw [fillVacancy, createJob, touchBayOf_yard]
  refine Yard.PassesOver.trans ?_ (passesOver_newJob _ _ h)
  exact taken.trans (.modifyTruck _ number fun _ => rfl)

theorem passesOver_failRefill (a : Act) (number line : Nat) (candidates : Bool) {tag : Nat} :
    Yard.PassesOver tag a.yard (a.failRefill number line candidates).yard := by
  refine Yard.PassesOver.trans ?_ (.testLoaded _ number)
  split
  · exact .modifyTruck _ number fun t => t.dock_modifyLine line _
  · exact .modifyTruck _ number fun t => t.dock_modifyLine line _

theorem passesOver_replace (e : Env) (a : Act) (number line : Nat) (r : BedRef) {tag : Nat}
    (h : a.yard.unoffered tag) : Yard.PassesOver tag a.yard (a.replace e number line r).yard := by
  unfold replace
  split
  · simp only
    split
    · exact a.passesOver_failRefill _ _ _
    · split
      · next pl found =>
        obtain ⟨c, hc, admitted⟩ := List.exists_of_findSome?_eq_some found
        refine a.passesOver_fillVacancy _ _ _ ?_
        rw [Yard.admitRefill_tag admitted]
        exact Yard.choices_ne h ((mem_sortBy _ _ _).mp hc)
      · exact a.passesOver_failRefill _ _ _
  · exact .refl _

theorem passesOver_vacatedFor (a : Act) (number : Nat) (r : BedRef) (moved : Option Nat) {tag : Nat} :
    Yard.PassesOver tag a.yard (a.vacatedFor number r moved).yard := by
  have vacated : Yard.PassesOver tag a.yard
      (a.yard.modifyTruck number fun t => (t.vacateForRefill r).1) :=
    .modifyTruck _ number fun t => t.dock_vacateForRefill r
  cases moved with
  | none => exact vacated
  | some u => exact vacated.trans (.retarget _ u r.slot)

theorem vacatedFor_packs (a : Act) (number : Nat) (r : BedRef) (moved : Option Nat) :
    (a.vacatedFor number r moved).yard.packs = a.yard.packs := by
  cases moved with
  | none => exact a.yard.modifyTruck_packs number _
  | some u => exact (Yard.retarget_packs _ u r.slot).trans (a.yard.modifyTruck_packs number _)

/-- R87 to R90: a refill passes over a pack that is not FREE. -/
theorem passesOver_refill (e : Env) (a : Act) (number line u : Nat) {tag : Nat}
    (h : a.yard.unoffered tag) : Yard.PassesOver tag a.yard (a.refill e number line u).yard := by
  obtain same | fails | ⟨r, moved, v, looks⟩ := a.refill_cases e number line u
  · rw [same]
    exact .refl _
  · rw [fails]
    exact a.passesOver_failRefill _ _ _
  · rw [looks]
    refine (a.passesOver_vacatedFor number r moved).trans (passesOver_replace e _ number line v ?_)
    unfold Yard.unoffered
    rw [vacatedFor_packs]
    exact h

/-- R23 step 3: what follows the release of a pack that is not FREE leaves its record and makes no job for it. -/
theorem passesOver_afterRelease (e : Env) (a : Act) (number line u : Nat) {tag : Nat}
    (h : a.yard.unoffered tag) : Yard.PassesOver tag a.yard (a.afterRelease e number line u).yard := by
  unfold afterRelease
  split
  · exact a.passesOver_refill e number line u h
  · exact a.passesOver_refill e number line u h
  · exact .modifyTruck _ number fun t => t.dock_modifyLine line _
  · exact .refl _

end Act

end Sys2Proof.Machine
end

section
/-! SUPPORT. The end of an offload (R67, R153), a damaged pack (R137), and what they leave of packs, jobs, beds
and flags. -/

namespace Sys2Proof.Machine

/-! ### The release of a pack that is held (R23, R27) -/

theorem Yard.jobOfPack?_of {y : Yard} {tag n : Nat} {k : Pack} {j : Job} (hk : y.pack? tag = some k)
    (hn : k.job = some n) (hj : y.job? n = some j) : y.jobOfPack? tag = some (n, j) := by
  simp [Yard.jobOfPack?, hk, hn, hj]

/-- A write under a tag is made to every record that is listed under it. -/
theorem Yard.unoffered_modifyPack (y : Yard) (tag : Nat) {f : Pack → Pack} (h : ∀ p, (f p).state ≠ .free) :
    (y.modifyPack tag f).unoffered tag := by
  intro p hp
  obtain ⟨en, -, written⟩ := List.mem_map.mp hp
  obtain ⟨rfl, rfl⟩ := Prod.mk.inj written
  simpa using h en.2

namespace Act

theorem unassigned_of_load {a : Act} {tag n : Nat} {k : Pack} {j : Job} (hk : a.yard.pack? tag = some k)
    (hn : k.job = some n) (hj : a.yard.job? n = some j) (load : j.work.isLoad = true) :
    a.unassigned tag = (a.on fun y => y.unassign tag).endJob n := by
  have job : (a.yard.unassign tag).job? n = some j := by rwa [Yard.job?, Yard.unassign_jobs]
  have pack : (a.yard.unassign tag).pack? tag = some { k with assignment := none } := by
    rw [Yard.pack?_unassign_same, hk]
    rfl
  have found : (a.on fun y => y.unassign tag).yard.jobOfPack? tag = some (n, j) :=
    Yard.jobOfPack?_of pack hn job
  unfold unassigned
  rw [found]
  exact if_pos load

theorem settles_unassigned {free : Bool} (a : Act) (tag : Nat) :
    a.yard.Settles free (a.unassigned tag).yard := by
  have unassign : a.yard.Settles free (a.on fun y => y.unassign tag).yard := a.yard.settles_unassign tag
  unfold unassigned
  split
  · split
    · exact unassign.trans (settles_endJob _ _)
    · exact unassign
  · exact unassign

theorem unoffered_setHeld (a : Act) (tag : Nat) : (a.setPackState tag .held).yard.unoffered tag :=
  Yard.unoffered_modifyPack _ tag fun p => by simp

/-- R23, R27: the assignment of a pack whose rule makes it HELD is released: the pack stays HELD without job and
assignment, and its LOAD job's record is free or another pack's. -/
theorem releaseAssignment_held (e : Env) {a : Act} {tag n : Nat} {k : Pack} {j : Job}
    (hk : a.yard.pack? tag = some k) (hn : k.job = some n) (assigned : k.assignment.isSome = true)
    (hj : a.yard.job? n = some j) (htag : j.tag = tag) (load : j.work.isLoad = true) :
    (a.releaseAssignment e tag fun b => b.setPackState tag .held).yard.pack? tag
        = some { k with state := .held, prior := none, job := none, assignment := none }
      ∧ ∀ i, (a.releaseAssignment e tag fun b => b.setPackState tag .held).yard.job? n = some i →
        i.tag ≠ tag := by
  obtain ⟨asg, hasg⟩ := Option.isSome_iff_exists.mp assigned
  have job : (a.yard.unassign tag).job? n = some j := by rwa [Yard.job?, Yard.unassign_jobs]
  have opened : (a.unassigned tag).yard.pack? tag = some { k with job := none, assignment := none } := by
    rw [unassigned_of_load hk hn hj load, pack?_endJob job, if_pos htag.symm, on_yard,
      Yard.pack?_unassign_same, hk]
    rfl
  have ended : (a.unassigned tag).yard.job? n = none := by
    rw [unassigned_of_load hk hn hj load]
    exact (endJob_spec _ n).1
  have held : ((a.unassigned tag).setPackState tag .held).yard.pack? tag
      = some { k with state := .held, prior := none, job := none, assignment := none } := by
    refine (Yard.pack?_modifyPack_same _ tag _).trans ?_
    rw [opened]
    rfl
  have passed := passesOver_afterRelease e _ asg.truck asg.line tag ((a.unassigned tag).unoffered_setHeld tag)
  rw [releaseAssignment_some (by rw [hk]; exact hasg)]
  refine ⟨passed.pack.trans held, fun i hi ht => ?_⟩
  obtain ⟨i', hi', -⟩ := passed.jobs n i hi ht
  rw [show ((a.unassigned tag).setPackState tag .held).yard.job? n = none from ended] at hi'
  cases hi'

theorem settles_releaseHeld (e : Env) (a : Act) (tag : Nat) :
    a.yard.Settles true (a.releaseAssignment e tag fun b => b.setPackState tag .held).yard := by
  cases h : (a.yard.pack? tag).bind Pack.assignment with
  | none =>
    rw [releaseAssignment_none h]
    exact .pack _ tag _
  | some asg =>
    rw [releaseAssignment_some h]
    refine Yard.Settles.trans ?_
      (passesOver_afterRelease e _ asg.truck asg.line tag ((a.unassigned tag).unoffered_setHeld tag)).settles
    exact (a.settles_unassigned tag).trans (.pack _ tag _)

/-! ### The end of an offload -/

/-- R153, R67: what the end of an offload leaves, before the truck is looked at. -/
def offloaded (a : Act) (n tag : Nat) : Act :=
  (a.endJob n).on fun y => (y.unassign tag).modifyPack tag fun p => { p with loadedMass := none }

/-- R153, R67: at the end of an offload the truck enters LOADED, its line weight short where the pack had one,
or the end of unloading is tested, or nothing follows. -/
theorem endOffload_holds {P : Yard → Prop} (a : Act) (n number tag : Nat)
    (left : P (a.offloaded n tag).yard) (short : ∀ z g l, P z → P (z.addWeightShort g l))
    (enter : ∀ z, P z → P (z.enterLoaded number))
    (test : P ((a.offloaded n tag).yard.testUnloaded number)) : P (a.endOffload n number tag).yard := by
  unfold endOffload
  simp only
  split
  · refine enter _ ?_
    split
    · exact short _ _ _ left
    · exact left
  · exact test
  · exact left

theorem settles_offloaded {free : Bool} (a : Act) (n tag : Nat) :
    a.yard.Settles free (a.offloaded n tag).yard :=
  (a.settles_endJob n).trans ((Yard.settles_unassign _ tag).trans (.pack _ tag _))

theorem endOffload_packs_jobs (a : Act) (n number tag : Nat) :
    (a.endOffload n number tag).yard.packs = (a.offloaded n tag).yard.packs
      ∧ (a.endOffload n number tag).yard.jobs = (a.offloaded n tag).yard.jobs :=
  a.endOffload_holds (P := fun z => z.packs = (a.offloaded n tag).yard.packs
      ∧ z.jobs = (a.offloaded n tag).yard.jobs) n number tag ⟨rfl, rfl⟩
    (fun z g _ h => ⟨(z.modifyTruck_packs g _).trans h.1, (z.modifyTruck_jobs g _).trans h.2⟩)
    (fun z h => ⟨(z.enterLoaded_packs number).trans h.1, (z.enterLoaded_jobs number).trans h.2⟩)
    ⟨Yard.testUnloaded_packs _ number, Yard.testUnloaded_jobs _ number⟩

theorem job?_endOffload (a : Act) (n number tag : Nat) : (a.endOffload n number tag).yard.job? n = none := by
  rw [Yard.job?, (a.endOffload_packs_jobs n number tag).2]
  show ((a.endJob n).yard.unassign tag).jobs.get? n = none
  rw [Yard.unassign_jobs]
  exact (a.endJob_spec n).1

/-- R153: the pack of an ended offload has no job, no assignment and no loaded mass (log entry 26). -/
theorem pack?_endOffload {a : Act} {n tag : Nat} {j : Job} {k : Pack} (hj : a.yard.job? n = some j)
    (htag : j.tag = tag) (hk : a.yard.pack? tag = some k) (number : Nat) :
    (a.endOffload n number tag).yard.pack? tag
      = some { k with job := none, assignment := none, loadedMass := none } := by
  rw [Yard.pack?, (a.endOffload_packs_jobs n number tag).1]
  refine (Yard.pack?_modifyPack_same _ tag _).trans ?_
  rw [Yard.pack?_unassign_same, pack?_endJob hj, if_pos htag.symm, hk]
  rfl

end Act

/-! ### The loader link and the flags after a report -/

/-- The loader link stays as it was, and no flag is cleared. -/
def Yard.Reported (y z : Yard) : Prop := z.loader = y.loader ∧ y.FlagsStay z

namespace Yard.Reported

theorem trans {y z w : Yard} (h : y.Reported z) (k : z.Reported w) : y.Reported w :=
  ⟨k.1.trans h.1, h.2.trans k.2⟩

theorem of_settles {free : Bool} {y z : Yard} (s : y.Settles free z) : y.Reported z :=
  ⟨congrArg (·.2.2) s.calm, s.flagsStay⟩

theorem testUnloaded (y : Yard) (n : Nat) : y.Reported (y.testUnloaded n) :=
  ⟨congrArg (·.2.2) (y.calm_testUnloaded n), y.flagsStay_testUnloaded n⟩

end Yard.Reported

namespace Act

theorem calm_dropCancelled (a : Act) (n number tag : Nat) :
    (a.dropCancelled n number tag).yard.calm = a.yard.calm :=
  (Yard.calm_testUnloaded _ number).trans (a.settles_cancelled (free := false) n number tag).calm

theorem reported_dropCancelled (a : Act) (n number tag : Nat) :
    a.yard.Reported (a.dropCancelled n number tag).yard :=
  ⟨congrArg (·.2.2) (a.calm_dropCancelled n number tag), a.flagsStay_dropCancelled n number tag⟩

theorem reported_lose (a : Act) (n : Nat) (j : Job) : a.yard.Reported (a.lose n j).yard :=
  ⟨a.lose_loader n j, (a.flags_lose n j).1⟩

theorem reported_unsend (a : Act) (n : Nat) (j : Job) : a.yard.Reported (a.unsend n j).yard :=
  ⟨congrArg (·.2.2) (a.calm_unsend n j), a.flagsStay_unsend n j⟩

theorem reported_toDoubt (a : Act) (tag : Nat) : a.yard.Reported (a.toDoubt tag).yard := by
  refine ⟨?_, (a.flags_toDoubt tag).1⟩
  unfold toDoubt leave
  split <;> rfl

theorem leaveSource_events (a : Act) (m : Move) : (a.leaveSource m).yard.events = a.yard.events := by
  unfold leaveSource
  split
  · exact a.yard.modifyTruck_events _ _
  · unfold leave
    split <;> rfl

theorem reported_leaveSource (a : Act) (m : Move) : a.yard.Reported (a.leaveSource m).yard :=
  ⟨a.leaveSource_loader m, .of_eq (a.leaveSource_events m)⟩

theorem reported_endOffload (a : Act) (n number tag : Nat) :
    a.yard.Reported (a.endOffload n number tag).yard := by
  have left := Yard.Reported.of_settles (a.settles_offloaded (free := true) n tag)
  exact a.endOffload_holds n number tag left
    (fun z g l h => h.trans (.of_settles (z.settles_addWeightShort (free := true) g l)))
    (fun z h => h.trans (.of_settles (z.settles_enterLoaded number)))
    (left.trans (.testUnloaded _ number))

/-! ### A pack is damaged before its lift (R137) -/

theorem damaged_clear (e : Env) (a : Act) (m : Move) {j : Job} {origin : Nat} (h : j.work = .clear origin) :
    a.damaged e m j = (a.setPackState m.tag .held).endJob m.job := by
  unfold damaged
  rw [h]

theorem damaged_offload (e : Env) (a : Act) (m : Move) {j : Job} {number : Nat} {q : BedRef}
    (h : j.work = .offload number q) :
    a.damaged e m j = ((a.leaveSource m).toDoubt m.tag).endOffload m.job number m.tag := by
  unfold damaged
  rw [h]

theorem damaged_load (e : Env) (a : Act) (m : Move) {j : Job} (load : j.work.isLoad = true)
    (kept : a.yard.cancelledLoad? j = none) :
    a.damaged e m j = a.releaseAssignment e m.tag fun b => b.setPackState m.tag .held := by
  unfold damaged
  split
  · next h => rw [h] at load; cases load
  · next h => rw [h] at load; cases load
  · rw [kept]

theorem damaged_cancelled (e : Env) (a : Act) (m : Move) {j : Job} {number : Nat}
    (ends : a.yard.cancelledLoad? j = some number) :
    a.damaged e m j = (a.setPackState m.tag .held).dropCancelled m.job number m.tag := by
  have load : j.work.isLoad = true := by
    unfold Yard.cancelledLoad? at ends
    split at ends
    · next h => rw [h]; rfl
    · cases ends
  unfold damaged
  split
  · next h => rw [h] at load; cases load
  · next h => rw [h] at load; cases load
  · rw [ends]

theorem reported_damaged (e : Env) (a : Act) (m : Move) (j : Job) :
    a.yard.Reported (a.damaged e m j).yard := by
  have held : a.yard.Reported (a.setPackState m.tag .held).yard :=
    .of_settles (free := true) (.pack _ m.tag _)
  unfold damaged
  split
  · exact ((a.reported_leaveSource m).trans (reported_toDoubt _ m.tag)).trans (reported_endOffload _ _ _ _)
  · exact held.trans (.of_settles (settles_endJob (free := true) _ _))
  · split
    · exact held.trans (reported_dropCancelled _ _ _ _)
    · exact .of_settles (a.settles_releaseHeld e m.tag)

end Act

end Sys2Proof.Machine
end

section
/-! SUPPORT. The bed position that a damaged pack leaves (R137) stays vacant through the end of its offload. -/

namespace Sys2Proof.Machine

/-! ### Trucks read after a change -/

/-- What a change of a truck keeps of it reads as before, where the change keeps its number. -/
theorem Yard.truck?_map_modifyTruck {β : Type} (y : Yard) (m : Nat) {f : Truck → Truck}
    (number : ∀ t, (f t).number = t.number) {g : Truck → β} (hg : ∀ t, g (f t) = g t) (n : Nat) :
    ((y.modifyTruck m f).truck? n).map g = (y.truck? n).map g := by
  unfold Yard.modifyTruck
  split
  · next i _ _ =>
    have kept : ∀ en : Nat × Truck, (if en.1 = i then f en.2 else en.2).number = en.2.number :=
      fun en => by split <;> simp [number]
    have read : ∀ en : Nat × Truck, g (if en.1 = i then f en.2 else en.2) = g en.2 :=
      fun en => by split <;> simp [hg]
    simp only [Yard.truck?_eq_find, Table.modify, Table.mapVal, List.map_map, List.find?_map,
      Option.map_map, Function.comp_def, kept, read]
  · rfl

/-- A changed truck, read under its number. -/
theorem Yard.truck?_modifyTruck_same (y : Yard) (n : Nat) {f : Truck → Truck}
    (number : ∀ t, (f t).number = t.number) : (y.modifyTruck n f).truck? n = (y.truck? n).map f := by
  cases h : y.truckNo? n with
  | none =>
    rw [y.modifyTruck_none n f h, Yard.truck?, h]
    rfl
  | some found =>
    rw [Yard.truck?, y.truckNo?_modifyTruck_same n found.1 found.2 f number h, Yard.truck?, h]
    rfl

theorem Truck.modifyLine_number_slots (t : Truck) (line : Nat) (f : OrderLine → OrderLine) :
    (t.modifyLine line f).number = t.number ∧ (t.modifyLine line f).slots = t.slots := by
  unfold Truck.modifyLine
  split <;> exact ⟨rfl, rfl⟩

/-! ### Beds -/

/-- The slots of the truck of a number. -/
def Yard.slots? (y : Yard) (n : Nat) : Option (List Slot) := (y.truck? n).map Truck.slots

theorem Yard.slots?_of_trucks {y z : Yard} (h : z.trucks = y.trucks) (n : Nat) : z.slots? n = y.slots? n := by
  rw [Yard.slots?, Yard.truck?, Yard.truckNo?, h]
  rfl

theorem Yard.slots?_modifyTruck (y : Yard) (m : Nat) {f : Truck → Truck}
    (hf : ∀ t, (f t).number = t.number ∧ (f t).slots = t.slots) (n : Nat) :
    (y.modifyTruck m f).slots? n = y.slots? n :=
  y.truck?_map_modifyTruck m (fun t => (hf t).1) (fun t => (hf t).2) n

theorem Yard.slots?_unassign (y : Yard) (tag n : Nat) : (y.unassign tag).slots? n = y.slots? n := by
  unfold Yard.unassign
  split
  · rfl
  · next asg _ =>
    exact Yard.slots?_modifyTruck _ asg.truck (fun t => t.modifyLine_number_slots asg.line _) n

theorem Yard.slots?_enterLoaded (y : Yard) (m n : Nat) : (y.enterLoaded m).slots? n = y.slots? n := by
  have entered : ((y.modifyTruck m fun t => { t with state := .loaded }).raise .truckLoaded).slots? n
      = y.slots? n :=
    y.slots?_modifyTruck m (f := fun t => { t with state := .loaded }) (fun _ => ⟨rfl, rfl⟩) n
  unfold Yard.enterLoaded
  simp only
  split
  · split
    · exact entered
    · exact entered
  · exact entered

/-- The truck of a number, if there is one, has nothing at a bed position. -/
def Yard.vacantAt (y : Yard) (n : Nat) (b : BedRef) : Prop := ∀ t, y.truck? n = some t → t.pos b = BedPos.vacant

theorem Yard.vacantAt_of_slots {y z : Yard} {n : Nat} {b : BedRef} (h : z.slots? n = y.slots? n)
    (hv : y.vacantAt n b) : z.vacantAt n b := by
  intro t ht
  have slots : y.slots? n = some t.slots := by
    rw [← h, Yard.slots?, ht]
    rfl
  obtain ⟨u, hu, same⟩ := Option.map_eq_some_iff.mp slots
  have : t.pos b = u.pos b := by
    unfold Truck.pos Truck.slot?
    rw [same]
  rw [this, hv u hu]

/-- R57: a vacated bed position is vacant, also where the truck has no such slot. -/
theorem Truck.pos_vacate (t : Truck) (b : BedRef) : (t.vacate b).pos b = BedPos.vacant := by
  unfold Truck.vacate Truck.modifyPos Truck.pos Truck.slot?
  rw [List.getElem?_modify]
  cases t.slots[b.slot]? with
  | none => rfl
  | some sl => cases b.tier <;> simp [Slot.setPos, Slot.pos]

theorem Yard.vacantAt_vacate (y : Yard) (n : Nat) (b : BedRef) :
    (y.modifyTruck n fun t => t.vacate b).vacantAt n b := by
  intro t ht
  rw [Yard.truck?_modifyTruck_same y n (f := fun t => t.vacate b) fun _ => rfl] at ht
  obtain ⟨u, -, rfl⟩ := Option.map_eq_some_iff.mp ht
  exact u.pos_vacate b

theorem Yard.numbered_modifyTruck (y : Yard) (n : Nat) {f : Truck → Truck}
    (number : ∀ t, (f t).number = t.number) : (y.modifyTruck n f).Numbered ↔ y.Numbered := by
  have same : ((y.modifyTruck n f).trucks.entries.map fun en => en.2.number)
      = y.trucks.entries.map fun en => en.2.number := by
    unfold Yard.modifyTruck
    split
    · simp only [Table.modify, Table.mapVal, List.map_map]
      refine List.map_congr_left fun en _ => ?_
      simp only [Function.comp]
      split
      · exact number en.2
      · rfl
    · rfl
  rw [Yard.Numbered, Yard.numbers_docks, same, Yard.Numbered, Yard.numbers_docks]

theorem Yard.Numbered.of_trucks {y z : Yard} (h : y.Numbered) (same : z.trucks = y.trucks) : z.Numbered := by
  rw [Yard.Numbered, Yard.docks, same]
  exact h

/-- R67: the end of unloading takes the only truck of its number from the table. -/
theorem Yard.vacantAt_testUnloaded {y : Yard} (ht : y.Tables) (hn : y.Numbered) {n : Nat} {b : BedRef}
    (hv : y.vacantAt n b) : (y.testUnloaded n).vacantAt n b := by
  have released : (y.releaseLane n).Numbered := by
    unfold Yard.releaseLane
    split
    · exact (y.numbered_modifyTruck n (f := fun t => { t with lane := none }) fun _ => rfl).mpr hn
    · exact hn
  unfold Yard.testUnloaded
  split
  · intro t found
    have none : ((y.releaseLane n).dropTruck n).truck? n = none := by
      have dock := Yard.truck?_dock ((y.releaseLane n).dropTruck n) n
      rw [Yard.docks_dropTruck (ht.releaseLane n).trucks released] at dock
      have : ((y.releaseLane n).docks.filter fun d => d.number != n).find?
          (fun d => decide (d.number = n)) = none := by
        simp
      rw [this] at dock
      exact Option.map_eq_none_iff.mp dock
    rw [show (((y.releaseLane n).dropTruck n).raise .truckRemoved).truck? n
      = ((y.releaseLane n).dropTruck n).truck? n from rfl, none] at found
    cases found
  · exact hv

/-- R137, R153: a bed position that is vacant as an offload ends stays so. -/
theorem Act.vacantAt_endOffload {a : Act} (ht : a.yard.Tables) (hn : a.yard.Numbered) {number : Nat}
    {b : BedRef} (hv : a.yard.vacantAt number b) (n tag : Nat) :
    (a.endOffload n number tag).yard.vacantAt number b := by
  have settles := a.settles_offloaded (free := false) n tag
  have left : (a.offloaded n tag).yard.vacantAt number b := by
    refine Yard.vacantAt_of_slots ?_ hv
    calc (a.offloaded n tag).yard.slots? number
        = ((a.endJob n).yard.unassign tag).slots? number := Yard.slots?_of_trucks rfl number
      _ = (a.endJob n).yard.slots? number := Yard.slots?_unassign _ tag number
      _ = a.yard.slots? number := Yard.slots?_of_trucks (a.endJob_spec n).2.2.1 number
  refine a.endOffload_holds (P := fun z => z.vacantAt number b) n number tag left (fun z g l h => ?_)
    (fun z h => Yard.vacantAt_of_slots (z.slots?_enterLoaded number number) h)
    (Yard.vacantAt_testUnloaded (settles.tables ht) (settles.numbered.mpr hn) left)
  exact Yard.vacantAt_of_slots
    (z.slots?_modifyTruck g (fun t => t.modifyLine_number_slots l _) number) h

end Sys2Proof.Machine
end

section
/-! SUPPORT. FAULT (R137): the end of its move, and the pack's lot by reason and state of the move. -/

namespace Sys2Proof.Machine

/-! ### The yard that a report finds -/

/-- R129: a well-formed answer changes no stack and no truck. -/
theorem Yard.exchangeDone_reads (y : Yard) (now : Nat) (x : Exchange) :
    (y.exchangeDone now x).stack = y.stack ∧ (y.exchangeDone now x).trucks = y.trucks := by
  have taken : ∀ (z : Yard) (msg : LinkMessage), (z.messageTaken x.terminal msg).stack = z.stack
      ∧ (z.messageTaken x.terminal msg).trucks = z.trucks := fun z msg => by
    unfold messageTaken
    split
    · split <;> exact ⟨rfl, rfl⟩
    · exact ⟨rfl, rfl⟩
    · exact ⟨rfl, rfl⟩
  have met : ∀ (z : Yard) (p : Purpose), (z.purposeMet x.terminal p).stack = z.stack
      ∧ (z.purposeMet x.terminal p).trucks = z.trucks := fun z p => by
    cases p <;> exact ⟨rfl, rfl⟩
  exact ⟨(met _ _).1.trans (taken _ _).1, (met _ _).2.trans (taken _ _).2⟩

theorem FaultReason.ofCode?_code (r : FaultReason) : FaultReason.ofCode? r.code = some r := by
  cases r <;> rfl

/-- R129, R137: a FAULT of a move that the addressed terminal holds. -/
theorem State.exec_fault {s : State} {t : Nat} {x : Exchange} {n : Nat} {m : Move}
    (turn : s.inTurn t x) (lo : 1 ≤ n) (hi : n ≤ 65535) (hm : (s.heard x).moveAt? t n = some m)
    (r : FaultReason) : exec (.fault (.clear t) n r.code) s
      = .next (s.settledAs ((s.heard x).act.faulted s.part.env n m r)) := by
  obtain ⟨running, exchange, rfl, purpose, terminal⟩ := turn
  have row : exec (.fault (.clear x.terminal) n r.code) s
      = s.answered (.clear x.terminal) ((FaultReason.ofCode? r.code).map fun r => .fault n r) := rfl
  have formed : (decide (x.terminal ≤ 7) && (Answer.fault n r).wf) = true := by
    simp [Answer.wf, moveInRange, within, terminal, lo, hi]
  have onMove : (s.heard x).act.onMove x.terminal n (fun m => (s.heard x).act.faulted s.part.env n m r)
      = (s.heard x).act.faulted s.part.env n m r := by
    unfold Act.onMove
    rw [Yard.act_yard, hm]
  have answered : s.part.answered x.terminal (.fault n r)
      = { s.part with yard := ((s.heard x).act.faulted s.part.env n m r).finish s.part.env } := by
    unfold Part.answered
    simp only [exchange, if_true]
    unfold Part.exchangeSucceeds Part.enrollEnds
    rw [purpose, ← onMove]
    rfl
  rw [row, FaultReason.ofCode?_code]
  refine (s.ifThen_eq running _ _).trans ?_
  rw [if_pos formed, answered]
  rfl

namespace Act

/-! ### The end of the move -/

/-- R137: the move has ended, with MOVE_FAULT. -/
def moveEnded (a : Act) (n : Nat) : Act := a.on fun y => (y.dropMove n).raise .moveFault

/-- R132: the end of a move leaves stacks, packs, trucks and jobs. -/
theorem moveEnded_reads (a : Act) (n : Nat) :
    (a.moveEnded n).yard.stack = a.yard.stack ∧ (a.moveEnded n).yard.packs = a.yard.packs
      ∧ (a.moveEnded n).yard.trucks = a.yard.trucks ∧ (a.moveEnded n).yard.jobs = a.yard.jobs := by
  obtain ⟨-, stack, packs, trucks, -, jobs, -⟩ := a.yard.dropMove_spec n
  exact ⟨stack, packs, trucks, jobs⟩

theorem job?_moveEnded (a : Act) (n u : Nat) : (a.moveEnded n).yard.job? u = a.yard.job? u := by
  rw [Yard.job?, (a.moveEnded_reads n).2.2.2, Yard.job?]

theorem pack?_moveEnded (a : Act) (n tag : Nat) : (a.moveEnded n).yard.pack? tag = a.yard.pack? tag := by
  rw [Yard.pack?, (a.moveEnded_reads n).2.1, Yard.pack?]

end Act

theorem Yard.cancelledLoad?_congr {y z : Yard} (h : ∀ number, z.truckState? number = y.truckState? number)
    (j : Job) : z.cancelledLoad? j = y.cancelledLoad? j := by
  unfold Yard.cancelledLoad?
  split
  · rw [h]
  · rfl

theorem Yard.truckState?_of_trucks {y z : Yard} (h : z.trucks = y.trucks) (number : Nat) :
    z.truckState? number = y.truckState? number := by
  rw [Yard.truckState?_entries, h, Yard.truckState?_entries]

namespace Act

theorem cancelledLoad?_moveEnded (a : Act) (n : Nat) (j : Job) :
    (a.moveEnded n).yard.cancelledLoad? j = a.yard.cancelledLoad? j :=
  Yard.cancelledLoad?_congr (Yard.truckState?_of_trucks (a.moveEnded_reads n).2.2.1) j

/-- R134: a pack that leaves its source keeps its record but for its place; jobs and truck states stay. -/
theorem leaveSource_reads (a : Act) (m : Move) : (a.leaveSource m).yard.jobs = a.yard.jobs
    ∧ (∀ number, (a.leaveSource m).yard.truckState? number = a.yard.truckState? number)
    ∧ ∀ k, a.yard.pack? m.tag = some k →
      ∃ pl, (a.leaveSource m).yard.pack? m.tag = some { k with place := pl } := by
  unfold leaveSource
  split
  · refine ⟨a.yard.modifyTruck_jobs _ _,
      fun number => a.yard.truckState?_modifyTruck _ (f := fun t => t.vacate _) (fun _ => ⟨rfl, rfl⟩) number,
      fun k hk => ⟨.nowhere, ?_⟩⟩
    refine (Yard.pack?_modifyPack_same _ _ _).trans ?_
    rw [Yard.pack?, Yard.modifyTruck_packs]
    exact congrArg (Option.map _) hk
  · unfold leave
    split
    · refine ⟨rfl, fun _ => rfl, fun k hk => ⟨.nowhere, ?_⟩⟩
      rw [touchBay_yard, on_yard, Yard.pack?_leaveStack_same, hk]
      rfl
    · exact ⟨rfl, fun _ => rfl, fun k hk => ⟨k.place, hk⟩⟩

section
variable {e : Env} {a : Act} {n : Nat} {m : Move} {r : FaultReason} {j : Job} {k : Pack}

/-- R137: what follows the end of the move, by the move's state. -/
theorem faulted_eq (hj : a.yard.job? m.job = some j) : a.faulted e n m r
    = if m.state = .lifted then (a.moveEnded n).lose m.job j else (a.moveEnded n).faultUnlifted e m j r := by
  have found := (a.job?_moveEnded n m.job).trans hj
  unfold faulted
  simp only
  rw [show (a.on fun y => (y.dropMove n).raise .moveFault) = a.moveEnded n from rfl, found]

theorem faulted_unlifted (hj : a.yard.job? m.job = some j) (down : m.state ≠ .lifted) :
    a.faulted e n m r = (a.moveEnded n).faultUnlifted e m j r :=
  (faulted_eq hj).trans (if_neg down)

theorem reported_faultUnlifted (a : Act) (m : Move) (j : Job) (r : FaultReason) :
    a.yard.Reported (a.faultUnlifted e m j r).yard := by
  have lost := (a.reported_leaveSource m).trans (reported_lose _ m.job j)
  cases r with
  | notFound => exact lost
  | lost => exact lost
  | damaged => exact a.reported_damaged e m j
  | declined => exact a.reported_unsend m.job j

/-- R132, R137: a FAULT ends the move and sets MOVE_FAULT. -/
theorem faulted_ends (hj : a.yard.job? m.job = some j) : (a.faulted e n m r).yard.move? n = none
    ∧ holdsFlag (a.faulted e n m r).yard.events .moveFault = true := by
  have reported : (a.moveEnded n).yard.Reported (a.faulted e n m r).yard := by
    rw [faulted_eq hj]
    split
    · exact reported_lose _ m.job j
    · exact reported_faultUnlifted _ m j r
  have ended : (a.moveEnded n).yard.move? n = none := (a.yard.dropMove_spec n).1
  refine ⟨?_, reported.2 _ (holdsFlag_raiseIn_same _ _)⟩
  rw [Yard.move?, reported.1]
  exact ended

/-! ### The pack's lot -/

/-- R31, R66: the loss of a job's pack. -/
theorem lose_leaves (hj : a.yard.job? n = some j) (hk : a.yard.pack? j.tag = some k) :
    holdsFlag (a.lose n j).yard.events .packDoubt = true
      ∧ ((a.lose n j).yard.pack? j.tag).map Pack.state = some .doubt
      ∧ ((a.lose n j).yard.pack? j.tag).map Pack.place = some .nowhere
      ∧ (a.yard.cancelledLoad? j = none → ((a.lose n j).yard.job? n).map Job.state = some .suspended)
      ∧ ((a.yard.cancelledLoad? j).isSome = true → (a.lose n j).yard.job? n = none
        ∧ ((a.lose n j).yard.pack? j.tag).map Pack.assignment = some none
        ∧ ((a.lose n j).yard.pack? j.tag).map Pack.job = some none) := by
  rw [pack?_lose hj hk, job?_lose, if_pos rfl]
  refine ⟨(a.flags_lose n j).2, ?_, ?_, fun kept => ?_, fun ends => ?_⟩
  · split <;> rfl
  · split <;> rfl
  · rw [kept, hj]
    rfl
  · rw [if_pos ends, if_pos ends]
    exact ⟨rfl, rfl, rfl⟩

/-- R137: a pack is lost once lifted, and before that where it is not found or lost. -/
theorem faulted_loses (hj : a.yard.job? m.job = some j) (hk : a.yard.pack? m.tag = some k)
    (h : m.state = .lifted ∨ r = .notFound ∨ r = .lost) :
    ∃ b : Act, a.faulted e n m r = b.lose m.job j ∧ b.yard.job? m.job = some j
      ∧ (∃ k', b.yard.pack? m.tag = some k') ∧ b.yard.cancelledLoad? j = a.yard.cancelledLoad? j := by
  have found := (a.job?_moveEnded n m.job).trans hj
  have there := (a.pack?_moveEnded n m.tag).trans hk
  have cancelled := a.cancelledLoad?_moveEnded n j
  by_cases lifted : m.state = .lifted
  · exact ⟨_, (faulted_eq hj).trans (if_pos lifted), found, ⟨k, there⟩, cancelled⟩
  · obtain ⟨jobs', states, pack⟩ := (a.moveEnded n).leaveSource_reads m
    obtain ⟨pl, hpl⟩ := pack k there
    refine ⟨(a.moveEnded n).leaveSource m, ?_, ?_, ⟨_, hpl⟩,
      (Yard.cancelledLoad?_congr states j).trans cancelled⟩
    · rw [faulted_unlifted hj lifted]
      rcases h.resolve_left lifted with rfl | rfl <;> rfl
    · rw [Yard.job?, jobs']
      exact found

/-- R122, R66: a move that is declined before its lift. -/
theorem faulted_declined (hj : a.yard.job? m.job = some j) (htag : j.tag = m.tag)
    (hk : a.yard.pack? m.tag = some k) (down : m.state ≠ .lifted) :
    (a.faulted e n m .declined).yard.stack = a.yard.stack
      ∧ (a.faulted e n m .declined).yard.pack? m.tag = some (if (a.yard.cancelledLoad? j).isSome
        then { k with state := .free, prior := none, job := none, assignment := none }
        else { k with state := k.prior.getD k.state, prior := none })
      ∧ (a.faulted e n m .declined).yard.job? m.job = if (a.yard.cancelledLoad? j).isSome then none
        else some { j with state := .waiting, bound := none, move := none } := by
  have found := (a.job?_moveEnded n m.job).trans hj
  have there := (a.pack?_moveEnded n j.tag).trans (htag ▸ hk)
  rw [faulted_unlifted hj down, ← a.cancelledLoad?_moveEnded n j, ← htag]
  refine ⟨(congrArg (·.1) (calm_unsend _ m.job j)).trans (a.moveEnded_reads n).1, pack?_unsend found there, ?_⟩
  refine (job?_unsend _ m.job j m.job).trans ((if_pos rfl).trans ?_)
  rw [found]
  rfl

/-- R137: the pack of a CLEAR job is damaged before its lift. -/
theorem faulted_damaged_clear (hj : a.yard.job? m.job = some j) (htag : j.tag = m.tag)
    (hk : a.yard.pack? m.tag = some k) (down : m.state ≠ .lifted) {origin : Nat}
    (clear : j.work = .clear origin) :
    (a.faulted e n m .damaged).yard.stack = a.yard.stack
      ∧ (a.faulted e n m .damaged).yard.job? m.job = none
      ∧ (a.faulted e n m .damaged).yard.pack? m.tag
        = some { k with state := .held, prior := none, job := none } := by
  have found : ((a.moveEnded n).setPackState m.tag .held).yard.job? m.job = some j :=
    (a.job?_moveEnded n m.job).trans hj
  obtain ⟨ended, stack, -⟩ := ((a.moveEnded n).setPackState m.tag .held).endJob_spec m.job
  rw [faulted_unlifted hj down, faultUnlifted, damaged_clear e _ m clear]
  refine ⟨stack.trans (a.moveEnded_reads n).1, ended, ?_⟩
  rw [pack?_endJob found, if_pos htag.symm, setPackState, on_yard, Yard.pack?_modifyPack_same,
    pack?_moveEnded, hk]
  rfl

/-- R137, R66: the pack of a LOAD job is damaged before its lift. -/
theorem faulted_damaged_load (hj : a.yard.job? m.job = some j) (htag : j.tag = m.tag)
    (hk : a.yard.pack? m.tag = some k) (down : m.state ≠ .lifted) (load : j.work.isLoad = true)
    (own : k.job = some m.job) (assigned : k.assignment.isSome = true) :
    (a.faulted e n m .damaged).yard.stack = a.yard.stack
      ∧ (∀ i, (a.faulted e n m .damaged).yard.job? m.job = some i → i.tag ≠ m.tag)
      ∧ (a.faulted e n m .damaged).yard.pack? m.tag
        = some { k with state := .held, prior := none, job := none, assignment := none } := by
  have found := (a.job?_moveEnded n m.job).trans hj
  have there := (a.pack?_moveEnded n m.tag).trans hk
  have stack := (a.moveEnded_reads n).1
  rw [faulted_unlifted hj down, faultUnlifted]
  cases cancelled : (a.moveEnded n).yard.cancelledLoad? j with
  | none =>
    obtain ⟨pack, job⟩ := releaseAssignment_held e there own assigned found htag load
    rw [damaged_load e _ m load cancelled]
    exact ⟨(congrArg (·.1) (settles_releaseHeld e _ m.tag).calm).trans stack, job, pack⟩
  | some number =>
    rw [damaged_cancelled e _ m cancelled]
    refine ⟨(congrArg (·.1) (calm_dropCancelled _ m.job number m.tag)).trans stack, fun i hi => ?_, ?_⟩
    · rw [job?_dropCancelled, if_pos rfl] at hi
      cases hi
    · have kept : ((a.moveEnded n).setPackState m.tag .held).yard.job? m.job = some j := found
      rw [← htag] at there ⊢
      rw [← htag] at kept
      refine (pack?_dropCancelled kept number j.tag).trans ((if_pos rfl).trans ?_)
      rw [setPackState, on_yard, Yard.pack?_modifyPack_same, there]
      rfl

/-- R66, R137: the damaged pack's LOAD job of an UNLOADING truck is deleted. -/
theorem faulted_damaged_cancelled (hj : a.yard.job? m.job = some j) (down : m.state ≠ .lifted)
    (ends : (a.yard.cancelledLoad? j).isSome = true) :
    (a.faulted e n m .damaged).yard.job? m.job = none := by
  obtain ⟨number, cancelled⟩ := Option.isSome_iff_exists.mp ends
  rw [faulted_unlifted hj down, faultUnlifted,
    damaged_cancelled e _ m ((a.cancelledLoad?_moveEnded n j).trans cancelled), job?_dropCancelled, if_pos rfl]

/-- R137, R153: the pack of an OFFLOAD job is damaged before its lift. -/
theorem faulted_damaged_offload (hj : a.yard.job? m.job = some j) (htag : j.tag = m.tag)
    (hk : a.yard.pack? m.tag = some k) (down : m.state ≠ .lifted) {number : Nat} {q : BedRef}
    (offload : j.work = .offload number q) :
    (a.faulted e n m .damaged).yard.job? m.job = none
      ∧ holdsFlag (a.faulted e n m .damaged).yard.events .packDoubt = true
      ∧ (a.faulted e n m .damaged).yard.pack? m.tag
        = some { k with state := .doubt, prior := none, place := .nowhere, job := none,
                        assignment := none, loadedMass := none } := by
  obtain ⟨jobs, -, pack⟩ := (a.moveEnded n).leaveSource_reads m
  obtain ⟨pl, left⟩ := pack k ((a.pack?_moveEnded n m.tag).trans hk)
  have doubt := pack?_toDoubt_same left
  have found : (((a.moveEnded n).leaveSource m).toDoubt m.tag).yard.job? m.job = some j := by
    rw [Yard.job?, toDoubt_jobs, jobs]
    exact (a.job?_moveEnded n m.job).trans hj
  rw [faulted_unlifted hj down, faultUnlifted, damaged_offload e _ m offload]
  exact ⟨job?_endOffload _ m.job number m.tag,
    (reported_endOffload _ m.job number m.tag).2 _ (flags_toDoubt _ m.tag).2,
    pack?_endOffload found htag doubt number⟩

/-- R134: a pack that stands on a bed leaves its position vacant. -/
theorem vacantAt_leaveSource {a : Act} {m : Move} {j : Job} {number l : Nat} {q b : BedRef}
    (hj : a.yard.job? m.job = some j) (offload : j.work = .offload number q) (kind : m.kind = .fromTruck)
    (source : m.source = .bed l b) : (a.leaveSource m).yard.vacantAt number b := by
  have vacated : a.leaveSource m = a.on fun y => (y.modifyTruck number fun t => t.vacate b).modifyPack m.tag
      fun p => { p with place := .nowhere } := by
    obtain ⟨work, tag, state, bound, move⟩ := j
    cases offload
    unfold leaveSource
    rw [kind, source, hj]
  rw [vacated]
  exact Yard.vacantAt_of_slots (Yard.slots?_of_trucks rfl number) (a.yard.vacantAt_vacate number b)

theorem numbered_leaveSource {a : Act} (h : a.yard.Numbered) (m : Move) : (a.leaveSource m).yard.Numbered := by
  unfold leaveSource
  split
  · exact (a.yard.numbered_modifyTruck _ (f := fun t => t.vacate _) fun _ => rfl).mpr h
  · unfold leave
    split <;> exact h

/-- R137: the bed position of the damaged pack is vacant at the end. -/
theorem faulted_damaged_vacates (hj : a.yard.job? m.job = some j) (down : m.state ≠ .lifted)
    {number l : Nat} {q b : BedRef} (offload : j.work = .offload number q) (kind : m.kind = .fromTruck)
    (source : m.source = .bed l b) (ht : a.yard.Tables) (hn : a.yard.Numbered) :
    (a.faulted e n m .damaged).yard.vacantAt number b := by
  have found := (a.job?_moveEnded n m.job).trans hj
  have vacant := vacantAt_leaveSource found offload kind source
  have trucks := toDoubt_trucks ((a.moveEnded n).leaveSource m) m.tag
  have tables : (((a.moveEnded n).leaveSource m).toDoubt m.tag).yard.Tables :=
    (keeps_toDoubt _ m.tag).tables ((keeps_leaveSource _ m).tables
      (((a.yard.keeps_dropMove n).trans (Yard.keeps_raise _ .moveFault)).tables ht))
  rw [faulted_unlifted hj down, faultUnlifted, damaged_offload e _ m offload]
  exact vacantAt_endOffload tables
    ((numbered_leaveSource (hn.of_trucks (a.moveEnded_reads n).2.2.1) m).of_trucks trucks)
    (Yard.vacantAt_of_slots (Yard.slots?_of_trucks trucks number) vacant) m.job m.tag

end

end Act

/-- Settles O54: the report finds the tables as they were (`Yard.exchangeDone_reads`), and each clause is the
lot of the pack by reason and state of the move. -/
theorem faultReport : Obligations.FaultReport := by
  intro s t x n m r j k turn lo hi hm hj htag hk
  obtain ⟨stack, trucks⟩ := s.part.yard.exchangeDone_reads s.part.clock x
  refine ⟨_, s.exec_fault turn lo hi hm r, (Act.faulted_ends hj).1, (Act.faulted_ends hj).2,
    fun lost => ?_, fun down hr kept => ?_, fun down hr origin clear => ?_, fun down hr ends => ?_,
    fun down hr load own assigned => ?_, fun down hr ends => ?_, fun down hr number q offload => ?_⟩
  · obtain ⟨b, same, found, ⟨k', there⟩, cancelled⟩ :=
      Act.faulted_loses (a := (s.heard x).act) (e := s.part.env) (n := n) hj hk lost
    rw [Yard.act_yard] at cancelled
    rw [same, ← htag, ← cancelled]
    exact Act.lose_leaves found (htag ▸ there)
  · subst hr
    obtain ⟨stays, pack, job⟩ :=
      Act.faulted_declined (a := (s.heard x).act) (e := s.part.env) (n := n) hj htag hk down
    rw [Yard.act_yard, kept] at pack job
    exact ⟨stays.trans stack, pack, job⟩
  · subst hr
    obtain ⟨stays, job, pack⟩ :=
      Act.faulted_damaged_clear (a := (s.heard x).act) (e := s.part.env) (n := n) hj htag hk down clear
    exact ⟨stays.trans stack, job, pack⟩
  · subst hr
    obtain ⟨stays, pack, job⟩ :=
      Act.faulted_declined (a := (s.heard x).act) (e := s.part.env) (n := n) hj htag hk down
    rw [Yard.act_yard, if_pos ends] at pack job
    exact ⟨stays.trans stack, job, pack⟩
  · subst hr
    obtain ⟨stays, job, pack⟩ := Act.faulted_damaged_load (a := (s.heard x).act) (e := s.part.env)
      (n := n) hj htag hk down load own assigned
    exact ⟨stays.trans stack, job, pack⟩
  · subst hr
    exact Act.faulted_damaged_cancelled hj down ends
  · subst hr
    obtain ⟨job, flag, pack⟩ :=
      Act.faulted_damaged_offload (a := (s.heard x).act) (e := s.part.env) (n := n) hj htag hk down offload
    refine ⟨job, flag, pack, fun tables lanes l b t2 kind source ht2 => ?_⟩
    have numbered : s.part.yard.Numbered := (s.part.lanes_iff.mp lanes).1.numbered
    exact Act.faulted_damaged_vacates (a := (s.heard x).act) hj down offload kind source
      ((s.part.yard.keeps_exchangeDone s.part.clock x).tables tables) (numbered.of_trucks trucks) t2 ht2

end Sys2Proof.Machine
end

section
/-! SUPPORT. The estimated mass (R38): its rounding and its bounds (O56). -/

namespace Sys2Proof.Machine

/-- A quotient rounded half up is the one whole number within one half of it, the half below included
(00_scope, Rounding). -/
theorem roundDiv_spec (a : Nat) {b : Nat} (hb : 0 < b) :
    2 * roundDiv a b * b ≤ 2 * a + b ∧ 2 * a + b < 2 * (roundDiv a b + 1) * b := by
  have quotient : roundDiv a b * (2 * b) ≤ 2 * a + b := Nat.div_mul_le_self _ _
  have next : 2 * a + b < roundDiv a b * (2 * b) + 2 * b := Nat.lt_div_mul_add (by omega)
  constructor <;> linarith

/-- R38, R40, R41, R44: the product that M0 is formed from, for a pack and settings in their ranges. -/
theorem woodProduct_bounds {v d tr mc : Nat} (hv : 100 ≤ v) (hv' : v ≤ 9999) (hd : 250 ≤ d)
    (hd' : d ≤ 900) (ht : 850 ≤ tr) (ht' : tr ≤ 1150) (hm : 6 ≤ mc)
    (hm' : mc ≤ 80) :
    2252500000 ≤ v * d * tr * (100 + mc) ∧ v * d * tr * (100 + mc) ≤ 1862813700000 := by
  constructor
  · calc 2252500000 = 100 * 250 * 850 * (100 + 6) := by norm_num
      _ ≤ v * d * tr * (100 + mc) := by gcongr
  · calc v * d * tr * (100 + mc) ≤ 9999 * 900 * 1150 * (100 + 80) := by gcongr
      _ = 1862813700000 := by norm_num

/-- Settles O56: M0 and Sw are rounded quotients (`roundDiv_spec`), and a bound of a product bounds them. -/
theorem estimateBounds : Obligations.EstimateBounds := by
  refine ⟨fun e p d tr hd htr hv hv' hd1 hd2 ht1 ht2 hm hm' water cap => ?_, by decide, by decide⟩
  subst hd htr
  obtain ⟨low, high⟩ := woodProduct_bounds hv hv' hd1 hd2 ht1 ht2 hm hm'
  obtain ⟨m1, m2⟩ := roundDiv_spec
    (p.volume * e.settings.density p.species * trimOf e.trims p.species * (100 + p.moisture))
    (b := 100000000) (by norm_num)
  obtain ⟨s1, s2⟩ := roundDiv_spec p.water (b := 1000) (by norm_num)
  refine ⟨woodMass p.volume (e.settings.density p.species) (trimOf e.trims p.species) p.moisture,
    waterMass p.water, rfl, m1, m2, s1, s2, high, ?_⟩
  simp only [Env.estimate, woodMass, waterMass]
  generalize p.volume * e.settings.density p.species * trimOf e.trims p.species * (100 + p.moisture) = w at *
  omega

end Sys2Proof.Machine
end

section
/-! SUPPORT. SET SPECIES (R42, R174) and SET WEATHER (R46, R52, R54): the requests that write what the
estimated mass and the weather unit read (O17, O18). -/

namespace Sys2Proof.Machine

/-! ### SET SPECIES (R42) -/

/-- R42: the operands that SET SPECIES refuses are those that its rule puts out of range. -/
theorem speciesNamed_iff (species density trim : Nat) : speciesNamed species density trim ↔
    species ≤ 7 ∧ densityInRange density = true ∧ (keepTrim trim = true ∨ trimInRange trim = true) := by
  simp only [densityInRange, trimInRange, keepTrim, within, Bool.and_eq_true, decide_eq_true_eq, beq_iff_eq,
    and_assoc]

/-- Settles O17: the range test is the statement's (`speciesNamed_iff`), and KEEP is the trim 0. -/
theorem setSpeciesWrites : Obligations.SetSpeciesWrites := by
  intro h sp d t s taken
  have busy : s.part.storeBusy = true ↔ ¬ s.storeIdle := s.part.storeBusy_iff
  have answers : ∀ {p : Part} {res : Result}, s.part.setSpecies sp d t = (p, .reply res []) →
      exec (.setSpecies h sp d t) s = .next (s.replied h 0x03#8 res [] p) :=
    fun hp => State.request_replied taken h (r := .setSpecies sp d t) hp
  refine ⟨fun named idle => answers ?_, fun out => answers ?_, fun named flying => answers ?_⟩
  · unfold Part.setSpecies
    rw [if_neg (not_not_intro ((speciesNamed_iff sp d t).mp named)), if_neg fun b => busy.mp b idle]
    simp only [keepTrim, beq_iff_eq]
    rfl
  · unfold Part.setSpecies
    rw [if_pos fun ok => out ((speciesNamed_iff sp d t).mpr ok)]
    rfl
  · unfold Part.setSpecies
    rw [if_neg (not_not_intro ((speciesNamed_iff sp d t).mp named)), if_pos (busy.mpr flying)]
    rfl

/-! ### SET WEATHER (R46) -/

theorem RainEdge.ofCode?_iff (n : Nat) (e : RainEdge) : RainEdge.ofCode? n = some e ↔ n = e.code := by
  unfold RainEdge.ofCode?
  split <;> cases e <;> simp_all [RainEdge.code]

/-- R45: the ranges of the weather settings, setting by setting. -/
theorem WeatherSettings.inRange_iff (w : WeatherSettings) : w.inRange = true ↔
    (w.prescale = 1 ∨ w.prescale = 2 ∨ w.prescale = 4 ∨ w.prescale = 8) ∧ 1 ≤ w.depth ∧ w.depth ≤ 20
    ∧ w.retention ≤ 100 ∧ w.capKg ≤ 200 ∧ (w.interval = 0 ∨ (10 ≤ w.interval ∧ w.interval ≤ 240))
    ∧ 1 ≤ w.percent ∧ w.percent ≤ 50 := by
  simp [WeatherSettings.inRange, within, and_assoc]

/-- R46: SET WEATHER reads the settings that its operands name. -/
theorem weatherOf?_iff (a : WeatherArgs) (w : WeatherSettings) :
    weatherOf? a = some w ↔ weatherNamed a w := by
  have fields : weatherOf? a = some w ↔ RainEdge.ofCode? a.edge = some w.edge ∧ a.prescale = w.prescale
      ∧ a.depth = w.depth ∧ a.retention = w.retention ∧ a.capKg = w.capKg ∧ a.interval = w.interval
      ∧ a.percent = w.percent ∧ w.inRange = true := by
    unfold weatherOf?
    split
    · next edge hedge =>
      rw [hedge]
      obtain ⟨edge', prescale, depth, retention, capKg, interval, percent⟩ := w
      simp only [Option.ite_none_right_eq_some, Option.some.injEq, WeatherSettings.mk.injEq]
      constructor
      · rintro ⟨ok, rfl, rfl, rfl, rfl, rfl, rfl, rfl⟩
        exact ⟨rfl, rfl, rfl, rfl, rfl, rfl, rfl, ok⟩
      · rintro ⟨rfl, rfl, rfl, rfl, rfl, rfl, rfl, ok⟩
        exact ⟨ok, rfl, rfl, rfl, rfl, rfl, rfl, rfl⟩
    · next none => simp [none]
  rw [fields, RainEdge.ofCode?_iff, WeatherSettings.inRange_iff]

/-- R54: a clamp holds the surface water of every pack at the cap. -/
theorem Yard.pack?_clampWater (y : Yard) (capKg tag : Nat) : (y.clampWater capKg).pack? tag
    = (y.pack? tag).map fun k => { k with water := min k.water (capKg * 1000) } :=
  Table.get?_mapVal ..

/-- Settles O18: the operands name settings exactly when SET WEATHER reads them (`weatherOf?_iff`). -/
theorem setWeatherWrites : Obligations.SetWeatherWrites := by
  intro h a s taken
  have busy : s.part.storeBusy = true ↔ ¬ s.storeIdle := s.part.storeBusy_iff
  have answers : ∀ {p : Part} {res : Result}, s.part.setWeatherRequest a = (p, .reply res []) →
      exec (.setWeather h a) s = .next (s.replied h 0x04#8 res [] p) :=
    fun hp => State.request_replied taken h (r := .setWeather a) hp
  refine ⟨fun w hw idle => ?_, fun out => answers ?_, fun ⟨w, hw⟩ flying => answers ?_⟩
  · have written : s.part.setWeatherRequest a = (s.part.setWeather w, .ok []) := by
      unfold Part.setWeatherRequest
      rw [(weatherOf?_iff a w).mpr hw]
      exact if_neg fun b => busy.mp b idle
    by_cases lower : w.capKg < s.part.settings.weather.capKg
    · refine ⟨s.part.yard.clampWater w.capKg, (answers written).trans ?_, fun tag => ?_⟩
      · rw [Part.setWeather, if_pos lower]
        rfl
      · simp only [if_pos lower]
        exact Yard.pack?_clampWater ..
    · refine ⟨s.part.yard, (answers written).trans ?_, fun tag => ?_⟩
      · rw [Part.setWeather, if_neg lower]
        rfl
      · simp only [if_neg lower, Option.map_id']
  · have unread : weatherOf? a = none :=
      Option.eq_none_iff_forall_ne_some.mpr fun w hw => out ⟨w, (weatherOf?_iff a w).mp hw⟩
    unfold Part.setWeatherRequest
    rw [unread]
    rfl
  · unfold Part.setWeatherRequest
    rw [(weatherOf?_iff a w).mpr hw]
    exact if_pos (busy.mpr flying)

end Sys2Proof.Machine
end

section
/-! SUPPORT. The rows of rain and drying (R47 to R53): what each does, and that it changes surface water and the
weather unit alone (O14, O44). -/

namespace Sys2Proof.Machine

/-! ### A row that waits for its occasion -/

theorem State.ifThen_holds {s : State} (running : s.part.running = true) {test : Part → Bool}
    (h : test s.part = true) (f : Part → Part) : s.ifThen test f = .next (s.withPart (f s.part)) :=
  (s.ifThen_eq running test f).trans (by rw [if_pos h])

theorem State.ifThen_idle {s : State} (running : s.part.running = true) {test : Part → Bool}
    (h : test s.part = false) (f : Part → Part) : s.ifThen test f = .next s := by
  refine (s.ifThen_eq running test f).trans ?_
  rw [if_neg (by simp [h])]
  rfl

theorem State.ifThen_cases {s t : State} {test : Part → Bool} {f : Part → Part}
    (h : s.ifThen test f = .next t) : t = s ∨ t = s.withPart (f s.part) := by
  have next : t = s.withPart (s.part.whileRunning fun p => if test p then f p else p) :=
    (Host.Outcome.next.inj h).symm
  rw [next, Part.whileRunning]
  split
  · split
    · exact .inr rfl
    · exact .inl rfl
  · exact .inl rfl

/-! ### Packs in the weather -/

/-- R49: a rain step wets the exposed packs. -/
theorem Yard.pack?_rain (s : Settings) (y : Yard) (tag : Nat) : (y.rain s).pack? tag
    = (y.pack? tag).map fun k => if y.exposed s tag k then
          { k with
            water := min (k.water + k.footprint * s.weather.depth * s.weather.retention / 100)
              (s.weather.capKg * 1000) }
        else k :=
  Table.get?_mapVal ..

/-- R53: a standing pack with surface water loses some; a dry one has nothing to lose. -/
theorem Pack.dried_eq (percent : Nat) (k : Pack) :
    (if k.standing then { k with water := dryWater percent k.water } else k)
      = if k.standing ∧ 0 < k.water then { k with water := k.water - max 1 (k.water * percent / 100) }
        else k := by
  by_cases stands : k.standing = true
  · rcases Nat.eq_zero_or_pos k.water with dry | wet
    · have same : { k with water := 0 } = k := by rw [← dry]
      rw [if_pos stands, if_neg fun h => h.2.ne' dry, dryWater, if_pos dry, same]
    · rw [if_pos stands, if_pos ⟨stands, wet⟩, dryWater, if_neg (Nat.pos_iff_ne_zero.mp wet)]
  · rw [if_neg stands, if_neg fun h => stands h.1]

/-- R53: a drying expiry dries every pack that stands in a stack. -/
theorem Yard.pack?_dry (s : Settings) (y : Yard) (tag : Nat) : (y.dry s).pack? tag
    = (y.pack? tag).map fun k => if k.standing ∧ 0 < k.water then
        { k with water := k.water - max 1 (k.water * s.weather.percent / 100) }
      else k := by
  rw [← funext (Pack.dried_eq s.weather.percent)]
  exact Table.get?_mapVal ..

/-! ### What rain and drying leave (O14) -/

/-- Only the weather unit and the pack table differ, and of each pack record at most the surface water. -/
def Part.OnlyWater (p q : Part) : Prop :=
  q = { p with yard := { p.yard with packs := q.yard.packs }, weather := q.weather }
    ∧ ∀ tag : Nat, (q.yard.pack? tag).map (fun k => { k with water := 0 })
        = (p.yard.pack? tag).map fun k => { k with water := 0 }

/-- Each record keeps all but its surface water, where every one of the table does. -/
theorem Option.map_dry_map {o : Option Pack} {f : Pack → Pack}
    (h : ∀ k, { f k with water := 0 } = { k with water := 0 }) :
    (o.map f).map (fun k => { k with water := 0 }) = o.map fun k => { k with water := 0 } := by
  rw [Option.map_map]
  exact congrArg (Option.map · o) (funext h)

namespace Part.OnlyWater

theorem refl (p : Part) : p.OnlyWater p := ⟨rfl, fun _ => rfl⟩

theorem dryingExpiry (p : Part) : p.OnlyWater p.dryingExpiry := by
  refine ⟨rfl, fun tag => ?_⟩
  show ((p.yard.dry p.settings).pack? tag).map _ = _
  rw [Yard.pack?_dry]
  refine Option.map_dry_map fun k => ?_
  split <;> rfl

theorem rainPulse (p : Part) : p.OnlyWater p.rainPulse := by
  unfold Part.rainPulse
  simp only
  split
  · refine ⟨rfl, fun tag => ?_⟩
    show ((p.yard.rain p.settings).pack? tag).map _ = _
    rw [Yard.pack?_rain]
    refine Option.map_dry_map fun k => ?_
    split <;> rfl
  · exact ⟨rfl, fun _ => rfl⟩

theorem rainOtherEdge (p : Part) : p.OnlyWater p.rainOtherEdge := ⟨rfl, fun _ => rfl⟩

/-- A row that does nothing without its occasion keeps the relation where its work does. -/
theorem of_row {s t : State} {test : Part → Bool} {f : Part → Part} (h : s.ifThen test f = .next t)
    (hf : s.part.OnlyWater (f s.part)) : s.part.OnlyWater t.part ∧ t = s.withPart t.part := by
  rcases State.ifThen_cases h with rfl | rfl
  · exact ⟨refl _, rfl⟩
  · exact ⟨hf, rfl⟩

end Part.OnlyWater

/-- Settles O14: each of the four rows is a row that waits for its occasion (`Part.OnlyWater.of_row`). -/
theorem weatherRowsFrame : Obligations.WeatherRowsFrame := by
  intro c s t weather next
  have only : s.part.OnlyWater t.part ∧ t = s.withPart t.part := by
    cases c with
    | rainPulse => exact Part.OnlyWater.of_row next (.rainPulse s.part)
    | rainStep => exact Part.OnlyWater.of_row next (.rainPulse s.part)
    | rainOtherEdge => exact Part.OnlyWater.of_row next (.rainOtherEdge s.part)
    | dryingExpiry => exact Part.OnlyWater.of_row next (.dryingExpiry s.part)
    | _ => cases weather
  obtain ⟨⟨part, packs⟩, state⟩ := only
  exact ⟨state.trans (congrArg s.withPart part), packs⟩

/-! ### RAIN (R47 to R49) -/

/-- R47: the level of the selected edge. -/
theorem RainEdge.target_eq (e : RainEdge) : e.target = decide (e = .rising) := by cases e <;> rfl

theorem Part.pulseComes_iff {p : Part} (running : p.running = true) :
    p.pulseComes = true ↔ p.weather.rainLevel ≠ decide (p.settings.weather.edge = .rising) := by
  simp [Part.pulseComes, running, RainEdge.target_eq]

/-- R48: a pulse below the prescale is counted. -/
theorem Part.rainPulse_below {p : Part}
    (h : p.weather.prescaleCount + 1 < p.settings.weather.prescale) :
    p.rainPulse = { p with weather := { p.weather with
      rainLevel := decide (p.settings.weather.edge = .rising)
      prescaleCount := p.weather.prescaleCount + 1 } } := by
  rw [Part.rainPulse, if_neg (Nat.not_le.mpr h), RainEdge.target_eq]

/-- R48, R49: a pulse with which the count reaches the prescale is a rain step. -/
theorem Part.rainPulse_reaches {p : Part}
    (h : p.settings.weather.prescale ≤ p.weather.prescaleCount + 1) :
    p.rainPulse = { p with
      yard := p.yard.rain p.settings
      weather :=
        { rainLevel := decide (p.settings.weather.edge = .rising)
          prescaleCount := 0
          deadline := dryingFrom p.settings.weather p.clock } } := by
  rw [Part.rainPulse, if_pos h, RainEdge.target_eq]
  rfl

/-- Settles O44: by the level of RAIN, and of a pulse by whether the count reaches the prescale. -/
theorem rainRows : Obligations.RainRows := by
  intro s running
  have comes := Part.pulseComes_iff running
  refine ⟨fun off => ⟨fun below => ⟨?_, ?_⟩, fun reaches => ?_, ?_⟩, fun on => ⟨?_, ?_, ?_⟩⟩
  · refine (State.ifThen_holds running (comes.mpr off) Part.rainPulse).trans ?_
    rw [Part.rainPulse_below below]
  · refine State.ifThen_idle running ?_ Part.rainPulse
    simp [Nat.not_le.mpr below]
  · refine ⟨_, s.part.yard.rain s.part.settings, rfl,
      (State.ifThen_holds running (comes.mpr off) Part.rainPulse).trans ?_,
      (State.ifThen_holds running ?_ Part.rainPulse).trans ?_, fun tag => Yard.pack?_rain ..⟩
    · rw [Part.rainPulse_reaches reaches]
      rfl
    · rw [comes.mpr off, decide_eq_true reaches]
      rfl
    · rw [Part.rainPulse_reaches reaches]
      rfl
  · refine State.ifThen_idle running ?_ Part.rainOtherEdge
    rw [RainEdge.target_eq]
    exact beq_eq_false_iff_ne.mpr off
  · exact State.ifThen_idle running (Bool.eq_false_iff.mpr fun h => comes.mp h on) Part.rainPulse
  · refine State.ifThen_idle running ?_ Part.rainPulse
    rw [Bool.eq_false_iff.mpr fun h => comes.mp h on]
    rfl
  · refine (State.ifThen_holds running ?_ Part.rainOtherEdge).trans ?_
    · rw [RainEdge.target_eq]
      exact beq_iff_eq.mpr on
    · rw [Part.rainOtherEdge, RainEdge.target_eq]

end Sys2Proof.Machine
end

section
/-! SUPPORT. The deadlines of the clock (R53, R74, R86, R147): each expires once, and the truck whose stock wait
ends is placed (O43). -/

namespace Sys2Proof.Machine

/-! ### What the job list leaves of the trucks -/

theorem Yard.truck?_of_trucks {y z : Yard} (h : z.trucks = y.trucks) (n : Nat) : z.truck? n = y.truck? n := by
  rw [Yard.truck?_eq_find, h, Yard.truck?_eq_find]

theorem Act.newJob_trucks (a : Act) (w : JobWork) (tag : Nat) :
    (a.newJob w tag).yard.trucks = a.yard.trucks := by
  unfold Act.newJob
  split <;> rfl

theorem Act.clearBay_trucks (a : Act) (b : Nat) : (a.clearBay b).yard.trucks = a.yard.trucks :=
  List.foldlRecOn (motive := fun c : Act => c.yard.trucks = a.yard.trucks) _ _ rfl fun c hc tag _ => by
    split
    · exact (c.newJob_trucks _ tag).trans hc
    · exact hc

/-- R110: the clearance rule changes no truck. -/
theorem Act.clearDue_trucks (a : Act) : a.clearDue.yard.trucks = a.yard.trucks :=
  List.foldlRecOn (motive := fun c : Act => c.yard.trucks = a.yard.trucks) _ _ rfl fun c hc b _ =>
    (c.clearBay_trucks b).trans hc

theorem Yard.judge_trucks (e : Env) (y : Yard) (n : Nat) : (y.judge e n).trucks = y.trucks := by
  have ready : ∀ j st bound, (y.makeReady e n j st bound).trucks = y.trucks := fun j st bound => by
    unfold Yard.makeReady
    simp only
    split <;> rfl
  unfold Yard.judge
  split
  · rfl
  · split
    · split
      · exact ready _ _ _
      · exact ready _ _ _
      · split <;> rfl
    · rfl

/-- R114: a judgement of the jobs changes no truck. -/
theorem Yard.judgeAll_trucks (e : Env) (y : Yard) : (y.judgeAll e).trucks = y.trucks :=
  List.foldlRecOn (motive := fun z : Yard => z.trucks = y.trucks) _ _ rfl fun z hz n _ =>
    (z.judge_trucks e n).trans hz

/-! ### The deadline of a truck through its placement -/

/-- The stock-wait deadline of the truck of a number. -/
def Yard.waitOf? (y : Yard) (n : Nat) : Option (Option Nat) := (y.truck? n).map Truck.deadline

theorem Yard.waitOf?_modifyTruck (y : Yard) (m : Nat) {f : Truck → Truck}
    (number : ∀ t, (f t).number = t.number) (deadline : ∀ t, (f t).deadline = t.deadline) (n : Nat) :
    (y.modifyTruck m f).waitOf? n = y.waitOf? n :=
  y.truck?_map_modifyTruck m number deadline n

theorem Truck.deadline_modifyLine (t : Truck) (line : Nat) (f : OrderLine → OrderLine) :
    (t.modifyLine line f).deadline = t.deadline := by
  unfold Truck.modifyLine
  split <;> rfl

theorem Truck.deadline_planEntries (es : List Entry) (t : Truck) :
    (es.foldl Truck.planEntry t.emptyBed).deadline = t.deadline :=
  List.foldlRecOn (motive := fun u : Truck => u.deadline = t.deadline) es Truck.planEntry rfl
    fun _ hu _ _ => hu

theorem Yard.waitOf?_modifyLine (y : Yard) (m line : Nat) (f : OrderLine → OrderLine) (n : Nat) :
    (y.modifyTruck m fun t => t.modifyLine line f).waitOf? n = y.waitOf? n :=
  y.waitOf?_modifyTruck m (fun t => (t.modifyLine_number_slots line f).1)
    (fun t => t.deadline_modifyLine line f) n

theorem Yard.waitOf?_unassign (y : Yard) (tag n : Nat) : (y.unassign tag).waitOf? n = y.waitOf? n := by
  unfold Yard.unassign
  split
  · rfl
  · exact Yard.waitOf?_modifyLine (y.modifyPack tag fun p => { p with assignment := none }) _ _ _ n

theorem Act.waitOf?_releaseForWeight (a : Act) (tag n : Nat) :
    (a.releaseForWeight tag).yard.waitOf? n = a.yard.waitOf? n := by
  unfold Act.releaseForWeight
  split
  · rfl
  · next asg _ =>
    exact (Yard.waitOf?_modifyLine (a.yard.unassign tag) asg.truck asg.line _ n).trans
      (a.yard.waitOf?_unassign tag n)

theorem Act.waitOf?_planned (a : Act) (number : Nat) (kept : List Entry) (n : Nat) :
    (a.planned number kept).yard.waitOf? n = a.yard.waitOf? n := by
  refine List.foldlRecOn (motive := fun c : Act => c.yard.waitOf? n = a.yard.waitOf? n) _ _ ?_
    fun c hc en _ => by rw [Act.touchBayOf_yard]; exact hc
  refine List.foldlRecOn (motive := fun c : Act => c.yard.waitOf? n = a.yard.waitOf? n) _ _ ?_
    fun c hc en _ => (congrArg (Option.map _) (Yard.truck?_of_trucks (c.newJob_trucks _ en.tag) n)).trans hc
  refine a.yard.waitOf?_modifyTruck number (fun t => ?_) (fun t => Truck.deadline_planEntries kept t) n
  exact congrArg Dock.number (Truck.dock_planEntries kept t.emptyBed)

/-! ### The state of a truck after its placement -/

/-- R61: the truck that enters LOADED keeps all but its state. -/
theorem Yard.truck?_enterLoaded (y : Yard) (n : Nat) :
    (y.enterLoaded n).truck? n = (y.truck? n).map fun t => { t with state := .loaded } := by
  rw [← y.truck?_modifyTruck_same n (f := fun t => { t with state := .loaded }) fun _ => rfl]
  unfold Yard.enterLoaded
  simp only
  split
  · split <;> rfl
  · rfl

/-- R104: the truck whose plan is written is LOADING, or LOADED, with its deadline as it was. -/
theorem Act.truck?_writePlan {a : Act} {n : Nat} {d : Option Nat} (h : a.yard.waitOf? n = some d)
    (kept : List Entry) : ∃ t, (a.writePlan n kept).yard.truck? n = some t ∧ t.deadline = d
      ∧ (t.state = .loading ∨ t.state = .loaded) := by
  obtain ⟨u, planned, rfl⟩ := Option.map_eq_some_iff.mp ((a.waitOf?_planned n kept n).trans h)
  rw [Act.writePlan_eq, Yard.truck?_of_trucks (Act.clearDue_trucks _)]
  split
  · refine ⟨{ u with state := .loaded }, ?_, rfl, .inr rfl⟩
    rw [Act.on_yard, Yard.truck?_enterLoaded, planned]
    rfl
  · refine ⟨{ u with state := .loading }, ?_, rfl, .inl rfl⟩
    rw [Act.on_yard, Yard.truck?_modifyTruck_same _ n (f := fun t => { t with state := .loading }) fun _ => rfl,
      planned]
    rfl

/-- R93, R104: a placed truck is LOADING or LOADED, with its deadline as it was. -/
theorem Act.truck?_place (e : Env) {a : Act} {n : Nat} {d : Option Nat} (h : a.yard.waitOf? n = some d) :
    ∃ t, (a.place e n).yard.truck? n = some t ∧ t.deadline = d
      ∧ (t.state = .loading ∨ t.state = .loaded) := by
  obtain ⟨u, there, -⟩ := Option.map_eq_some_iff.mp h
  unfold Act.place
  rw [there]
  simp only
  rw [Act.on_yard, Yard.truck?_of_trucks (Yard.judgeAll_trucks e _)]
  refine Act.truck?_writePlan ?_ _
  exact List.foldlRecOn (motive := fun c : Act => c.yard.waitOf? n = some d) _ _ h fun c hc tag _ =>
    (c.waitOf?_releaseForWeight tag n).trans hc

/-- R86: a truck whose stock wait ends has no deadline and is LOADING or LOADED. -/
theorem Act.truck?_endStockWait (e : Env) {a : Act} {n : Nat} (h : (a.yard.truck? n).isSome = true) :
    ∃ t, (a.endStockWait e n).yard.truck? n = some t ∧ t.deadline = none
      ∧ (t.state = .loading ∨ t.state = .loaded) := by
  obtain ⟨t, there⟩ := Option.isSome_iff_exists.mp h
  refine Act.truck?_place e (a := a.on fun y => y.modifyTruck n fun t => { t with deadline := none }) ?_
  rw [Act.on_yard, Yard.waitOf?,
    Yard.truck?_modifyTruck_same _ n (f := fun t => { t with deadline := none }) fun _ => rfl, there]
  rfl

/-- R74: a truck whose stock wait has expired is in the table. -/
theorem Yard.expiredWait_truck {y : Yard} {now n : Nat} (h : y.expiredWait now = some n) :
    (y.truck? n).isSome = true := by
  obtain ⟨en, found, rfl⟩ := Option.map_eq_some_iff.mp h
  obtain ⟨member, -⟩ := Yard.waitingTrucks_spec (List.mem_of_find?_eq_some found)
  rw [Yard.truck?_eq_find, List.find?_isSome]
  exact ⟨en.2, List.mem_map_of_mem member, decide_eq_true rfl⟩

/-! ### The rows -/

theorem State.whileRunning_eq {s : State} (running : s.part.running = true) (f : Part → Part) :
    s.whileRunning f = .next (s.withPart (f s.part)) := by
  show Host.Outcome.next (s.withPart (s.part.whileRunning f)) = _
  rw [Part.whileRunning, if_pos running]

/-- R86: the row of an expired stock wait is the act that places its truck. -/
theorem State.exec_stockWaitExpiry {s : State} (running : s.part.running = true) {n : Nat}
    (h : s.part.yard.expiredWait s.part.clock = some n) :
    exec .stockWaitExpiry s = .next (s.settledAs (s.part.yard.act.endStockWait s.part.env n)) := by
  refine (State.whileRunning_eq running _).trans ?_
  rw [h]
  rfl

/-- Settles O43: drying and weighing are rows that wait for their deadline; a stock wait is an act that leaves
all that Yard.still keeps. -/
theorem expiries : Obligations.Expiries := by
  intro s running
  refine ⟨fun reached => ⟨s.part.yard.dry s.part.settings, ?_, fun tag => Yard.pack?_dry ..⟩,
    fun ahead => State.ifThen_idle running ahead Part.dryingExpiry, fun n expired => ⟨?_, ?_, ?_⟩,
    fun none => ?_, fun a armed reached => ?_, fun ahead => ?_⟩
  · exact State.ifThen_holds running reached Part.dryingExpiry
  · exact State.exec_stockWaitExpiry running expired
  · exact (Act.still_finish _ _).trans (Act.still_endStockWait ..)
  · exact Act.truck?_endStockWait _ (Yard.expiredWait_truck expired)
  · refine (State.whileRunning_eq running _).trans ?_
    rw [none]
    rfl
  · refine State.ifThen_holds running ?_ Part.weighExpiry
    rw [armed]
    exact decide_eq_true reached
  · refine State.ifThen_idle running ?_ Part.weighExpiry
    cases armed : s.part.weigh.arming with
    | none => rfl
    | some a => exact decide_eq_false (Nat.not_le.mpr (ahead a armed))

end Sys2Proof.Machine
end

section
/-! SUPPORT. A DONE with another tag (R136): the move ends as a fault, and the pack scanned is put in doubt. -/

namespace Sys2Proof.Machine

/-! ### A pack that is not FREE stays so -/

namespace Yard

variable {tag : Nat}

theorem unoffered.of_packs {y z : Yard} (h : y.unoffered tag) (packs : z.packs = y.packs) :
    z.unoffered tag := by
  unfold Yard.unoffered
  rw [packs]
  exact h

theorem unoffered.of_mapVal {y z : Yard} (h : y.unoffered tag) {f : Nat → Pack → Pack}
    (packs : z.packs = y.packs.mapVal f) (hf : ∀ p, p.state ≠ .free → (f tag p).state ≠ .free) :
    z.unoffered tag := by
  intro p hp
  rw [packs] at hp
  obtain ⟨en, member, written⟩ := List.mem_map.mp hp
  obtain ⟨rfl, rfl⟩ := Prod.mk.inj written
  exact hf en.2 (h en.2 member)

theorem unoffered.modifyPack {y : Yard} (h : y.unoffered tag) (u : Nat) {f : Pack → Pack}
    (hf : ∀ p, p.state ≠ .free → (f p).state ≠ .free) : (y.modifyPack u f).unoffered tag := by
  have packs : (y.modifyPack u f).packs = y.packs.mapVal fun t p => if t = u then f p else p := rfl
  refine h.of_mapVal packs fun p hp => ?_
  split
  · exact hf p hp
  · exact hp

theorem unoffered.unassign {y : Yard} (h : y.unoffered tag) (u : Nat) : (y.unassign u).unoffered tag := by
  unfold Yard.unassign
  split
  · exact h
  · exact (h.modifyPack u (f := fun p => { p with assignment := none }) fun _ hp => hp).of_packs
      (modifyTruck_packs _ _ _)

end Yard

namespace Act

variable {tag : Nat}

theorem unoffered_leave {a : Act} (h : a.yard.unoffered tag) (u : Nat) : (a.leave u).yard.unoffered tag := by
  unfold leave
  split
  · next b _ =>
    have packs : (a.yard.leaveStack b u).packs = a.yard.packs.mapVal fun t p =>
        if t = u then { p with place := .nowhere }
        else if (a.yard.above b u).contains t then { p with place := p.place.lower } else p := rfl
    refine Yard.unoffered.of_mapVal (z := a.yard.leaveStack b u) h packs fun p hp => ?_
    split
    · exact hp
    · split <;> exact hp
  · exact h

theorem unoffered_toDoubt {a : Act} (h : a.yard.unoffered tag) (u : Nat) :
    (a.toDoubt u).yard.unoffered tag :=
  (unoffered_leave h u).modifyPack u
    (f := fun p => { p with state := .doubt, prior := none, place := .nowhere }) fun _ _ => by simp

/-- R31: a pack in doubt is not FREE. -/
theorem unoffered_toDoubt_same (a : Act) (u : Nat) : (a.toDoubt u).yard.unoffered u :=
  Yard.unoffered_modifyPack (a.leave u).yard u
    (f := fun p => { p with state := .doubt, prior := none, place := .nowhere }) fun _ => by simp

theorem unoffered_endJob {a : Act} (h : a.yard.unoffered tag) (n : Nat) :
    (a.endJob n).yard.unoffered tag := by
  cases hj : a.yard.job? n with
  | none => rwa [endJob_none hj]
  | some j =>
    rw [endJob_yard hj]
    exact Yard.unoffered.modifyPack (h.of_packs rfl) j.tag fun _ hp => hp

theorem unoffered_dropCancelled {a : Act} (h : a.yard.unoffered tag) (n number u : Nat) :
    (a.dropCancelled n number u).yard.unoffered tag :=
  ((unoffered_endJob h n).unassign u).of_packs
    ((Yard.testUnloaded_packs _ number).trans (Yard.vacatePlanned_packs _ number u))

/-- R31: the pack of a job whose pack is lost is not FREE. -/
theorem unoffered_lose (a : Act) (n : Nat) (j : Job) : (a.lose n j).yard.unoffered j.tag := by
  have doubt := a.unoffered_toDoubt_same j.tag
  unfold lose
  split
  · exact unoffered_dropCancelled doubt _ _ _
  · exact doubt

/-! ### The release of a pack in doubt that has no job (R23, R136) -/

/-- R23: the release of a pack without a job makes its assignment absent, and the refill that follows passes
over every pack that is not FREE. -/
theorem passesOver_releaseJobless (e : Env) {a : Act} {g u : Nat} {k : Pack} (hk : a.yard.pack? g = some k)
    (jobless : k.job = none) (hu : a.yard.unoffered u) :
    Yard.PassesOver u (a.yard.unassign g) (a.releaseAssignment e g fun b => b).yard := by
  cases assigned : k.assignment with
  | none =>
    have absent : (a.yard.pack? g).bind Pack.assignment = none := by rw [hk]; exact assigned
    have same : a.yard.unassign g = a.yard := by rw [Yard.unassign, absent]
    rw [releaseAssignment_none absent, same]
    exact .refl _
  | some asg =>
    have present : (a.yard.pack? g).bind Pack.assignment = some asg := by rw [hk]; exact assigned
    have opened : a.unassigned g = a.on fun y => y.unassign g := by
      have pack : (a.yard.unassign g).pack? g = some { k with assignment := none } := by
        rw [Yard.pack?_unassign_same, hk]
        rfl
      have none : (a.on fun y => y.unassign g).yard.jobOfPack? g = none := by
        rw [on_yard, Yard.jobOfPack?, pack]
        simp [jobless]
      rw [unassigned, none]
    rw [releaseAssignment_some present, opened]
    exact passesOver_afterRelease e (a.on fun y => y.unassign g) _ _ _ (hu.unassign g)

/-! ### The pack scanned -/

/-- R136: FREE, RESERVED or HELD, the states from which a scanned pack becomes DOUBT. -/
abbrev scannable (st : PackState) : Prop := st = .free ∨ st = .reserved ∨ st = .held

/-- R136: a scanned pack becomes DOUBT; then its job is SUSPENDED, or without a job a RESERVED pack is
released. -/
theorem doubtScanned_eq (e : Env) {a : Act} {g : Nat} {k : Pack} (hk : a.yard.pack? g = some k)
    (st : scannable k.state) : a.doubtScanned e g = match k.job with
      | some u => (a.toDoubt g).suspendJob u
      | none => if k.state = .reserved then (a.toDoubt g).releaseAssignment e g fun b => b
          else a.toDoubt g := by
  unfold doubtScanned
  rw [hk]
  exact if_pos st

/-- R136: where no pack of the tag is FREE, RESERVED or HELD, the scan changes nothing. -/
theorem doubtScanned_stays (e : Env) {a : Act} {g : Nat}
    (h : ∀ k, a.yard.pack? g = some k → ¬ scannable k.state) : a.doubtScanned e g = a := by
  unfold doubtScanned
  split
  · rfl
  · next k hk => exact if_neg (h k hk)

/-- What a scan does, as three outcomes: nothing; the pack is in doubt and a job may be SUSPENDED; or the pack,
in doubt and without a job, is released. -/
theorem doubtScanned_cases (e : Env) (a : Act) (g : Nat) :
    a.doubtScanned e g = a
    ∨ (∃ k, a.yard.pack? g = some k ∧ scannable k.state
      ∧ ((∃ u, k.job = some u ∧ a.doubtScanned e g = (a.toDoubt g).suspendJob u)
        ∨ (k.job = none ∧ k.state ≠ .reserved ∧ a.doubtScanned e g = a.toDoubt g)
        ∨ (k.job = none ∧ k.state = .reserved
          ∧ a.doubtScanned e g = (a.toDoubt g).releaseAssignment e g fun b => b))) := by
  by_cases h : ∃ k, a.yard.pack? g = some k ∧ scannable k.state
  · obtain ⟨k, hk, st⟩ := h
    refine .inr ⟨k, hk, st, ?_⟩
    rw [doubtScanned_eq e hk st]
    cases job : k.job with
    | some u => exact .inl ⟨u, rfl, rfl⟩
    | none =>
      by_cases reserved : k.state = .reserved
      · exact .inr (.inr ⟨rfl, reserved, if_pos reserved⟩)
      · exact .inr (.inl ⟨rfl, reserved, if_neg reserved⟩)
  · exact .inl (doubtScanned_stays e fun k hk st => h ⟨k, hk, st⟩)

theorem reported_doubtScanned (e : Env) (a : Act) (g : Nat) :
    a.yard.Reported (a.doubtScanned e g).yard := by
  rcases a.doubtScanned_cases e g with
    same | ⟨k, hk, -, ⟨u, -, same⟩ | ⟨-, -, same⟩ | ⟨jobless, -, same⟩⟩
  · rw [same]
    exact ⟨rfl, .refl _⟩
  · rw [same]
    exact (a.reported_toDoubt g).trans (.of_settles (free := true) (settles_suspendJob _ u))
  · rw [same]
    exact a.reported_toDoubt g
  · rw [same]
    have released := passesOver_releaseJobless e (pack?_toDoubt_same hk) jobless (a.unoffered_toDoubt_same g)
    exact ((a.reported_toDoubt g).trans (.of_settles (free := true) (Yard.settles_unassign _ g))).trans
      (.of_settles released.settles)

/-- R136: a scan leaves every other pack that is not FREE, but for a tier of its place (R4). -/
theorem doubtScanned_packStays (e : Env) {a : Act} {g u : Nat} (other : u ≠ g) (hu : a.yard.unoffered u) :
    a.yard.PackStays (a.doubtScanned e g).yard u := by
  have doubt := a.toDoubt_packStays other
  rcases a.doubtScanned_cases e g with
    same | ⟨k, hk, -, ⟨n, -, same⟩ | ⟨-, -, same⟩ | ⟨jobless, -, same⟩⟩
  · rw [same]
    exact .of_eq rfl
  · rw [same]
    exact doubt.trans (.of_eq rfl)
  · rw [same]
    exact doubt
  · rw [same]
    have released := passesOver_releaseJobless e (pack?_toDoubt_same hk) jobless (unoffered_toDoubt hu g)
    exact doubt.trans (.of_eq (released.pack.trans (Yard.pack?_unassign_other _ other)))

/-- R136: the scanned pack, FREE, RESERVED or HELD, is in DOUBT; a RESERVED pack without a job is assigned to
no line. -/
theorem pack?_doubtScanned (e : Env) {a : Act} {g : Nat} {k : Pack} (hk : a.yard.pack? g = some k)
    (st : scannable k.state) : (a.doubtScanned e g).yard.pack? g
      = some { k with state := .doubt, prior := none, place := .nowhere
                      assignment := if k.state = .reserved ∧ k.job = none then none else k.assignment } := by
  have doubt := pack?_toDoubt_same hk
  rw [doubtScanned_eq e hk st]
  split
  · next u job =>
    rw [if_neg fun h => by rw [job] at h; cases h.2]
    exact doubt
  · next job =>
    by_cases reserved : k.state = .reserved
    · have released := passesOver_releaseJobless e doubt job (a.unoffered_toDoubt_same g)
      rw [if_pos reserved, if_pos ⟨reserved, job⟩]
      refine released.pack.trans ?_
      rw [Yard.pack?_unassign_same, doubt]
      rfl
    · rw [if_neg reserved, if_neg fun h => reserved h.1]
      exact doubt

/-- R136, R31: the job of a scanned pack is SUSPENDED. -/
theorem job?_doubtScanned (e : Env) {a : Act} {g u : Nat} {k : Pack} {i : Job} (hk : a.yard.pack? g = some k)
    (st : scannable k.state) (job : k.job = some u) (hi : a.yard.job? u = some i) :
    (a.doubtScanned e g).yard.job? u = some { i with state := .suspended, bound := none, move := none } := by
  rw [doubtScanned_eq e hk st, job]
  refine (Table.get?_modify_same _ u _).trans ?_
  rw [show ((a.toDoubt g).yard.unqueue u).jobs = a.yard.jobs from a.toDoubt_jobs g]
  exact congrArg (Option.map _) hi

/-! ### The mismatch -/

theorem reported_loseMove (a : Act) (m : Move) : a.yard.Reported (a.loseMove m).yard := by
  unfold loseMove
  split
  · exact a.reported_lose m.job _
  · exact ⟨rfl, .refl _⟩

theorem mismatch_eq (e : Env) (a : Act) (n : Nat) (m : Move) (g : Nat) :
    a.mismatch e n m g = ((a.moveEnded n).loseMove m).doubtScanned e g := rfl

/-- R136: with another tag the move has ended with MOVE_FAULT. -/
theorem mismatch_ends (e : Env) (a : Act) (n : Nat) (m : Move) (g : Nat) :
    (a.mismatch e n m g).yard.move? n = none
      ∧ holdsFlag (a.mismatch e n m g).yard.events .moveFault = true := by
  have reported := (reported_loseMove (a.moveEnded n) m).trans (reported_doubtScanned e _ g)
  have ended : (a.moveEnded n).yard.move? n = none := (a.yard.dropMove_spec n).1
  refine ⟨?_, reported.2 _ (holdsFlag_raiseIn_same _ _)⟩
  rw [mismatch_eq, Yard.move?, reported.1]
  exact ended

section
variable {a : Act} {n : Nat} {m : Move} {j : Job} {k : Pack}

/-- R136: the yard in which the pack of a mismatch is lost and the scanned pack is as it was. -/
theorem loseMove_reads (hj : a.yard.job? m.job = some j) (htag : j.tag = m.tag)
    (hk : a.yard.pack? m.tag = some k) :
    let b : Act := (a.moveEnded n).loseMove m
    holdsFlag b.yard.events .packDoubt = true ∧ b.yard.unoffered m.tag
      ∧ (∃ k', b.yard.pack? m.tag = some k' ∧ k'.state = .doubt ∧ k'.place = .nowhere)
      ∧ (∀ g kg, g ≠ m.tag → a.yard.pack? g = some kg →
        ∃ pl, b.yard.pack? g = some { kg with place := pl })
      ∧ ∀ u, u ≠ m.job → b.yard.job? u = a.yard.job? u := by
  have found := (a.job?_moveEnded n m.job).trans hj
  have lost : (a.moveEnded n).loseMove m = (a.moveEnded n).lose m.job j := by rw [loseMove, found]
  have pack := pack?_lose found ((a.pack?_moveEnded n j.tag).trans (htag ▸ hk))
  simp only
  rw [lost]
  rw [← htag]
  refine ⟨(flags_lose _ m.job j).2, unoffered_lose _ m.job j, ⟨_, pack, ?_, ?_⟩, fun g kg other hg => ?_,
    fun u other => ?_⟩
  · split <;> rfl
  · split <;> rfl
  · obtain ⟨pl, stays, -⟩ := lose_packStays found other kg ((a.pack?_moveEnded n g).trans hg)
    exact ⟨pl, stays⟩
  · rw [job?_lose, if_neg other, job?_moveEnded]

/-- R136: the pack of the move is in DOUBT, standing nowhere. -/
theorem mismatch_doubt (e : Env) (hj : a.yard.job? m.job = some j) (htag : j.tag = m.tag)
    (hk : a.yard.pack? m.tag = some k) {g : Nat} (other : g ≠ m.tag) :
    holdsFlag (a.mismatch e n m g).yard.events .packDoubt = true
      ∧ ((a.mismatch e n m g).yard.pack? m.tag).map Pack.state = some .doubt
      ∧ ((a.mismatch e n m g).yard.pack? m.tag).map Pack.place = some .nowhere := by
  obtain ⟨flag, unoffered, ⟨k', hk', state, place⟩, -, -⟩ := loseMove_reads (n := n) hj htag hk
  obtain ⟨pl, stays, down⟩ := doubtScanned_packStays e other.symm unoffered k' hk'
  rw [mismatch_eq, stays]
  exact ⟨(reported_doubtScanned e _ g).2 _ flag, congrArg some state, congrArg some (down place)⟩

/-- R136: the scanned pack of a mismatch, by its state. -/
theorem mismatch_scanned (e : Env) (hj : a.yard.job? m.job = some j) (htag : j.tag = m.tag)
    (hk : a.yard.pack? m.tag = some k) {g : Nat} (other : g ≠ m.tag) {kg : Pack}
    (hg : a.yard.pack? g = some kg) :
    (scannable kg.state →
      ((a.mismatch e n m g).yard.pack? g).map Pack.state = some .doubt
      ∧ ((a.mismatch e n m g).yard.pack? g).map Pack.place = some .nowhere
      ∧ (∀ u i, kg.job = some u → u ≠ m.job → a.yard.job? u = some i →
        (a.mismatch e n m g).yard.job? u = some { i with state := .suspended, bound := none, move := none })
      ∧ (kg.state = .reserved → kg.job = none →
        ((a.mismatch e n m g).yard.pack? g).map Pack.assignment = some none))
    ∧ (¬ scannable kg.state → ((a.mismatch e n m g).yard.pack? g).map Pack.state = some kg.state) := by
  obtain ⟨-, -, -, others, jobs⟩ := loseMove_reads (n := n) hj htag hk
  obtain ⟨pl, there⟩ := others g kg other hg
  rw [mismatch_eq]
  refine ⟨fun st => ?_, fun st => ?_⟩
  · have pack := pack?_doubtScanned e there st
    rw [pack]
    refine ⟨rfl, rfl, fun u i job hu hi => job?_doubtScanned e there st job ((jobs u hu).trans hi),
      fun reserved job => ?_⟩
    rw [Option.map_some, if_pos ⟨reserved, job⟩]
  · rw [doubtScanned_stays e fun k hk => by
      obtain rfl := Option.some.inj (there.symm.trans hk)
      exact st, there]
    rfl

end

end Act

end Sys2Proof.Machine
end

section
/-! SUPPORT. DONE (R135): the landing of a pack by kind of move, and the end of its move (O53). -/

namespace Sys2Proof.Machine

/-! ### Yards -/

theorem Yard.stackOf_congr {y z : Yard} (h : z.stack = y.stack) (b : Nat) : z.stackOf b = y.stackOf b := by
  rw [Yard.stackOf, h, Yard.stackOf]

theorem Yard.settles_testLoaded (y : Yard) (n : Nat) : y.Settles true (y.testLoaded n) := by
  rcases y.testLoaded_cases n with h | h <;> rw [h]
  · exact .refl y
  · exact y.settles_enterLoaded n

/-! ### The report in a turn -/

theorem Yard.moveAt?_terminal {y : Yard} {t n : Nat} {m : Move} (h : y.moveAt? t n = some m) :
    m.terminal = t := by
  unfold Yard.moveAt? at h
  split at h
  · split at h
    · next at_t => obtain rfl := Option.some.inj h; exact at_t
    · cases h
  · cases h

/-- R129, R132: a clear, well-formed answer of the terminal whose turn it is is taken as its report. -/
theorem State.answered_inTurn {s : State} {t : Nat} {x : Exchange} (turn : s.inTurn t x) {ans : Answer}
    (formed : ans.wf = true) : s.answered (.clear t) (some ans)
      = .next (s.settledAs ((s.heard x).act.report s.part.env x ans)) := by
  obtain ⟨running, exchange, rfl, purpose, terminal⟩ := turn
  have answered : s.part.answered x.terminal ans
      = { s.part with yard := ((s.heard x).act.report s.part.env x ans).finish s.part.env } := by
    unfold Part.answered
    simp only [exchange, if_true]
    unfold Part.exchangeSucceeds Part.enrollEnds
    rw [purpose]
    rfl
  have taken : (decide (x.terminal ≤ 7) && ans.wf) = true := by rw [formed, decide_eq_true terminal]; rfl
  refine (s.ifThen_eq running _ _).trans ?_
  rw [if_pos taken, answered]
  rfl

/-- R135: a DONE of a move that the addressed terminal holds. -/
theorem State.exec_done {s : State} {t : Nat} {x : Exchange} {n : Nat} {m : Move} {tag mc : Option Nat}
    (turn : s.inTurn t x) (lo : 1 ≤ n) (hi : n ≤ 65535) (hm : (s.heard x).moveAt? t n = some m)
    (tags : ∀ g, tag = some g → 1 ≤ g ∧ g ≤ 16777215) (moist : ∀ w, mc = some w → w ≤ 255) :
    exec (.done (.clear t) n tag mc) s
      = .next (s.settledAs ((s.heard x).act.done s.part.env (x.message.asks n) n m tag mc)) := by
  have formed : (Answer.done n tag mc).wf = true := by
    simp only [Answer.wf, Answer.wf.tagOk, moveInRange, within, Bool.and_eq_true, Option.all_eq_true,
      decide_eq_true_eq]
    exact ⟨⟨⟨lo, hi⟩, tags⟩, moist⟩
  refine (State.answered_inTurn turn formed).trans ?_
  obtain ⟨-, -, rfl, -⟩ := turn
  simp only [Act.report, Act.onMove, Yard.act_yard, hm]

/-! ### The measured moisture (R44) -/

/-- R135 step 1, R44: a pack with a reported moisture. -/
def Pack.measuredAs (mc : Option Nat) (k : Pack) : Pack :=
  match mc with
  | some w => { k with moisture := max 6 (min 80 w), measured := true }
  | none => k

namespace Act

/-- R135: the yard in which the pack is measured and the move has ended. -/
def arrived (a : Act) (n : Nat) (m : Move) (mc : Option Nat) : Act :=
  (a.on fun y => y.measure m.tag mc).on fun y => y.dropMove n

/-- R44, R132: the measurement writes one pack, and the end of the move none of these tables. -/
theorem arrived_reads (a : Act) (n : Nat) (m : Move) (mc : Option Nat) :
    (a.arrived n m mc).yard.move? n = none ∧ (a.arrived n m mc).yard.stack = a.yard.stack
      ∧ (a.arrived n m mc).yard.trucks = a.yard.trucks ∧ (a.arrived n m mc).yard.jobs = a.yard.jobs
      ∧ (a.arrived n m mc).yard.pack? m.tag = (a.yard.pack? m.tag).map (Pack.measuredAs mc) := by
  obtain ⟨ended, stack, packs, trucks, -, jobs, -⟩ := (a.yard.measure m.tag mc).dropMove_spec n
  have measured : (a.yard.measure m.tag mc).stack = a.yard.stack
      ∧ (a.yard.measure m.tag mc).trucks = a.yard.trucks ∧ (a.yard.measure m.tag mc).jobs = a.yard.jobs
      ∧ (a.yard.measure m.tag mc).pack? m.tag = (a.yard.pack? m.tag).map (Pack.measuredAs mc) := by
    cases mc with
    | none => exact ⟨rfl, rfl, rfl, Option.map_id'.symm⟩
    | some w => exact ⟨rfl, rfl, rfl, Yard.pack?_modifyPack_same ..⟩
  obtain ⟨stack', trucks', jobs', pack'⟩ := measured
  refine ⟨ended, stack.trans stack', trucks.trans trucks', jobs.trans jobs', ?_⟩
  rw [← pack', Yard.pack?, Yard.pack?]
  exact congrArg (Table.get? · m.tag) packs

section
variable {e : Env} {a : Act} {n : Nat} {m : Move} {mc : Option Nat} {j : Job} {k : Pack}

theorem job?_arrived (hj : a.yard.job? m.job = some j) : (a.arrived n m mc).yard.job? m.job = some j := by
  rw [Yard.job?, (a.arrived_reads n m mc).2.2.2.1]
  exact hj

theorem pack?_arrived (hk : a.yard.pack? m.tag = some k) :
    (a.arrived n m mc).yard.pack? m.tag = some (k.measuredAs mc) := by
  rw [(a.arrived_reads n m mc).2.2.2.2, hk]
  rfl

/-! ### DONE by its tag -/

/-- R135: the pack's tag, or none, is no mismatch. -/
theorem doneLifted_match {tag : Option Nat} (h : tag = none ∨ tag = some m.tag) :
    a.doneLifted e n m tag mc = (a.on fun y => y.measure m.tag mc).land e n m := by
  unfold doneLifted
  rcases h with rfl | rfl <;> simp

theorem doneLifted_mismatch {g : Nat} (h : g ≠ m.tag) :
    a.doneLifted e n m (some g) mc = a.mismatch e n m g := by
  unfold doneLifted
  rw [if_pos ⟨rfl, fun same => h (Option.some.inj same)⟩]
  rfl

/-! ### What a landing keeps of the loader link -/

theorem reported_createJob (a : Act) (w : JobWork) (tag : Nat) :
    a.yard.Reported (a.createJob w tag).yard := .of_settles (a.settles_createJob (free := true) w tag)

theorem reported_endJob (a : Act) (n : Nat) : a.yard.Reported (a.endJob n).yard :=
  .of_settles (a.settles_endJob (free := true) n)

theorem reported_landOnTruck (e : Env) (a : Act) (m : Move) (j : Job) :
    a.yard.Reported (a.landOnTruck e m j).yard := by
  unfold landOnTruck
  split
  · next number r _ =>
    have set : a.yard.Reported (a.setOnBed number r m.tag (a.yard.estimateOf e m.tag)).yard :=
      .of_settles (free := true)
        ((Yard.Settles.pack a.yard m.tag _).trans (.quiet _ number fun t => t.dock_modifyPos r _))
    refine set.trans ?_
    unfold endLoad
    simp only
    refine (reported_endJob _ m.job).trans ?_
    split
    · exact reported_createJob _ _ _
    · exact .of_settles (Yard.settles_testLoaded _ number)
  · exact ⟨rfl, .refl _⟩

theorem reported_join (a : Act) (b tag : Nat) : a.yard.Reported (a.join b tag).yard := ⟨rfl, .refl _⟩

/-- R111: the end of a CLEAR job is the end of the job, and may free its pack. -/
theorem endClear_yard (a : Act) (n tag : Nat) : (a.endClear n tag).yard = (a.endJob n).yard := by
  unfold endClear
  simp only
  split <;> rfl

theorem reported_landInStaging (a : Act) (b : Nat) (m : Move) (j : Job) :
    a.yard.Reported (a.landInStaging b m j).yard := by
  unfold landInStaging
  simp only
  split
  · rw [endClear_yard]
    exact Yard.Reported.trans ⟨rfl, .refl _⟩ (reported_endJob ((a.join b m.tag).returnPack m.tag) m.job)
  · exact (a.reported_join b m.tag).trans (reported_unsend _ m.job j)

theorem reported_landFromTruck (a : Act) (b : Nat) (m : Move) (j : Job) :
    a.yard.Reported (a.landFromTruck b m j).yard := by
  unfold landFromTruck
  split
  · exact Yard.Reported.trans ⟨rfl, .refl _⟩
      (reported_endOffload ((a.join b m.tag).setPackState m.tag .free) m.job _ m.tag)
  · exact ⟨rfl, .refl _⟩

/-- R132, R135: a landing ends its move. -/
theorem land_ends (e : Env) (a : Act) (n : Nat) (m : Move) : (a.land e n m).yard.move? n = none := by
  have reported : (a.on fun y => y.dropMove n).yard.Reported (a.land e n m).yard := by
    unfold land
    simp only
    split
    · exact ⟨rfl, .refl _⟩
    · split
      · exact reported_landOnTruck e _ m _
      · exact reported_landInStaging _ _ m _
      · exact reported_landFromTruck _ _ m _
      · exact ⟨rfl, .refl _⟩
  rw [Yard.move?, reported.1]
  exact (a.yard.dropMove_spec n).1

/-- R135, R136: a DONE of a lifted move ends it. -/
theorem doneLifted_ends (e : Env) (a : Act) (n : Nat) (m : Move) (tag mc : Option Nat) :
    (a.doneLifted e n m tag mc).yard.move? n = none := by
  unfold doneLifted
  split
  · exact (mismatch_ends e a n m _).1
  · exact land_ends e _ n m

/-! ### TO_TRUCK -/

theorem land_toTruck (hj : a.yard.job? m.job = some j) (kind : m.kind = .toTruck) :
    (a.on fun y => y.measure m.tag mc).land e n m = (a.arrived n m mc).landOnTruck e m j := by
  have found : ((a.on fun y => y.measure m.tag mc).on fun y => y.dropMove n).yard.job? m.job = some j :=
    job?_arrived hj
  unfold land
  simp only [found, kind]
  rfl

/-- R108: a pack for which a job is created keeps all of its record but its job. -/
theorem pack?_createJob (a : Act) (w : JobWork) {tag : Nat} (hk : a.yard.pack? tag = some k) :
    ∃ jb, (a.createJob w tag).yard.pack? tag = some { k with job := jb } := by
  rw [createJob, touchBayOf_yard]
  unfold newJob
  split
  · exact ⟨k.job, hk⟩
  · next u _ =>
    refine ⟨some u, (Yard.pack?_modifyPack_same _ tag _).trans ?_⟩
    exact congrArg (Option.map _) hk

/-- R121, R61, R66: at the end of a LOAD job its pack keeps all of its record but its job. -/
theorem pack?_endLoad {a : Act} {u tag : Nat} (hj : a.yard.job? u = some j) (htag : j.tag = tag)
    (hk : a.yard.pack? tag = some k) (number : Nat) (r : BedRef) :
    ∃ jb, (a.endLoad u number r tag).yard.pack? tag = some { k with job := jb } := by
  have ended : (a.endJob u).yard.pack? tag = some { k with job := none } := by
    rw [pack?_endJob hj, if_pos htag.symm, hk]
    rfl
  unfold endLoad
  simp only
  split
  · obtain ⟨jb, created⟩ := pack?_createJob (a.endJob u) (.offload number r) ended
    exact ⟨jb, created⟩
  · exact ⟨none, (Yard.PassesOver.testLoaded (tag := tag) _ number).pack.trans ended⟩

/-- R135: a pack that lands on a truck is ON_TRUCK at its bed position, with its estimated mass loaded. -/
theorem pack?_landOnTruck (e : Env) {number l : Nat} {r : BedRef} {tr : Truck}
    (hj : a.yard.job? m.job = some j) (htag : j.tag = m.tag) (hk : a.yard.pack? m.tag = some k)
    (load : j.work = .load number r) (ht : a.yard.truck? number = some tr) (lane : tr.lane = some l) :
    ∃ jb, (a.landOnTruck e m j).yard.pack? m.tag = some { k with
      state := .onTruck, prior := none, place := .bed l r, loadedMass := some (e.estimate k), job := jb } := by
  have set : (a.setOnBed number r m.tag (a.yard.estimateOf e m.tag)).yard.pack? m.tag = some { k with
      state := .onTruck, prior := none, place := .bed l r, loadedMass := some (e.estimate k) } := by
    unfold setOnBed
    simp only [on_yard]
    rw [Yard.pack?, Yard.modifyTruck_packs, ← Yard.pack?, Yard.pack?_modifyPack_same, Yard.estimateOf, hk, ht]
    simp [lane]
  have found : (a.setOnBed number r m.tag (a.yard.estimateOf e m.tag)).yard.job? m.job = some j := by
    unfold setOnBed
    rw [on_yard, Yard.job?, Yard.modifyTruck_jobs]
    exact hj
  unfold landOnTruck
  rw [load]
  obtain ⟨jb, landed⟩ := pack?_endLoad found htag set number r
  exact ⟨jb, landed⟩

/-! ### TO_STAGING -/

theorem land_toStaging {b : Nat} (hj : a.yard.job? m.job = some j) (kind : m.kind = .toStaging)
    (dest : m.dest = .bay b) :
    (a.on fun y => y.measure m.tag mc).land e n m = (a.arrived n m mc).landInStaging b m j := by
  have found : ((a.on fun y => y.measure m.tag mc).on fun y => y.dropMove n).yard.job? m.job = some j :=
    job?_arrived hj
  unfold land
  simp only [found, kind, dest]
  rfl

/-- R135: a pack that joins its destination bay stands on top of it. -/
theorem join_reads {b tag : Nat} (a : Act) (hk : a.yard.pack? tag = some k) :
    (a.join b tag).yard.stackOf b = a.yard.stackOf b ++ [tag]
      ∧ (a.join b tag).yard.pack? tag
        = some { k with place := .bay b ((a.yard.stackOf b).length + 1) } := by
  refine ⟨a.yard.stackOf_joinStack_same b tag, (a.yard.pack?_joinStack_same b tag).trans ?_⟩
  rw [hk]
  rfl

/-- R135, R111: a CLEAR job ends with its pack on top of the destination bay, in its prior state. -/
theorem landInStaging_clear {b origin : Nat} (hj : a.yard.job? m.job = some j) (htag : j.tag = m.tag)
    (hk : a.yard.pack? m.tag = some k) (clear : j.work = .clear origin) :
    (a.landInStaging b m j).yard.stackOf b = a.yard.stackOf b ++ [m.tag]
      ∧ (a.landInStaging b m j).yard.job? m.job = none
      ∧ (a.landInStaging b m j).yard.pack? m.tag = some { k with
        state := k.prior.getD k.state, prior := none, job := none
        place := .bay b ((a.yard.stackOf b).length + 1) } := by
  obtain ⟨stack, pack⟩ := join_reads (b := b) a hk
  have yard : (a.landInStaging b m j).yard = (((a.join b m.tag).returnPack m.tag).endJob m.job).yard := by
    unfold landInStaging
    simp only [clear]
    exact endClear_yard _ m.job m.tag
  obtain ⟨ended, kept, -⟩ := ((a.join b m.tag).returnPack m.tag).endJob_spec m.job
  have found : ((a.join b m.tag).returnPack m.tag).yard.job? m.job = some j := hj
  have returned : ((a.join b m.tag).returnPack m.tag).yard.pack? m.tag = some { k with
      state := k.prior.getD k.state, prior := none, place := .bay b ((a.yard.stackOf b).length + 1) } := by
    refine (Yard.pack?_modifyPack_same _ m.tag _).trans ?_
    rw [pack]
    rfl
  rw [yard]
  refine ⟨(Yard.stackOf_congr kept b).trans stack, ended, ?_⟩
  rw [pack?_endJob found, if_pos htag.symm, returned]
  rfl

/-- R135, R122: a LOAD job whose pack is set aside is WAITING again, its pack in its prior state. -/
theorem landInStaging_aside {b number : Nat} {r : BedRef} (hj : a.yard.job? m.job = some j)
    (htag : j.tag = m.tag) (hk : a.yard.pack? m.tag = some k) (load : j.work = .load number r)
    (goes : a.yard.truckState? number ≠ some .unloading) :
    (a.landInStaging b m j).yard.stackOf b = a.yard.stackOf b ++ [m.tag]
      ∧ (a.landInStaging b m j).yard.job? m.job
        = some { j with state := .waiting, bound := none, move := none }
      ∧ (a.landInStaging b m j).yard.pack? m.tag = some { k with
        state := k.prior.getD k.state, prior := none
        place := .bay b ((a.yard.stackOf b).length + 1) } := by
  obtain ⟨stack, pack⟩ := join_reads (b := b) a hk
  have same : a.landInStaging b m j = (a.join b m.tag).unsend m.job j := by
    unfold landInStaging
    simp only [load]
  have found : (a.join b m.tag).yard.job? m.job = some j := hj
  have kept : (a.join b m.tag).yard.cancelledLoad? j = none := by
    unfold Yard.cancelledLoad?
    rw [load]
    exact if_neg goes
  rw [same]
  refine ⟨(Yard.stackOf_congr (congrArg (·.1) (calm_unsend _ m.job j)) b).trans stack, ?_, ?_⟩
  · rw [job?_unsend, if_pos rfl, kept, found]
    rfl
  · have unsent := pack?_unsend found ((congrArg (a.join b m.tag).yard.pack? htag).trans pack)
    rw [kept, htag] at unsent
    exact unsent

/-! ### FROM_TRUCK -/

theorem land_fromTruck {b : Nat} (hj : a.yard.job? m.job = some j) (kind : m.kind = .fromTruck)
    (dest : m.dest = .bay b) :
    (a.on fun y => y.measure m.tag mc).land e n m = (a.arrived n m mc).landFromTruck b m j := by
  have found : ((a.on fun y => y.measure m.tag mc).on fun y => y.dropMove n).yard.job? m.job = some j :=
    job?_arrived hj
  unfold land
  simp only [found, kind, dest]
  rfl

/-- R153, R67: the end of an offload changes no stack. -/
theorem endOffload_stack (a : Act) (u number tag : Nat) :
    (a.endOffload u number tag).yard.stack = a.yard.stack := by
  have left : (a.offloaded u tag).yard.stack = a.yard.stack :=
    congrArg (·.1) (a.settles_offloaded (free := true) u tag).calm
  exact a.endOffload_holds (P := fun z => z.stack = a.yard.stack) u number tag left
    (fun z g l h => (congrArg (·.1) (z.calm_addWeightShort g l)).trans h)
    (fun z h => (congrArg (·.1) (z.calm_enterLoaded number)).trans h)
    ((congrArg (·.1) (Yard.calm_testUnloaded (a.offloaded u tag).yard number)).trans left)

/-- R135, R67, R153: a pack taken off a truck is FREE on top of the destination bay, with no loaded mass. -/
theorem landFromTruck_offload {b number : Nat} {r : BedRef} (hj : a.yard.job? m.job = some j)
    (htag : j.tag = m.tag) (hk : a.yard.pack? m.tag = some k) (offload : j.work = .offload number r) :
    (a.landFromTruck b m j).yard.stackOf b = a.yard.stackOf b ++ [m.tag]
      ∧ (a.landFromTruck b m j).yard.pack? m.tag = some { k with
        state := .free, prior := none, job := none, assignment := none, loadedMass := none
        place := .bay b ((a.yard.stackOf b).length + 1) } := by
  obtain ⟨stack, pack⟩ := join_reads (b := b) a hk
  have yard : (a.landFromTruck b m j).yard
      = (((a.join b m.tag).setPackState m.tag .free).endOffload m.job number m.tag).yard := by
    unfold landFromTruck
    simp only [offload]
    rfl
  have found : ((a.join b m.tag).setPackState m.tag .free).yard.job? m.job = some j := hj
  have freed : ((a.join b m.tag).setPackState m.tag .free).yard.pack? m.tag = some { k with
      state := .free, prior := none, place := .bay b ((a.yard.stackOf b).length + 1) } := by
    refine (Yard.pack?_modifyPack_same _ m.tag _).trans ?_
    rw [pack]
    rfl
  rw [yard]
  exact ⟨(Yard.stackOf_congr (endOffload_stack _ m.job number m.tag) b).trans stack,
    pack?_endOffload found htag freed number⟩

end

end Act

/-- Settles O53: a DONE with another tag is a mismatch (`Act.mismatch_scanned`), and any other a landing, by the
kind of the move. -/
theorem doneReport : Obligations.DoneReport := by
  intro s t x n m tag mc turn lo hi hm tags moist
  have row := State.exec_done turn lo hi hm tags moist
  refine ⟨fun down barred => ?_, fun down allowed => ?_, fun lifted => ⟨?_, ?_, ?_, ?_⟩⟩
  · rw [row, Act.done, if_neg down, Yard.act_yard, if_neg (by simp [barred]), Yard.moveAt?_terminal hm]
    rfl
  · rw [row, Act.done, if_neg down, Yard.act_yard, if_pos allowed]
  · rw [row, Act.done, if_pos lifted]
  · exact Act.doneLifted_ends _ _ n m tag mc
  · rintro g j k rfl other hj htag hk
    rw [Act.doneLifted_mismatch other]
    obtain ⟨flag, state, place⟩ :=
      Act.mismatch_doubt (a := (s.heard x).act) (n := n) s.part.env hj htag hk other
    refine ⟨(Act.mismatch_ends _ _ n m g).2, flag, state, place, fun kg hg => ?_⟩
    obtain ⟨scanned, stays⟩ :=
      Act.mismatch_scanned (a := (s.heard x).act) (n := n) s.part.env hj htag hk other hg
    refine ⟨scanned, fun away => stays ?_⟩
    rcases away with st | st | st <;> simp [st]
  · intro j k matched hj htag hk
    obtain ⟨stack, trucks⟩ := s.part.yard.exchangeDone_reads s.part.clock x
    obtain ⟨-, stack', trucks', -, -⟩ := (s.heard x).act.arrived_reads n m mc
    have stackOf : ∀ b, ((s.heard x).act.arrived n m mc).yard.stackOf b = s.part.yard.stackOf b :=
      fun b => Yard.stackOf_congr (stack'.trans stack) b
    have found : ((s.heard x).act.arrived n m mc).yard.job? m.job = some j := Act.job?_arrived hj
    have there : ((s.heard x).act.arrived n m mc).yard.pack? m.tag = some (k.measuredAs mc) :=
      Act.pack?_arrived hk
    have kept : (k.measuredAs mc).prior = k.prior ∧ (k.measuredAs mc).state = k.state := by
      cases mc <;> exact ⟨rfl, rfl⟩
    intro k1
    rw [Act.doneLifted_match matched]
    refine ⟨fun number r tr l kind load ht lane => ?_, fun b origin kind dest clear => ?_,
      fun b number r kind dest load goes => ?_, fun b number r kind dest offload => ?_⟩
    · obtain ⟨jb, landed⟩ := Act.pack?_landOnTruck s.part.env found htag there load
        ((Yard.truck?_of_trucks trucks' number).trans ht) lane
      rw [Act.land_toTruck hj kind]
      exact ⟨_, landed, rfl, rfl, rfl, rfl, rfl⟩
    · obtain ⟨joined, ended, landed⟩ := Act.landInStaging_clear (b := b) found htag there clear
      rw [Act.land_toStaging hj kind dest]
      rw [stackOf] at joined landed
      exact ⟨joined, ended, _, landed, by rw [kept.1, kept.2], rfl, rfl, rfl⟩
    · obtain ⟨joined, waits, landed⟩ := Act.landInStaging_aside (b := b) found htag there load
        (by rw [Yard.truckState?_of_trucks trucks']; exact goes)
      rw [Act.land_toStaging hj kind dest]
      rw [stackOf, kept.1, kept.2] at landed
      rw [stackOf] at joined
      exact ⟨joined, waits, landed⟩
    · obtain ⟨joined, landed⟩ := Act.landFromTruck_offload (b := b) found htag there offload
      rw [Act.land_fromTruck hj kind dest]
      rw [stackOf] at joined landed
      exact ⟨joined, _, landed, rfl, rfl, rfl, rfl, rfl, rfl, rfl⟩

end Sys2Proof.Machine
end

section
/-! SUPPORT. The effective class (R72, O59). -/

namespace Sys2Proof.Machine

namespace Env

/-- R72: with no ageing period a truck keeps its class. -/
theorem effectiveClass_ageless {e : Env} (h : e.settings.planning.ageing * 60 = 0) (t : Truck) :
    e.effectiveClass t = t.cls := by
  rw [effectiveClass, if_pos (by omega)]

/-- R72: with an ageing period the class rises with each period waited, up to 3. -/
theorem effectiveClass_aged {e : Env} (h : 0 < e.settings.planning.ageing * 60) (t : Truck) :
    e.effectiveClass t
      = min 3 (t.cls + (e.clock - t.announcedAt) / (e.settings.planning.ageing * 60)) := by
  rw [effectiveClass, if_neg (by omega)]

/-- R72, R73: a class below another by 2 is made up for by two ageing periods of waiting, and the earlier
announcement then decides. -/
theorem beforeAtGate_aged {e : Env} (h : 0 < e.settings.planning.ageing * 60) {t u : Truck}
    (low : t.cls = 0) (high : u.cls = 2) (past : u.announcedAt ≤ e.clock)
    (early : t.announcedAt + 2 * (e.settings.planning.ageing * 60) ≤ u.announcedAt) (i j : Nat) :
    e.beforeAtGate (i, t) (j, u) = true := by
  have waited : (e.clock - u.announcedAt) / (e.settings.planning.ageing * 60) + 2
      ≤ (e.clock - t.announcedAt) / (e.settings.planning.ageing * 60) := by
    rw [← Nat.add_mul_div_right _ _ h]
    exact Nat.div_le_div_right (by omega)
  have class_le : e.effectiveClass u ≤ e.effectiveClass t := by
    rw [effectiveClass_aged h, effectiveClass_aged h, low, high]
    omega
  simp only [beforeAtGate, Bool.or_eq_true, Bool.and_eq_true, decide_eq_true_eq]
  omega

end Env

/-- R69: part 0 of READ TRUCK has the effective class after the class. -/
theorem Truck.effectiveClass_mem_vehicleBody (t : Truck) (e : Env) (index : Nat) :
    byte (e.effectiveClass t) ∈ t.vehicleBody e index := by
  simp [vehicleBody]

/-- Settles O59. -/
theorem effectiveClass : Obligations.EffectiveClass := by
  intro e t index p
  refine ⟨fun h => Env.effectiveClass_ageless h t, fun h _ => Env.effectiveClass_aged h t,
    fun h future => ?_, fun h long => ?_,
    fun u j h low high past early => Env.beforeAtGate_aged h low high past early index j,
    t.effectiveClass_mem_vehicleBody e index⟩
  · rw [Env.effectiveClass_aged h, Nat.sub_eq_zero_of_le future.le, Nat.zero_div, Nat.add_zero]
  · have waited : 3 ≤ (e.clock - t.announcedAt) / p := (Nat.le_div_iff_mul_le h).mpr (by omega)
    refine (Env.effectiveClass_aged h t).trans (Nat.min_eq_left ?_)
    exact waited.trans (Nat.le_add_left ..)

end Sys2Proof.Machine
end

section
/-! SUPPORT. A truck read by the number of a request (R175), and DEPART TRUCK (R68, O34). -/

namespace Sys2Proof.Machine

/-! ### The truck of a number -/

/-- A truck number of a request is in range exactly where R175 says. -/
theorem truckInRange_of {n : Nat} (lo : 1 ≤ n) (hi : n ≤ 65535) : truckInRange n = true := by
  simp [truckInRange, within, lo, hi]

theorem Yard.truck?_of_truckNo? {y : Yard} {n i : Nat} {t : Truck} (h : y.truckNo? n = some (i, t)) :
    y.truck? n = some t := by
  rw [Yard.truck?, h]; rfl

theorem Yard.truckState?_of_truckNo? {y : Yard} {n i : Nat} {t : Truck} (h : y.truckNo? n = some (i, t)) :
    y.truckState? n = some t.state := by
  rw [Yard.truckState?, Yard.truck?_of_truckNo? h]; rfl

theorem Yard.truckState?_of_none {y : Yard} {n : Nat} (h : y.truckNo? n = none) :
    y.truckState? n = none := by
  rw [Yard.truckState?, Yard.truck?, h]; rfl

/-! ### DEPART TRUCK (R68) -/

/-- R68: the packs that depart are the ON_TRUCK packs of the truck. -/
theorem Pack.departs_eq (k : Pack) (n : Nat) :
    k.departs n = decide (k.state = .onTruck ∧ k.assignment.map Assignment.truck = some n) := by
  rw [Pack.departs, Bool.decide_and]

theorem Yard.depart_of_truckNo? {y : Yard} {n i : Nat} {t : Truck} (h : y.truckNo? n = some (i, t)) :
    y.depart n = { y with
      packs := y.packs.keep fun _ k => !k.departs n, trucks := y.trucks.drop i } := by
  have same : ({ y with packs := y.packs.keep fun _ k => !k.departs n } : Yard).truckNo? n = some (i, t) := h
  unfold Yard.depart Yard.dropTruck
  rw [same]

/-- Settles O34. -/
theorem departTruckDeletes : Obligations.DepartTruckDeletes := by
  intro h n s taken lo hi
  have reads : ∀ {p : Part} {r : Result} {body : List Byte},
      s.part.departTruck n = (p, .reply r body) →
      exec (.departTruck h n) s = .next (s.replied h 0x1C#8 r body p) :=
    fun hp => State.request_replied taken h (r := .departTruck n) hp
  have inRange := truckInRange_of lo hi
  refine ⟨fun none => reads ?_, fun i t ht => ⟨fun other => reads ?_, fun cleared => ?_⟩⟩
  · simp [Part.departTruck, inRange, Yard.truckState?_of_none none, Part.refuse, Response.refuse]
  · rw [Part.departTruck, inRange, Yard.truckState?_of_truckNo? ht]
    cases hs : t.state with
    | cleared => exact absurd hs other
    | _ => rfl
  · refine ⟨s.part.yard.packs.keep fun _ k => !k.departs n, s.part.yard.trucks.drop i, reads ?_, ?_,
      Table.get?_drop_same .., fun j hj => Table.get?_drop_other _ (Ne.symm hj)⟩
    · simp only [Part.departTruck, inRange, Yard.truckState?_of_truckNo? ht, cleared, Table.pick,
        Yard.depart_of_truckNo? ht, Pack.departs_eq, List.countP_eq_length_filter]
      rfl
    · simp only [Table.keep, Pack.departs_eq]

end Sys2Proof.Machine
end

section
/-! SUPPORT. OPEN LANE and CLOSE LANE (R71, O35). -/

namespace Sys2Proof.Machine

/-! ### One lane record is written -/

theorem Yard.lane_of_getElem? {y : Yard} {l : Nat} {r : Lane} (h : y.lanes[l]? = some r) : y.lane l = r := by
  rw [Yard.lane, h]; rfl

theorem Yard.modifyLane_of_getElem? {y : Yard} {l : Nat} {r : Lane} (h : y.lanes[l]? = some r)
    (f : Lane → Lane) : y.modifyLane l f = { y with lanes := y.lanes.setIfInBounds l (f r) } := by
  rw [Yard.modifyLane, vecModify, h]

/-- A lane record written as it was changes nothing. -/
theorem Yard.modifyLane_same {y : Yard} {l : Nat} {f : Lane → Lane} (h : f (y.lane l) = y.lane l) :
    y.modifyLane l f = y := by
  have lanes : vecModify y.lanes l f = y.lanes := by
    refine Vector.ext fun k hk => Option.some.inj ?_
    rw [← Vector.getElem?_eq_getElem hk, ← Vector.getElem?_eq_getElem hk]
    by_cases e : l = k
    · subst e
      rw [vecModify_getElem?_same, Vector.getElem?_eq_getElem hk, Option.map_some]
      rw [Yard.lane, Vector.getElem?_eq_getElem hk] at h
      exact congrArg some h
    · exact vecModify_getElem?_other _ _ e
  rw [Yard.modifyLane, lanes]

/-! ### The two requests (R71) -/

section
variable {p : Part} {l : Nat} {r : Lane}

/-- R71: OPEN LANE of a lane that is not CLOSED. -/
theorem Part.openLane_quiet (range : l ≤ 5) (h : p.yard.lanes[l]? = some r) (other : r.state ≠ .closed) :
    p.openLane l = ({ p with yard := p.yard.modifyLane l Lane.opened }, .ok [byte r.opened.state.code]) := by
  rw [Part.openLane, if_neg (by omega), Yard.lane_of_getElem? h]
  cases hs : r.state with
  | closed => exact absurd hs other
  | _ => rfl

/-- R71: OPEN LANE of a CLOSED lane is reported to the arbiter. -/
theorem Part.openLane_closed (range : l ≤ 5) (h : p.yard.lanes[l]? = some r) (closed : r.state = .closed) :
    p.openLane l = (p.doAct fun _ a => a.on fun y => y.modifyLane l Lane.opened,
      .ok [byte r.opened.state.code]) := by
  rw [Part.openLane, if_neg (by omega), Yard.lane_of_getElem? h, closed]

/-- R71: CLOSE LANE. -/
theorem Part.closeLane_eq (range : l ≤ 5) (h : p.yard.lanes[l]? = some r) :
    p.closeLane l = ({ p with yard := p.yard.modifyLane l Lane.shut }, .ok [byte r.shut.state.code]) := by
  rw [Part.closeLane, if_neg (by omega), Yard.lane_of_getElem? h]

end

/-- Settles O35, by the two requests' effects on a lane (Lane.opened, Lane.shut) in each of its states. -/
theorem openAndCloseLane : Obligations.OpenAndCloseLane := by
  intro h l s taken
  have opens : ∀ {p : Part} {res : Result} {body : List Byte}, s.part.openLane l = (p, .reply res body) →
      exec (.openLane h l) s = .next (s.replied h 0x20#8 res body p) :=
    fun hp => State.request_replied taken h (r := .openLane l) hp
  have closes : ∀ {p : Part} {res : Result} {body : List Byte}, s.part.closeLane l = (p, .reply res body) →
      exec (.closeLane h l) s = .next (s.replied h 0x21#8 res body p) :=
    fun hp => State.request_replied taken h (r := .closeLane l) hp
  refine ⟨fun above => ⟨opens (if_pos above), closes (if_pos above)⟩, fun range r hr => ?_⟩
  have written : ∀ {f : Lane → Lane} {r' : Lane}, f r = r' → s.part.yard.modifyLane l f
      = { s.part.yard with lanes := s.part.yard.lanes.setIfInBounds l r' } := fun hf =>
    hf ▸ Yard.modifyLane_of_getElem? hr _
  have kept : ∀ {f : Lane → Lane}, f r = r → s.part.yard.modifyLane l f = s.part.yard := fun hf =>
    Yard.modifyLane_same (by rw [Yard.lane_of_getElem? hr, hf])
  have opened : ∀ {r' : Lane} {y : Yard}, r.opened = r' → s.part.yard.modifyLane l Lane.opened = y →
      r.state ≠ .closed → exec (.openLane h l) s
        = .next (s.replied h 0x20#8 .ok [byte r'.state.code] { s.part with yard := y }) :=
    fun hr' hy other => opens (hr' ▸ hy ▸ Part.openLane_quiet range hr other)
  have shut : ∀ {r' : Lane} {y : Yard}, r.shut = r' → s.part.yard.modifyLane l Lane.shut = y →
      exec (.closeLane h l) s
        = .next (s.replied h 0x21#8 .ok [byte r'.state.code] { s.part with yard := y }) :=
    fun hr' hy => closes (hr' ▸ hy ▸ Part.closeLane_eq range hr)
  refine ⟨fun st => ?_, fun st => ?_, fun st => ?_, fun st => ?_, fun st => ?_, fun st => ?_,
    fun st => ?_, fun st => ?_⟩
  · have same : r.opened = r := by rw [Lane.opened, st]
    exact (opened same (kept same) (by simp [st])).trans (by rw [st]; rfl)
  · have same : r.opened = r := by rw [Lane.opened, st]
    exact (opened same (kept same) (by simp [st])).trans (by rw [st]; rfl)
  · have now : r.opened = { r with state := .occupied } := by rw [Lane.opened, st]
    exact opened now (written now) (by simp [st])
  · have now : r.opened = { r with state := .free } := by rw [Lane.opened, st]
    refine ⟨_, opens ((Part.openLane_closed range hr st).trans (by rw [now]; rfl)), ?_, ?_⟩
    · rw [← written now]
      rfl
    · exact Act.still_finish _ _
  · have now : r.shut = { r with state := .closed } := by rw [Lane.shut, st]
    exact shut now (written now)
  · have now : r.shut = { r with state := .closing } := by rw [Lane.shut, st]
    exact shut now (written now)
  · have same : r.shut = r := by rw [Lane.shut, st]
    exact (shut same (kept same)).trans (by rw [st]; rfl)
  · have same : r.shut = r := by rw [Lane.shut, st]
    exact (shut same (kept same)).trans (by rw [st]; rfl)

end Sys2Proof.Machine
end

section
/-! SUPPORT. ACCEPT (R133), TOO_LATE and WITHDRAWN (R139, R66), for O51. -/

namespace Sys2Proof.Machine

/-! ### The report of a move in a turn -/

/-- R132: a clear, well-formed report of a move that the addressed terminal holds is taken of that move. -/
theorem State.reported_inTurn {s : State} {t : Nat} {x : Exchange} {n : Nat} {m : Move} (turn : s.inTurn t x)
    (hm : (s.heard x).moveAt? t n = some m) {ans : Answer} (formed : ans.wf = true) {f : Move → Act}
    (report : (s.heard x).act.report s.part.env x ans = (s.heard x).act.onMove x.terminal n f) :
    s.answered (.clear t) (some ans) = .next (s.settledAs (f m)) := by
  rw [State.answered_inTurn turn formed, report]
  obtain ⟨-, -, rfl, -⟩ := turn
  simp only [Act.onMove, Yard.act_yard, hm]

theorem moveInRange_of {n : Nat} (lo : 1 ≤ n) (hi : n ≤ 65535) : moveInRange n = true := by
  simp [moveInRange, within, lo, hi]

/-! ### WITHDRAWN (R139) -/

theorem Yard.cancelledLoad?_of {y : Yard} {j : Job} {number : Nat} {r : BedRef} (load : j.work = .load number r)
    (unloading : y.truckState? number = some .unloading) : y.cancelledLoad? j = some number := by
  rw [Yard.cancelledLoad?, load]
  exact if_pos unloading

theorem Yard.cancelledLoad?_none {y : Yard} {j : Job} (h : ∀ (number : Nat) (r : BedRef),
    j.work = .load number r → y.truckState? number ≠ some .unloading) : y.cancelledLoad? j = none := by
  unfold Yard.cancelledLoad?
  split
  · next number r load => exact if_neg (h number r load)
  · rfl

namespace Act

section
variable {a : Act} {n : Nat} {m : Move} {j : Job}

/-- R139, R66: the withdrawal of a move that a cancel asked for. -/
theorem withdrawn_cancelled (hj : a.yard.job? m.job = some j) (down : m.state ≠ .lifted)
    (cancelled : (a.yard.cancelledLoad? j).isSome = true) :
    a.withdrawn n m = (a.on fun y => y.dropMove n).unsend m.job j := by
  unfold withdrawn
  rw [hj]
  exact if_pos ⟨down, cancelled⟩

/-- R139: any other withdrawal changes nothing (log entry 16). -/
theorem withdrawn_unasked (h : m.state = .lifted ∨ a.yard.job? m.job = none
    ∨ ∃ j, a.yard.job? m.job = some j ∧ a.yard.cancelledLoad? j = none) : a.withdrawn n m = a := by
  unfold withdrawn
  split
  · rfl
  · next j hj =>
    refine if_neg fun ⟨down, cancelled⟩ => ?_
    rcases h with lifted | none | ⟨i, hi, none⟩
    · exact down lifted
    · rw [none] at hj
      cases hj
    · obtain rfl := Option.some.inj (hj.symm.trans hi)
      rw [none] at cancelled
      cases cancelled

/-- R66: an undelivered or withdrawn move of a cancelled LOAD job leaves its job deleted and its pack FREE at
its place; no stack changes. -/
theorem withdrawn_leaves (hj : a.yard.job? m.job = some j) (down : m.state ≠ .lifted)
    (cancelled : (a.yard.cancelledLoad? j).isSome = true) :
    (a.withdrawn n m).yard.move? n = none ∧ (a.withdrawn n m).yard.job? m.job = none
      ∧ (a.withdrawn n m).yard.stack = a.yard.stack
      ∧ ∀ k, a.yard.pack? j.tag = some k →
        (a.withdrawn n m).yard.pack? j.tag
          = some { k with state := .free, prior := none, job := none, assignment := none } := by
  obtain ⟨ended, stack, packs, trucks, -, jobs, -⟩ := a.yard.dropMove_spec n
  have job : (a.on fun y => y.dropMove n).yard.job? m.job = some j := (congrArg (·.get? m.job) jobs).trans hj
  have still : ((a.on fun y => y.dropMove n).yard.cancelledLoad? j).isSome = true := by
    rw [Act.on_yard, Yard.cancelledLoad?_congr (Yard.truckState?_of_trucks trucks)]
    exact cancelled
  have calm := (a.on fun y => y.dropMove n).calm_unsend m.job j
  rw [withdrawn_cancelled hj down cancelled]
  refine ⟨?_, ?_, (congrArg Prod.fst calm).trans stack, fun k hk => ?_⟩
  · exact (congrArg (fun c => c.2.2.moves.get? n) calm).trans ended
  · rw [job?_unsend, if_pos rfl, if_pos still]
  · rw [pack?_unsend job ((congrArg (·.get? j.tag) packs).trans hk), if_pos still]

end

end Act

/-- Settles O51. -/
theorem acceptAndWithdraw : Obligations.AcceptAndWithdraw := by
  intro s t x n m turn lo hi hm
  have inRange := moveInRange_of lo hi
  have accepted : exec (.accept (.clear t) n) s = .next (s.settledAs ((s.heard x).act.accept n m)) :=
    State.reported_inTurn turn hm (ans := .accept n) inRange rfl
  have late : exec (.tooLate (.clear t) n) s = .next (s.settledAs ((s.heard x).act.tooLate n m)) :=
    State.reported_inTurn turn hm (ans := .tooLate n) inRange rfl
  have withdrawn : exec (.withdrawn (.clear t) n) s
      = .next (s.settledAs ((s.heard x).act.withdrawn n m)) :=
    State.reported_inTurn turn hm (ans := .withdrawn n) inRange rfl
  refine ⟨fun sent => ?_, fun other => ?_, ?_, fun j number r down hj load unloading => ?_, fun unasked => ?_⟩
  · rw [accepted, Act.accept, if_pos sent]
    rfl
  · rw [accepted, Act.accept, if_neg other]
  · rw [late, Act.tooLate, Yard.moveAt?_terminal hm]
    rfl
  · have cancelled : ((s.heard x).cancelledLoad? j).isSome = true := by
      rw [Yard.cancelledLoad?_of load unloading]
      rfl
    obtain ⟨move, job, stack, pack⟩ := Act.withdrawn_leaves (a := (s.heard x).act) (n := n) hj down cancelled
    exact ⟨_, withdrawn, move, job, stack.trans (s.part.yard.exchangeDone_reads s.part.clock x).1,
      fun k hk => ⟨_, pack k hk, rfl, rfl⟩⟩
  · rw [withdrawn, Act.withdrawn_unasked]
    exact unasked.imp id (Or.imp id fun ⟨j, hj, goes⟩ => ⟨j, hj, Yard.cancelledLoad?_none goes⟩)

end Sys2Proof.Machine
end

section
/-! SUPPORT. ANNOUNCE TRUCK (R60), and the counts of an order line (R58) through reservations and releases, for
O31. -/

namespace Sys2Proof.Machine

/-! ### The lowest free index (R60) -/

theorem Table.freeFrom_none {α : Type} {t : Table α} {fuel i : Nat}
    (h : ∀ j, i ≤ j → j < i + fuel → t.has j = true) : t.freeFrom fuel i = none := by
  induction fuel generalizing i with
  | zero => rfl
  | succ fuel ih =>
    rw [Table.freeFrom, if_pos (h i (by omega) (by omega))]
    exact ih fun j lo hi => h j (by omega) (by omega)

theorem Table.freeFrom_some {α : Type} {t : Table α} {fuel i k : Nat} (lo : i ≤ k) (hi : k < i + fuel)
    (held : ∀ j, i ≤ j → j < k → t.has j = true) (free : t.has k = false) : t.freeFrom fuel i = some k := by
  induction fuel generalizing i with
  | zero => omega
  | succ fuel ih =>
    rw [Table.freeFrom]
    rcases Nat.eq_or_lt_of_le lo with rfl | lt
    · rw [free]
      rfl
    · rw [if_pos (held i (Nat.le_refl i) lt)]
      exact ih lt (by omega) fun j hj => held j (by omega)

/-! ### The new record (R60) -/

theorem ShortMode.ofCode?_iff (n : Nat) (m : ShortMode) : ShortMode.ofCode? n = some m ↔ n = m.code := by
  unfold ShortMode.ofCode?
  split <;> cases m <;> simp_all [ShortMode.code]

theorem slotPositions_vacant (i : Nat) (xs : List Nat) : ∀ ps ∈ slotPositions i
    (xs.map fun x => { x := x, one := BedPos.vacant, two := BedPos.vacant }), ps.2 = BedPos.vacant := by
  induction xs generalizing i with
  | nil => exact fun _ h => nomatch h
  | cons x rest ih =>
    intro ps h
    rcases List.mem_cons.mp h with rfl | h
    · rfl
    · rcases List.mem_cons.mp h with rfl | h
      · rfl
      · exact ih (i + 1) ps h

/-- R58: a line as it is announced adds up. -/
theorem addsUp_newLine (l : LineArgs) : (newLine l).addsUp = true := by
  simp [newLine, OrderLine.addsUp]

/-! ### ANNOUNCE TRUCK (R60) -/

section
variable {p : Part} {a : TruckArgs}

theorem Part.announceTruck_outOfRange (h : announceInRange a = false) :
    p.announceTruck a = (p, .reply .badValue []) := by
  unfold Part.announceTruck
  split
  · rfl
  · rw [if_pos (by simp [h])]
    rfl

/-- R60: with the fields in range the number and the table decide. -/
theorem Part.announceTruck_inRange (h : announceInRange a = true) : ∃ mode : ShortMode,
    mode.code = a.shortMode ∧ p.announceTruck a
      = if (p.yard.truck? a.number).isSome then (p, .reply .duplicate [])
        else match p.yard.trucks.lowestFree 24 with
          | none => (p, .reply .tableFull [])
          | some i => ({ p with yard := p.yard.addTruck i (newTruck a mode p.clock) }, .ok [byte i]) := by
  have coded : (ShortMode.ofCode? a.shortMode).isSome = true := by
    unfold announceInRange at h
    simp only [Bool.and_eq_true] at h
    tauto
  obtain ⟨mode, hm⟩ := Option.isSome_iff_exists.mp coded
  refine ⟨mode, ((ShortMode.ofCode?_iff _ _).mp hm).symm, ?_⟩
  unfold Part.announceTruck
  rw [hm]
  simp only [h, not_true_eq_false, if_false]
  rfl

end

/-! ### Order lines read after a change (R58) -/

/-- An order line of the truck of a number. -/
def Yard.line? (y : Yard) (number line : Nat) : Option OrderLine :=
  (y.truck? number).bind fun t => t.line? line

theorem Truck.line?_modifyLine (t : Truck) (line : Nat) (f : OrderLine → OrderLine) :
    (t.modifyLine line f).line? line = (t.line? line).map f := by
  unfold Truck.modifyLine Truck.line?
  split
  · rfl
  · rw [List.getElem?_modify]
    simp

/-- A changed order line, read under its numbers. -/
theorem Yard.line?_modifyLine (y : Yard) (number line : Nat) (f : OrderLine → OrderLine) :
    (y.modifyTruck number fun t => t.modifyLine line f).line? number line = (y.line? number line).map f := by
  rw [Yard.line?, Yard.truck?_modifyTruck_same y number fun t => (t.modifyLine_number_slots line f).1, Yard.line?]
  cases y.truck? number with
  | none => rfl
  | some t => exact t.line?_modifyLine line f

/-- R80: a reservation to a line. -/
theorem Yard.line?_reserve (y : Yard) (number line tag : Nat) :
    (y.reserve number line tag).line? number line = (y.line? number line).map fun l =>
      { l with assigned := l.assigned ++ [tag], stockShort := l.stockShort - 1 } := by
  refine (Yard.line?_modifyLine _ number line _).trans ?_
  refine (congrArg (Option.map _) (Yard.line?_modifyLine _ number line _)).trans ?_
  rw [Option.map_map]
  rfl

/-- R23 step 1: a release takes the tag off its line. -/
theorem Yard.line?_unassign {y : Yard} {tag : Nat} {g : Assignment}
    (h : (y.pack? tag).bind Pack.assignment = some g) :
    (y.unassign tag).line? g.truck g.line = (y.line? g.truck g.line).map fun l =>
      { l with assigned := l.assigned.filter fun u => u != tag } := by
  unfold Yard.unassign
  rw [h]
  exact Yard.line?_modifyLine _ g.truck g.line _

/-- R103: a release at a placement makes its line short of weight. -/
theorem Act.line?_releaseForWeight {a : Act} {tag : Nat} {g : Assignment}
    (h : (a.yard.pack? tag).bind Pack.assignment = some g) :
    (a.releaseForWeight tag).yard.line? g.truck g.line = (a.yard.line? g.truck g.line).map fun l =>
      { l with assigned := l.assigned.filter fun u => u != tag, weightShort := l.weightShort + 1 } := by
  have released : (a.releaseForWeight tag).yard.line? g.truck g.line
      = ((a.yard.unassign tag).addWeightShort g.truck g.line).line? g.truck g.line := by
    unfold Act.releaseForWeight
    rw [h]
    rfl
  rw [released]
  refine (Yard.line?_modifyLine _ g.truck g.line _).trans ?_
  rw [Yard.line?_unassign h, Option.map_map]
  rfl

/-- R90: a release that makes its line short of stock. -/
theorem Yard.line?_unassign_stockShort {y : Yard} {tag : Nat} {g : Assignment}
    (h : (y.pack? tag).bind Pack.assignment = some g) :
    ((y.unassign tag).modifyStockShort g.truck g.line (· + 1)).line? g.truck g.line
      = (y.line? g.truck g.line).map fun l =>
        { l with assigned := l.assigned.filter fun u => u != tag, stockShort := l.stockShort + 1 } := by
  refine (Yard.line?_modifyLine _ g.truck g.line _).trans ?_
  rw [Yard.line?_unassign h, Option.map_map]
  rfl

/-- A list without a tag that it holds once is shorter by one. -/
theorem length_filter_of_count_one {l : List Nat} {tag : Nat} (h : l.count tag = 1) :
    (l.filter fun u => u != tag).length + 1 = l.length := by
  have split := List.length_eq_countP_add_countP (fun u => u == tag) (l := l)
  rw [List.count] at h
  rw [← List.countP_eq_length_filter, split, h, Nat.add_comm]
  refine congrArg (1 + ·) (List.countP_congr fun u _ => ?_)
  simp

/-- Settles O31. -/
theorem announceTruckAdds : Obligations.AnnounceTruckAdds := by
  refine ⟨fun h a s taken => ?_, fun y number line tag t l ht hl => ?_,
    fun a tag k g t l hk hg ht hl => ?_⟩
  · have announces : ∀ {p : Part} {r : Result} {body : List Byte},
        s.part.announceTruck a = (p, .reply r body) →
        exec (.announceTruck h a) s = .next (s.replied h 0x18#8 r body p) :=
      fun hp => State.request_replied taken h (r := .announceTruck a) hp
    refine ⟨fun out => announces (Part.announceTruck_outOfRange out), fun inRange => ?_⟩
    obtain ⟨mode, code, outcome⟩ := Part.announceTruck_inRange (p := s.part) inRange
    refine ⟨fun known => announces ?_, fun new full => announces ?_, fun i new lt free held => ?_⟩
    · rw [outcome, if_pos known]
    · rw [outcome, new, Table.lowestFree, Table.freeFrom_none fun j _ hj => full j (by omega)]
      rfl
    · refine ⟨newTruck a mode s.part.clock, announces ?_, rfl, rfl, rfl, code, rfl, rfl, rfl, rfl, ?_,
        slotPositions_vacant 0 a.slots, rfl, rfl, rfl, rfl, rfl, rfl, rfl, rfl, ?_⟩
      · rw [outcome, new, Table.lowestFree,
          Table.freeFrom_some (Nat.zero_le i) (by omega) (fun j _ hj => held j hj) free]
        rfl
      · exact (List.map_map ..).trans (List.map_id _)
      · intro l hl
        obtain ⟨args, -, rfl⟩ := List.mem_map.mp hl
        exact addsUp_newLine args
  · have found : y.line? number line = some l := by rw [Yard.line?, ht]; exact hl
    refine ⟨(y.line?_reserve number line tag).trans (by rw [found]; rfl), fun short adds => ?_⟩
    simp only [OrderLine.addsUp, decide_eq_true_eq, List.length_append, List.length_singleton] at adds ⊢
    omega
  · have found : a.yard.line? g.truck g.line = some l := by rw [Yard.line?, ht]; exact hl
    have assigned : (a.yard.pack? tag).bind Pack.assignment = some g := by rw [hk]; exact hg
    refine ⟨(Act.line?_releaseForWeight assigned).trans (by rw [found]; rfl),
      (Yard.line?_unassign_stockShort assigned).trans (by rw [found]; rfl), fun once adds => ?_⟩
    have shorter := length_filter_of_count_one once
    simp only [OrderLine.addsUp, decide_eq_true_eq] at adds ⊢
    omega

end Sys2Proof.Machine
end

section
/-! SUPPORT. What the judgement of jobs (R112 to R115) does to the jobs and the zone queues, and PAUSE TRUCK and
RESUME TRUCK (R62, R63), for O33. -/

namespace Sys2Proof.Machine

namespace Yard

/-! ### The zone queues read after a change (R115) -/

theorem queue_unqueue (y : Yard) (n z : Nat) :
    (y.unqueue n).queue z = (y.queue z).filter fun u => u != n := by
  unfold queue unqueue
  simp only [Vector.getElem?_map]
  cases y.queues[z]? <;> rfl

theorem queue_enqueue (y : Yard) (zone n z : Nat) : (y.enqueue zone n).queue z
    = if z = zone ∧ z < 4 then y.queue z ++ [n] else y.queue z := by
  unfold queue enqueue
  by_cases hz : zone = z
  · subst hz
    rw [vecModify_getElem?_same]
    rcases Nat.lt_or_ge zone 4 with lt | ge
    · rw [if_pos ⟨rfl, lt⟩, Vector.getElem?_eq_getElem lt]
      rfl
    · rw [if_neg (by omega), Vector.getElem?_eq_none ge]
      rfl
  · rw [vecModify_getElem?_other _ _ hz, if_neg fun h => hz h.1.symm]

theorem job?_modifyJob (y : Yard) (n m : Nat) (f : Job → Job) : (y.modifyJob n f).job? m
    = if m = n then (y.job? m).map f else y.job? m := by
  split
  · next e => rw [e]; exact Table.get?_modify_same ..
  · next e => exact Table.get?_modify_other _ _ (Ne.symm e)

/-! ### The writes of a judgement -/

/-- R114: the effect of a judgement that finds a queued job neither READY nor ASIDE_READY. -/
def sendBack (y : Yard) (n : Nat) : Yard :=
  (y.unqueue n).modifyJob n fun j => { j with state := .waiting, bound := none }

theorem job?_sendBack (y : Yard) (n m : Nat) : (y.sendBack n).job? m
    = if m = n then (y.job? m).map fun j => { j with state := .waiting, bound := none } else y.job? m :=
  (y.unqueue n).job?_modifyJob n m _

section
variable {e : Env} {y : Yard} {n : Nat} {j : Job} {st : JobState} {b : Option Nat}

theorem job?_makeReady (m : Nat) : (y.makeReady e n j st b).job? m
    = if m = n then (y.job? m).map fun j => { j with state := st, bound := b } else y.job? m := by
  rw [← y.job?_modifyJob n m fun j => { j with state := st, bound := b }]
  unfold makeReady
  split <;> rfl

/-- R114: from WAITING the job joins the tail of its zone queue; queued, it keeps its place. -/
theorem queue_makeReady (z : Nat) : (y.makeReady e n j st b).queue z
    = if j.state = .waiting ∧ z = y.zoneOfJob e j ∧ z < 4 then y.queue z ++ [n] else y.queue z := by
  unfold makeReady
  split
  · next waiting => rw [queue_enqueue]; simp only [waiting, true_and]; rfl
  · next queued => rw [if_neg fun h => queued h.1]; rfl

/-! ### The judgement by its verdict (R114) -/

theorem judge_ready (hj : y.job? n = some j) (judged : j.state.judged = true)
    (hv : y.verdict e j = .ready b) : y.judge e n = y.makeReady e n j .ready b := by
  unfold judge
  rw [hj]
  simp only [judged, if_true, hv]

theorem judge_aside (hj : y.job? n = some j) (judged : j.state.judged = true)
    (hv : y.verdict e j = .aside b) : y.judge e n = y.makeReady e n j .asideReady b := by
  unfold judge
  rw [hj]
  simp only [judged, if_true, hv]

theorem judge_neither (hj : y.job? n = some j) (judged : j.state.judged = true)
    (hv : y.verdict e j = .neither) :
    y.judge e n = if j.state = .waiting then y else y.sendBack n := by
  unfold judge
  rw [hj]
  simp only [judged, if_true, hv]
  rfl

end

/-- R114: a judgement writes nothing, makes a job READY or ASIDE_READY, or sends a queued job back. -/
theorem judge_cases (e : Env) (y : Yard) (n : Nat) : y.judge e n = y
    ∨ ∃ j, y.job? n = some j ∧ j.state.judged = true
      ∧ ((∃ st b, (st = .ready ∨ st = .asideReady) ∧ y.judge e n = y.makeReady e n j st b)
        ∨ (j.state ≠ .waiting ∧ y.judge e n = y.sendBack n)) := by
  cases hj : y.job? n with
  | none => exact .inl (by rw [judge, hj])
  | some j =>
    cases judged : j.state.judged with
    | false => exact .inl (by rw [judge, hj]; simp [judged])
    | true =>
      cases hv : y.verdict e j with
      | ready b => exact .inr ⟨j, rfl, judged, .inl ⟨_, _, .inl rfl, judge_ready hj judged hv⟩⟩
      | aside b => exact .inr ⟨j, rfl, judged, .inl ⟨_, _, .inr rfl, judge_aside hj judged hv⟩⟩
      | neither =>
        rw [judge_neither hj judged hv]
        split
        · exact .inl rfl
        · next queued => exact .inr ⟨j, rfl, judged, .inr ⟨queued, rfl⟩⟩

/-! ### What a judgement makes of a job -/

/-- R114: a job after its judgement. -/
def judged (e : Env) (y : Yard) (j : Job) : Job :=
  if j.state.judged then
    match y.verdict e j with
    | .ready b => { j with state := .ready, bound := b }
    | .aside b => { j with state := .asideReady, bound := b }
    | .neither => if j.state = .waiting then j else { j with state := .waiting, bound := none }
  else j

theorem job?_judge_same (e : Env) (y : Yard) (n : Nat) :
    (y.judge e n).job? n = (y.job? n).map (y.judged e) := by
  cases hj : y.job? n with
  | none => rw [judge, hj]; exact hj
  | some j =>
    rw [Option.map_some, judged]
    split
    · next judged =>
      split
      · next b hv => rw [judge_ready hj judged hv, job?_makeReady, if_pos rfl, hj]; rfl
      · next b hv => rw [judge_aside hj judged hv, job?_makeReady, if_pos rfl, hj]; rfl
      · next hv =>
        rw [judge_neither hj judged hv]
        split
        · exact hj
        · rw [job?_sendBack, if_pos rfl, hj]; rfl
    · next other => rw [judge, hj]; simpa [other] using hj

theorem job?_judge_other (e : Env) (y : Yard) {n m : Nat} (h : m ≠ n) :
    (y.judge e n).job? m = y.job? m := by
  rcases y.judge_cases e n with same | ⟨j, -, -, ⟨st, b, -, made⟩ | ⟨-, back⟩⟩
  · rw [same]
  · rw [made, job?_makeReady, if_neg h]
  · rw [back, job?_sendBack, if_neg h]

end Yard

/-! ### Yards that differ by judgements alone -/

/-- A job without what a judgement writes: which of the judged states it has, and its bound terminal. -/
def Job.unjudged (j : Job) : Job :=
  { j with state := if j.state.judged then .waiting else j.state, bound := none }

/-- A yard after judgements: its tables stay, and its jobs but for what a judgement writes. -/
structure Yard.JudgedTo (y z : Yard) : Prop where
  stack : z.stack = y.stack
  packs : z.packs = y.packs
  trucks : z.trucks = y.trucks
  loader : z.loader = y.loader
  jobs : ∀ n, (z.job? n).map Job.unjudged = (y.job? n).map Job.unjudged

theorem JobState.judged_of_ready {st : JobState} (h : st = .ready ∨ st = .asideReady) : st.judged = true := by
  rcases h with rfl | rfl <;> rfl

theorem JobState.queued_of_judged {st : JobState} (judged : st.judged = true) (h : st ≠ .waiting) :
    st = .ready ∨ st = .asideReady := by
  cases st <;> simp_all [JobState.judged]

theorem Job.unjudged_write {j : Job} (judged : j.state.judged = true) {st : JobState} (h : st.judged = true)
    (b : Option Nat) : Job.unjudged { j with state := st, bound := b } = j.unjudged := by
  simp [Job.unjudged, judged, h]

/-- R112: the terminal of a job's move, while that move is SENT or ACCEPTED. -/
def Job.sentIn (y : Yard) (j : Job) : Option Nat :=
  if j.state = .sent ∨ j.state = .accepted then (j.move.bind y.move?).map Move.terminal else none

theorem Job.sentIn_unjudged (y : Yard) (j : Job) : j.unjudged.sentIn y = j.sentIn y := by
  obtain ⟨work, tag, state, bound, move⟩ := j
  cases state <;> rfl

namespace Yard

theorem sentAt?_eq (y : Yard) (tag : Nat) : y.sentAt? tag
    = ((y.pack? tag).bind Pack.job).bind fun n => (y.job? n).bind (Job.sentIn y) := by
  unfold sentAt? jobOfPack?
  cases (y.pack? tag).bind Pack.job with
  | none => rfl
  | some n => cases h : y.job? n <;> simp [h, Job.sentIn]

theorem sentAt?_unjudged (y : Yard) (tag : Nat) : y.sentAt? tag
    = ((y.pack? tag).bind Pack.job).bind fun n => ((y.job? n).map Job.unjudged).bind (Job.sentIn y) := by
  rw [sentAt?_eq]
  refine congrArg (Option.bind _) (funext fun n => ?_)
  cases y.job? n with
  | none => rfl
  | some j => exact (j.sentIn_unjudged y).symm

/-- R112: what a move to a truck's slot reads of its job. -/
def loadsAt (number slot : Nat) (o : Option Job) : Bool :=
  match o with
  | some { work := .load n target, .. } => decide (n = number) && decide (target.slot = slot)
  | _ => false

theorem loadsAt_unjudged (number slot : Nat) (o : Option Job) :
    loadsAt number slot (o.map Job.unjudged) = loadsAt number slot o := by
  cases o with
  | none => rfl
  | some j =>
    obtain ⟨work, tag, state, bound, move⟩ := j
    cases work <;> rfl

theorem toTruckOutstanding_eq (y : Yard) (number slot : Nat) : y.toTruckOutstanding number slot
    = y.loader.moves.anyVal fun _ m =>
      decide (m.kind = .toTruck) && loadsAt number slot ((y.job? m.job).map Job.unjudged) := by
  simp only [loadsAt_unjudged]
  rfl

namespace JudgedTo

variable {y z w : Yard}

theorem refl (y : Yard) : y.JudgedTo y := ⟨rfl, rfl, rfl, rfl, fun _ => rfl⟩

theorem trans (h : y.JudgedTo z) (k : z.JudgedTo w) : y.JudgedTo w :=
  ⟨k.stack.trans h.stack, k.packs.trans h.packs, k.trucks.trans h.trucks, k.loader.trans h.loader,
    fun n => (k.jobs n).trans (h.jobs n)⟩

theorem pack? (h : y.JudgedTo z) (tag : Nat) : z.pack? tag = y.pack? tag := congrArg (·.get? tag) h.packs

theorem truck? (h : y.JudgedTo z) (n : Nat) : z.truck? n = y.truck? n := Yard.truck?_of_trucks h.trucks n

theorem bayOf? (h : y.JudgedTo z) (tag : Nat) : z.bayOf? tag = y.bayOf? tag := by
  rw [Yard.bayOf?, h.pack?, Yard.bayOf?]

theorem sentAt? (h : y.JudgedTo z) (tag : Nat) : z.sentAt? tag = y.sentAt? tag := by
  have sent : Job.sentIn z = Job.sentIn y := by
    funext j
    unfold Job.sentIn
    rw [show z.move? = y.move? from funext fun n => congrArg (·.moves.get? n) h.loader]
  rw [sentAt?_unjudged, sentAt?_unjudged, h.pack?, sent]
  simp only [h.jobs]

theorem toTruckOutstanding (h : y.JudgedTo z) (number slot : Nat) :
    z.toTruckOutstanding number slot = y.toTruckOutstanding number slot := by
  rw [toTruckOutstanding_eq, toTruckOutstanding_eq, h.loader]
  simp only [h.jobs]

theorem reach (h : y.JudgedTo z) (posted : Bool) (b tag : Nat) : z.reach posted b tag = y.reach posted b tag := by
  unfold Yard.reach Yard.above Yard.stackOf
  simp only [h.stack, h.sentAt?]

theorem below_hasJob (h : y.JudgedTo z) (b tag : Nat) :
    (z.below b tag).any z.hasJob = (y.below b tag).any y.hasJob := by
  have same : z.hasJob = y.hasJob := funext fun u => by unfold Yard.hasJob; rw [h.pack?]
  rw [same]
  unfold Yard.below Yard.stackOf
  rw [h.stack]

/-- R112, R113: a judgement reads nothing that judgements write. -/
theorem verdict (h : y.JudgedTo z) (e : Env) (j : Job) : z.verdict e j = y.verdict e j := by
  unfold Yard.verdict Yard.offloadVerdict Yard.loadVerdict
  simp only [h.pack?, h.truck?, h.bayOf?, h.reach, h.below_hasJob, h.toTruckOutstanding]

theorem judged (h : y.JudgedTo z) (e : Env) : z.judged e = y.judged e :=
  funext fun j => by unfold Yard.judged; rw [h.verdict]

theorem zoneOfJob (h : y.JudgedTo z) (e : Env) (j : Job) : z.zoneOfJob e j = y.zoneOfJob e j := by
  unfold Yard.zoneOfJob
  simp only [h.truck?, h.bayOf?]

/-- Writes that change one judged job in its judged state and its terminal alone. -/
theorem of_write {n : Nat} {j : Job} (hj : y.job? n = some j) (hjudged : j.state.judged = true)
    {st : JobState} (hst : st.judged = true) {b : Option Nat} (stack : z.stack = y.stack)
    (packs : z.packs = y.packs) (trucks : z.trucks = y.trucks) (loader : z.loader = y.loader)
    (jobs : ∀ m, z.job? m
      = if m = n then (y.job? m).map fun j => { j with state := st, bound := b } else y.job? m) :
    y.JudgedTo z := by
  refine ⟨stack, packs, trucks, loader, fun m => ?_⟩
  rw [jobs]
  split
  · next e =>
    rw [e, hj]
    exact congrArg some (Job.unjudged_write hjudged hst b)
  · rfl

end JudgedTo

theorem judge_to (e : Env) (y : Yard) (n : Nat) : y.JudgedTo (y.judge e n) := by
  have calm := Yard.calm_judge e y n
  have packs : (y.judge e n).packs = y.packs := by
    rcases y.judge_cases e n with same | ⟨j, -, -, ⟨st, b, -, made⟩ | ⟨-, back⟩⟩
    · rw [same]
    · rw [made, makeReady]; split <;> rfl
    · rw [back]; rfl
  have written : ∀ {j : Job} {st : JobState} {b : Option Nat}, y.job? n = some j → j.state.judged = true →
      st.judged = true → (∀ m, (y.judge e n).job? m
        = if m = n then (y.job? m).map fun j => { j with state := st, bound := b } else y.job? m) →
      y.JudgedTo (y.judge e n) := fun hj judged hst =>
    .of_write hj judged hst (congrArg Prod.fst calm) packs (judge_trucks e y n)
      (congrArg (fun c => c.2.2) calm)
  rcases y.judge_cases e n with same | ⟨j, hj, judged, ⟨st, b, hst, made⟩ | ⟨-, back⟩⟩
  · rw [same]
    exact .refl y
  · exact written hj judged (JobState.judged_of_ready hst) fun m => by rw [made, job?_makeReady]
  · exact written hj judged (st := .waiting) rfl fun m => by rw [back, job?_sendBack]

/-! ### Every job is judged (R114) -/

theorem job?_judgeFold (e : Env) {l : List Nat} (once : l.Nodup) (y : Yard) (n : Nat) :
    (l.foldl (Yard.judge e) y).job? n = if n ∈ l then (y.job? n).map (y.judged e) else y.job? n := by
  induction l generalizing y with
  | nil => rfl
  | cons m rest ih =>
    obtain ⟨fresh, once⟩ := List.nodup_cons.mp once
    rw [List.foldl_cons, ih once, (y.judge_to e m).judged e]
    by_cases hn : n = m
    · subst hn
      rw [if_neg fresh, job?_judge_same, if_pos (List.mem_cons_self ..)]
    · rw [y.job?_judge_other e hn]
      simp only [List.mem_cons, hn, false_or]

/-- R114: after the judgement of all jobs each job is as its own judgement, made of the yard before, says. -/
theorem job?_judgeAll (e : Env) {y : Yard} (wf : y.jobs.wf = true) (n : Nat) :
    (y.judgeAll e).job? n = (y.job? n).map (y.judged e) := by
  have once : y.jobs.keys.Nodup := ((Table.rising_iff _).mp wf).imp Nat.ne_of_lt
  rw [judgeAll, job?_judgeFold e once]
  split
  · rfl
  · next absent =>
    have none : y.job? n = none := Option.eq_none_iff_forall_ne_some.mpr fun j hj =>
      absent (List.mem_map.mpr ⟨(n, j), Table.mem_of_get? hj, rfl⟩)
    rw [none]
    rfl

/-! ### The queues list the queued jobs (R115) -/

theorem belongsIn_of_job? {e : Env} {y : Yard} {n : Nat} {j : Job} (hj : y.job? n = some j) (z : Nat) :
    y.belongsIn e n z
      = ((decide (j.state = .ready) || decide (j.state = .asideReady)) && decide (y.zoneOfJob e j = z)) := by
  rw [belongsIn, hj]

/-- R115: a WAITING job belongs in no queue. -/
theorem belongsIn_waiting {e : Env} {y : Yard} {n : Nat} {j : Job} (hj : y.job? n = some j)
    (waiting : j.state = .waiting) (z : Nat) : y.belongsIn e n z = false := by
  rw [belongsIn_of_job? hj, waiting]
  rfl

/-- R115: a READY or ASIDE_READY job belongs in the queue of its zone. -/
theorem belongsIn_ready {e : Env} {y : Yard} {n : Nat} {j : Job} (hj : y.job? n = some j)
    (ready : j.state = .ready ∨ j.state = .asideReady) (z : Nat) :
    y.belongsIn e n z = decide (y.zoneOfJob e j = z) := by
  rw [belongsIn_of_job? hj]
  rcases ready with st | st <;> rw [st] <;> rfl

theorem belongsIn_judge_other (e : Env) (y : Yard) {n m : Nat} (h : m ≠ n) (z : Nat) :
    (y.judge e n).belongsIn e m z = y.belongsIn e m z := by
  unfold belongsIn
  rw [y.job?_judge_other e h]
  simp only [(y.judge_to e n).zoneOfJob]

/-- R115: a judgement keeps the queues in agreement with the jobs. -/
theorem Queued.judge {e : Env} {y : Yard} (h : y.Queued e) (n : Nat) : (y.judge e n).Queued e := by
  intro m z hz
  rcases y.judge_cases e n with same | ⟨j, hj, judged, ⟨st, b, hst, made⟩ | ⟨queued, back⟩⟩
  · rw [same]
    exact h m z hz
  · by_cases hm : m = n
    · subst hm
      have now : (y.judge e m).job? m = some { j with state := st, bound := b } := by
        rw [made, job?_makeReady, if_pos rfl, hj]
        rfl
      rw [belongsIn_ready now hst, (y.judge_to e m).zoneOfJob, made, queue_makeReady]
      rw [show y.zoneOfJob e { j with state := st, bound := b } = y.zoneOfJob e j from rfl]
      by_cases waiting : j.state = .waiting
      · have unlisted : (y.queue z).count m = 0 := by
          rw [h m z hz, belongsIn_waiting hj waiting]
          rfl
        by_cases zone : z = y.zoneOfJob e j
        · rw [if_pos ⟨waiting, zone, hz⟩, List.count_append, unlisted, if_pos (decide_eq_true zone.symm)]
          simp
        · rw [if_neg fun h => zone h.2.1, unlisted, decide_eq_false (Ne.symm zone)]
          rfl
      · rw [if_neg fun h => waiting h.1, h m z hz,
          belongsIn_ready hj (JobState.queued_of_judged judged waiting)]
    · rw [belongsIn_judge_other e y hm, made, queue_makeReady, ← h m z hz]
      split
      · rw [List.count_append]
        simp [Ne.symm hm]
      · rfl
  · by_cases hm : m = n
    · subst hm
      have now : (y.judge e m).job? m = some { j with state := .waiting, bound := none } := by
        rw [back, job?_sendBack, if_pos rfl, hj]
        rfl
      have gone : ((y.queue z).filter fun u => u != m).count m = 0 :=
        List.count_eq_zero.mpr fun hmem => by simp at hmem
      rw [belongsIn_waiting now rfl, back, sendBack]
      exact (congrArg (List.count m) (y.queue_unqueue m z)).trans gone
    · rw [belongsIn_judge_other e y hm, ← h m z hz, back]
      refine (congrArg (List.count m) (y.queue_unqueue n z)).trans ?_
      exact List.count_filter (by simpa using hm)

theorem Queued.judgeAll {e : Env} {y : Yard} (h : y.Queued e) : (y.judgeAll e).Queued e := by
  unfold Yard.judgeAll
  generalize y.jobs.keys = l
  induction l generalizing y with
  | nil => exact h
  | cons n rest ih => exact ih (h.judge n)

/-! ### What the service of the queues leaves of the trucks -/

theorem serveZone_trucks (e : Env) (zone fuel : Nat) (y : Yard) :
    (Yard.serveZone e zone fuel y).trucks = y.trucks := by
  induction fuel generalizing y with
  | zero => rfl
  | succ fuel ih =>
    unfold serveZone
    split
    · rfl
    · next pl _ =>
      obtain ⟨-, -, -, trucks, -⟩ := y.send_rest pl
      rw [ih, judgeAll_trucks, trucks]

theorem serveAll_trucks (e : Env) (y : Yard) : (y.serveAll e).trucks = y.trucks := by
  unfold serveAll
  split
  · simp only [List.foldl_cons, List.foldl_nil, serveZone_trucks]
  · rfl

end Yard

/-! ### PAUSE TRUCK and RESUME TRUCK (R62, R63) -/

/-- R62, R63: a truck's state is written, the jobs are judged and the queues served: the state stays, and no
stack changes. -/
theorem Yard.moved_spec (e : Env) {y : Yard} {n : Nat} (there : (y.truckState? n).isSome = true)
    (st : TruckState) :
    let z := ((y.modifyTruck n fun t => { t with state := st }).judgeAll e).serveAll e
    z.truckState? n = some st ∧ z.stack = y.stack := by
  refine ⟨?_, ?_⟩
  · rw [Yard.truckState?_of_trucks ((Yard.serveAll_trucks e _).trans (Yard.judgeAll_trucks e _)),
      Yard.truckState?, y.truck?_modifyTruck_same n (f := fun t => { t with state := st }) fun _ => rfl]
    obtain ⟨s, hs⟩ := Option.isSome_iff_exists.mp there
    obtain ⟨t, ht, -⟩ := Option.map_eq_some_iff.mp hs
    rw [ht]
    rfl
  · rw [Yard.stack_of_still (Yard.still_serveAll e _), Yard.stack_of_still (Yard.still_judgeAll e _),
      Yard.modifyTruck_stack]

/-- Settles O33: the requests by the truck's state, and the judgement by its verdict (Yard.judged). -/
theorem pauseAndResume : Obligations.PauseAndResume := by
  refine ⟨fun h n s taken lo hi => ?_, fun e y n j hj judged => ⟨fun st b hv => ?_, fun hv => ⟨fun waiting => ?_,
    fun queued => ⟨?_, fun z => ?_⟩⟩⟩, fun e y => ⟨Yard.Queued.judgeAll, fun n j wf hj => ?_⟩⟩
  · have pauses : ∀ {p : Part} {r : Result}, s.part.pauseTruck n = (p, .reply r []) →
        exec (.pauseTruck h n) s = .next (s.replied h 0x1A#8 r [] p) :=
      fun hp => State.request_replied taken h (r := .pauseTruck n) hp
    have resumes : ∀ {p : Part} {r : Result}, s.part.resumeTruck n = (p, .reply r []) →
        exec (.resumeTruck h n) s = .next (s.replied h 0x1B#8 r [] p) :=
      fun hp => State.request_replied taken h (r := .resumeTruck n) hp
    have inRange := truckInRange_of lo hi
    refine ⟨fun none => ⟨pauses ?_, resumes ?_⟩, fun st hst => ⟨?_, ?_, fun notLoading notPaused => ?_⟩⟩
    · rw [Part.pauseTruck, inRange, none]; rfl
    · rw [Part.resumeTruck, inRange, none]; rfl
    · rintro rfl
      obtain ⟨state, stack⟩ := Yard.moved_spec s.part.env (y := s.part.yard) (n := n) (by rw [hst]; rfl) .paused
      refine ⟨⟨_, pauses ?_, rfl, state, stack⟩, resumes ?_⟩
      · rw [Part.pauseTruck, inRange, hst]; rfl
      · rw [Part.resumeTruck, inRange, hst]; rfl
    · rintro rfl
      obtain ⟨state, stack⟩ := Yard.moved_spec s.part.env (y := s.part.yard) (n := n) (by rw [hst]; rfl) .loading
      refine ⟨⟨_, resumes ?_, rfl, state, stack⟩, pauses ?_⟩
      · rw [Part.resumeTruck, inRange, hst]; rfl
      · rw [Part.pauseTruck, inRange, hst]; rfl
    · refine ⟨pauses ?_, resumes ?_⟩
      · rw [Part.pauseTruck, inRange, hst]
        cases st with
        | loading => exact absurd rfl notLoading
        | paused => exact absurd rfl notPaused
        | _ => rfl
      · rw [Part.resumeTruck, inRange, hst]
        cases st with
        | loading => exact absurd rfl notLoading
        | paused => exact absurd rfl notPaused
        | _ => rfl
  · have made : y.judge e n = y.makeReady e n j st b := by
      rcases hv with ⟨hv, rfl⟩ | ⟨hv, rfl⟩
      · exact Yard.judge_ready hj judged hv
      · exact Yard.judge_aside hj judged hv
    rw [made]
    exact ⟨by rw [Yard.job?_makeReady, if_pos rfl, hj]; rfl, Yard.queue_makeReady⟩
  · rw [Yard.judge_neither hj judged hv, if_pos waiting]
  · rw [Yard.judge_neither hj judged hv, if_neg queued, Yard.job?_sendBack, if_pos rfl, hj]
    rfl
  · rw [Yard.judge_neither hj judged hv, if_neg queued]
    exact y.queue_unqueue n z
  · rw [Yard.job?_judgeAll e wf, hj, Option.map_some, Yard.judged]
    refine ⟨fun other => by rw [other]; rfl, fun judged => ⟨fun b hv => ?_, fun b hv => ?_, fun hv => ?_⟩⟩
    · rw [if_pos judged, hv]
    · rw [if_pos judged, hv]
    · rw [if_pos judged, hv]
      simp only
      split
      · next waiting => exact congrArg some waiting
      · rfl

end Sys2Proof.Machine
end

section
/-! SUPPORT. CANCEL TRUCK (R64, R65, R67): the table indices and numbers of trucks, an UNLOADING truck on its way
out of the yard, and what each step of a cancel does to it, for O32. -/

namespace Sys2Proof.Machine

namespace Yard

/-! ### Table indices and numbers of trucks -/

/-- The table indices of the trucks with their numbers. -/
def roster (y : Yard) : List (Nat × Nat) := y.trucks.entries.map fun en => (en.1, en.2.number)

theorem roster_of_trucks {y z : Yard} (h : z.trucks = y.trucks) : z.roster = y.roster := by
  rw [roster, h, roster]

theorem roster_modifyTruck (y : Yard) (n : Nat) {f : Truck → Truck} (number : ∀ t, (f t).number = t.number) :
    (y.modifyTruck n f).roster = y.roster := by
  unfold modifyTruck
  split
  · simp only [roster, Table.modify, Table.mapVal, List.map_map]
    refine List.map_congr_left fun en _ => ?_
    simp only [Function.comp]
    split
    · rw [number]
    · rfl
  · rfl

/-- No write of the job list, the allocator or the placement unit gives a truck another index or number. -/
theorem Settles.roster {free : Bool} {y z : Yard} (s : y.Settles free z) : z.roster = y.roster := by
  induction s with
  | trans _ _ ih ik => exact ik.trans ih
  | truck y n f number _ => exact y.roster_modifyTruck n number
  | refl | pack | job | newJob | dropJob | queues | flag | lane => rfl

theorem truckNo?_roster (y : Yard) (n : Nat) :
    (y.truckNo? n).map Prod.fst = (y.roster.find? fun r => decide (r.2 = n)).map Prod.fst := by
  rw [roster, List.find?_map, Option.map_map]
  rfl

theorem get?_none_of_roster {y : Yard} {i : Nat} (h : ∀ r ∈ y.roster, r.1 ≠ i) : y.trucks.get? i = none :=
  Option.eq_none_iff_forall_ne_some.mpr fun t ht =>
    h (i, t.number) (List.mem_map.mpr ⟨(i, t), Table.mem_of_get? ht, rfl⟩) rfl

theorem roster_drop (y : Yard) (i : Nat) :
    ({ y with trucks := y.trucks.drop i } : Yard).roster = y.roster.filter fun r => r.1 != i := by
  simp only [roster, Table.drop, List.filter_map]
  rfl

theorem dropTruck_of_truckNo? {y : Yard} {n i : Nat} {t : Truck} (h : y.truckNo? n = some (i, t)) :
    y.dropTruck n = { y with trucks := y.trucks.drop i } := by
  rw [dropTruck, h]

/-- A truck that leaves the table leaves the others there. -/
theorem roster_dropTruck_subset (y : Yard) (n : Nat) : (y.dropTruck n).roster ⊆ y.roster := by
  cases h : y.truckNo? n with
  | none => rw [dropTruck, h]; exact List.Subset.refl _
  | some found =>
    rw [dropTruck_of_truckNo? (i := found.1) (t := found.2) h, roster_drop]
    exact List.filter_subset_self _

theorem roster_releaseLane (y : Yard) (n : Nat) : (y.releaseLane n).roster = y.roster := by
  unfold releaseLane
  split
  · exact y.roster_modifyTruck n (f := fun t => { t with lane := none }) fun _ => rfl
  · rfl

theorem roster_testUnloaded_subset (y : Yard) (n : Nat) : (y.testUnloaded n).roster ⊆ y.roster := by
  unfold testUnloaded
  split
  · rw [← y.roster_releaseLane n]
    exact roster_dropTruck_subset _ n
  · exact List.Subset.refl _

end Yard

/-! ### The cancel before loading (R64) -/

/-- R64: the record of a truck cancelled before loading leaves its index. -/
theorem Act.cancelEarly_leaves (e : Env) {a : Act} {n i : Nat} {t : Truck}
    (h : a.yard.truckNo? n = some (i, t)) :
    ((a.cancelEarly e t).finish e).trucks.get? i = none := by
  have number : t.number = n :=
    of_decide_eq_true (List.find?_some (p := fun en : Nat × Truck => decide (en.2.number = n)) h)
  have before : ((a.freedReserved t).yard.truckNo? n).map Prod.fst = some i := by
    rw [Yard.truckNo?_roster, (a.settles_freedReserved t).roster, ← Yard.truckNo?_roster, h]
    rfl
  obtain ⟨⟨k, u⟩, found, rfl⟩ := Option.map_eq_some_iff.mp before
  have dropped : ∀ r ∈ ((a.freedReserved t).yard.dropTruck t.number).roster, r.1 ≠ k := by
    rw [number, Yard.dropTruck_of_truckNo? found, Yard.roster_drop]
    exact fun r hr => by simpa using (List.mem_filter.mp hr).2
  have left : (a.cancelEarly e t).yard.roster = ((a.freedReserved t).yard.dropTruck t.number).roster := by
    have offered := (((a.freedReserved t).on fun y => y.dropTruck t.number).settles_offers e).roster
    rw [Act.cancelEarly_yard]
    split
    · exact offered
    · exact offered
  have finished : ((a.cancelEarly e t).finish e).roster = (a.cancelEarly e t).yard.roster := by
    rw [Act.finish, Yard.roster_of_trucks (Yard.serveAll_trucks e _)]
    exact ((Act.settles_settled e _).trans (Act.settles_grants e 6 _)).roster
  refine Yard.get?_none_of_roster ?_
  rw [finished, left]
  exact dropped

/-! ### The docks of the other trucks through offers (R83, R84) -/

namespace Yard

/-- The dock of the truck of a number. -/
def dock? (y : Yard) (n : Nat) : Option Dock := (y.truck? n).map Truck.dock

theorem dock?_eq_find (y : Yard) (n : Nat) : y.dock? n = y.docks.find? fun d => decide (d.number = n) :=
  y.truck?_dock n

theorem dock?_none {y : Yard} {n : Nat} : y.dock? n = none ↔ y.truck? n = none := Option.map_eq_none_iff

theorem dock?_of_trucks {y z : Yard} (h : z.trucks = y.trucks) (n : Nat) : z.dock? n = y.dock? n := by
  rw [dock?, truck?_of_trucks h, dock?]

theorem truckState?_of_dock? {y : Yard} {n : Nat} {d : Dock} (h : y.dock? n = some d) :
    y.truckState? n = some d.state := by
  rw [truckState?_eq, ← dock?_eq_find, h]
  rfl

theorem Settles.dock? {y z : Yard} (s : y.Settles false z) (n : Nat) : z.dock? n = y.dock? n := by
  rw [dock?_eq_find, s.docks.2, ← dock?_eq_find]

theorem dock?_modifyTruck_other {y : Yard} (ht : y.Tables) (hn : y.Numbered) {n m : Nat} (h : n ≠ m)
    {f : Truck → Truck} {g : Dock → Dock} (hf : ∀ t, (f t).dock = g t.dock)
    (number : ∀ d, (g d).number = d.number) : (y.modifyTruck m f).dock? n = y.dock? n := by
  have kept : ∀ d : Dock, (if d.number = m then g d else d).number = d.number := fun d => by
    split <;> simp [number]
  rw [dock?_eq_find, docks_modifyTruck ht.trucks hn m hf, List.find?_map, dock?_eq_find]
  simp only [Function.comp_def, kept]
  cases hd : y.docks.find? fun d => decide (d.number = n) with
  | none => rfl
  | some d =>
    have : d.number = n := of_decide_eq_true (List.find?_some (p := fun d : Dock => decide (d.number = n)) hd)
    exact congrArg some (if_neg fun e => h (this.symm.trans e))

end Yard

namespace Act

/-- R104: the placement of one truck leaves the docks of the others. -/
theorem dock?_place (e : Env) {a : Act} (ht : a.yard.Tables) (hn : a.yard.Numbered) {n m : Nat} (h : n ≠ m) :
    (a.place e m).yard.dock? n = a.yard.dock? n := by
  cases hm : a.yard.truck? m with
  | none => rw [place, hm]
  | some t =>
    obtain ⟨y, st, before, -, after⟩ := a.place_shape e m (by rw [hm]; rfl)
    rw [after.dock?, ← before.dock?]
    exact Yard.dock?_modifyTruck_other (before.tables ht) (before.numbered.mpr hn) h
      (f := fun t => { t with state := st }) (g := fun d => { d with state := st }) (fun _ => rfl) fun _ => rfl

/-- R84, R85: an offer leaves the dock of a truck that is not in SHORT_WAIT. -/
theorem dock?_offer (e : Env) {a : Act} (ht : a.yard.Tables) (hn : a.yard.Numbered) {n : Nat}
    (h : a.yard.truckState? n ≠ some .shortWait) (tag : Nat) :
    (a.offer e tag).yard.dock? n = a.yard.dock? n := by
  unfold offer
  split
  · rfl
  · next number line taker =>
    have other : n ≠ number := by
      rintro rfl
      exact h (Yard.offerTaker_waits taker hn)
    have reserved := a.yard.settles_reserve (free := false) number line tag
    simp only
    split
    · split
      · exact reserved.dock? n
      · have quiet := reserved.trans ((a.yard.reserve number line tag).settles_dropDeadline number)
        rw [endStockWait]
        exact (dock?_place e (quiet.tables ht) (quiet.numbered.mpr hn) other).trans (quiet.dock? n)
    · exact reserved.dock? n

theorem dock?_offerAll (e : Env) (fuel : Nat) {a : Act} (ht : a.yard.Tables) (hn : a.yard.Numbered) {n : Nat}
    (h : a.yard.truckState? n ≠ some .shortWait) :
    (Act.offerAll e fuel a).yard.dock? n = a.yard.dock? n := by
  induction fuel generalizing a with
  | zero => rfl
  | succ fuel ih =>
    unfold offerAll
    split
    · rfl
    · next tag rest _ =>
      have restates := restates_offer e { a with freed := rest } tag
      have same := dock?_offer e (a := { a with freed := rest }) ht hn h tag
      refine (ih (restates.tables ht) (restates.numbered ht hn) ?_).trans same
      rw [Yard.truckState?_eq, ← Yard.dock?_eq_find, same, Yard.dock?_eq_find, ← Yard.truckState?_eq]
      exact h

theorem dock?_offers (e : Env) {a : Act} (ht : a.yard.Tables) (hn : a.yard.Numbered) {n : Nat}
    (h : a.yard.truckState? n ≠ some .shortWait) : (a.offers e).yard.dock? n = a.yard.dock? n :=
  dock?_offerAll e _ ht hn h

end Act

/-! ### A truck on its way out (R65, R67) -/

/-- R65, R67: a cancelled truck: UNLOADING at its lane, with the lane record `r`; or gone from the table, with
that lane released and TRUCK_REMOVED set. No other truck has its table index. -/
structure Yard.Leaving (n i l : Nat) (r : Lane) (y : Yard) : Prop where
  tables : y.Tables
  lanes : y.LaneLaw
  index : ∀ m, (i, m) ∈ y.roster → m = n
  lot : (y.dock? n = some { number := n, lane := some l, state := .unloading } ∧ y.lane l = r)
    ∨ (y.dock? n = none ∧ holdsFlag y.events .truckRemoved = true ∧ y.lane l = r.release)

namespace Yard.Leaving

variable {n i l : Nat} {r : Lane} {y z : Yard}

theorem of_keeps (h : y.Leaving n i l r) (keeps : y.Keeps z) (roster : z.roster ⊆ y.roster)
    (dock : z.dock? n = y.dock? n) (lanes : z.lanes = y.lanes) (flags : y.FlagsStay z) : z.Leaving n i l r where
  tables := keeps.tables h.tables
  lanes := keeps.lanes h.tables h.lanes
  index m hm := h.index m (roster hm)
  lot := by
    rw [dock, Yard.lane_eq_of_lanes lanes]
    exact h.lot.imp id fun ⟨gone, flag, lane⟩ => ⟨gone, flags _ flag, lane⟩

theorem settles (h : y.Leaving n i l r) (s : y.Settles false z) : z.Leaving n i l r :=
  h.of_keeps s.keeps (by rw [s.roster]; exact List.Subset.refl _) (s.dock? n) s.docks.1 s.flagsStay

/-- Writes of the loader link and the claims alone. -/
theorem of_trucks (h : y.Leaving n i l r) (keeps : y.Keeps z) (trucks : z.trucks = y.trucks)
    (lanes : z.lanes = y.lanes) (events : z.events = y.events) : z.Leaving n i l r :=
  h.of_keeps keeps (by rw [roster_of_trucks trucks]; exact List.Subset.refl _) (dock?_of_trucks trucks n) lanes
    (.of_eq events)

theorem not_waiting (h : y.Leaving n i l r) : y.truckState? n ≠ some .shortWait := by
  rw [truckState?_eq, ← dock?_eq_find]
  rcases h.lot with ⟨dock, -⟩ | ⟨dock, -⟩ <;> rw [dock] <;> simp

theorem offers {a : Act} (h : a.yard.Leaving n i l r) (e : Env) : (a.offers e).yard.Leaving n i l r :=
  h.of_keeps (a.keeps_offers e) (by rw [(a.settles_offers e).roster]; exact List.Subset.refl _)
    (Act.dock?_offers e h.tables h.lanes.numbered h.not_waiting) (a.restates_offers e).lanes
    (a.settles_offers e).flagsStay

/-- R67: the end of unloading takes the truck from the table and releases its lane. -/
theorem testUnloaded (h : y.Leaving n i l r) : (y.testUnloaded n).Leaving n i l r where
  tables := (y.keeps_testUnloaded n).tables h.tables
  lanes := (y.keeps_testUnloaded n).lanes h.tables h.lanes
  index m hm := h.index m (y.roster_testUnloaded_subset n hm)
  lot := by
    unfold Yard.testUnloaded
    split
    · next ended =>
      have unloading : y.truckState? n = some .unloading := by
        by_contra other
        rw [unloadingEnded_of_state other] at ended
        cases ended
      rcases h.lot with ⟨dock, lane⟩ | ⟨gone, -⟩
      · obtain ⟨docks, released, -⟩ := releaseLane_reads h.tables h.lanes n
        have numbered : (y.releaseLane n).Numbered := by
          unfold Numbered
          rw [docks, numbers_map fun d => by split <;> rfl]
          exact h.lanes.numbered
        refine .inr ⟨?_, holdsFlag_raiseIn_same _ _, ?_⟩
        · rw [dock?_eq_find]
          show ((y.releaseLane n).dropTruck n).docks.find? _ = none
          rw [docks_dropTruck (h.tables.releaseLane n).trucks numbered]
          simp
        · rw [dock?_eq_find] at dock
          have released := released _ (List.mem_of_find?_eq_some dock) rfl l rfl
          rw [← lane, ← released]
          exact congrFun (lane_eq_of_lanes (dropTruck_lanes _ n)) l
      · rw [truckState?_eq, ← dock?_eq_find, gone] at unloading
        cases unloading
    · exact h.lot

/-- While its record is there, the truck is UNLOADING. -/
theorem state_of_there (h : y.Leaving n i l r) (there : (y.truck? n).isNone = false) :
    y.truckState? n = some .unloading := by
  rcases h.lot with ⟨dock, -⟩ | ⟨gone, -⟩
  · exact truckState?_of_dock? dock
  · rw [dock?_none.mp gone] at there
    cases there

/-- R67: once its record is not there, its index is free, TRUCK_REMOVED is set and its lane is released. -/
theorem left_of_gone (h : y.Leaving n i l r) (gone : y.truck? n = none) :
    y.trucks.get? i = none ∧ holdsFlag y.events .truckRemoved = true ∧ y.lane l = r.release := by
  rcases h.lot with ⟨dock, -⟩ | ⟨-, left⟩
  · rw [dock?_none.mpr gone] at dock
    cases dock
  · refine ⟨get?_none_of_roster fun entry hm index => ?_, left⟩
    obtain ⟨k, m⟩ := entry
    obtain rfl : k = i := index
    obtain rfl := h.index m hm
    obtain ⟨en, hen, same⟩ := List.mem_map.mp hm
    have absent := List.find?_eq_none.mp (Option.map_eq_none_iff.mp gone) en hen
    exact absent (decide_eq_true (Prod.mk.inj same).2)

end Yard.Leaving

theorem Yard.cancelledLoad?_truck {y : Yard} {j : Job} {number : Nat} (h : y.cancelledLoad? j = some number) :
    j.work.truck? = some number := by
  unfold Yard.cancelledLoad? at h
  split at h
  · next load =>
    split at h
    · rw [load, ← h]; rfl
    · cases h
  · cases h

namespace Act

theorem settles_cancelPack {free : Bool} (number : Nat) (a : Act) (tag : Nat) :
    a.yard.Settles free (Act.cancelPack number a tag).yard := by
  have ended : a.yard.Settles free ((a.endJobOf tag).on fun y =>
      (y.unassign tag).vacatePlanned number tag).yard :=
    (a.settles_endJobOf tag).trans ((Yard.settles_unassign _ tag).trans
      (Yard.settles_vacatePlanned _ number tag))
  unfold cancelPack
  split
  · simp only
    split
    · exact ended.trans (.pack _ tag _)
    · exact ended
  · exact .refl _

/-- R65 step 1. -/
theorem leaving_cancelStep1 {a : Act} {n i l : Nat} {r : Lane} (h : a.yard.Leaving n i l r) (e : Env)
    (t : Truck) : (a.cancelStep1 e t).yard.Leaving n i l r :=
  Yard.Leaving.offers (h.settles ((Yard.Settles.foldl (Act.settles_cancelPack t.number) _ a).trans
    ((Act.settles_clearDue _).trans (Yard.settles_judgeAll e _)))) e

/-- R66: an unsent job of the truck, or of none. -/
theorem leaving_unsend {a : Act} {n i l : Nat} {r : Lane} (h : a.yard.Leaving n i l r) (u : Nat) {j : Job}
    (own : j.work.truck? = some n) : (a.unsend u j).yard.Leaving n i l r := by
  unfold unsend
  split
  · next number cancelled =>
    obtain rfl := Option.some.inj ((Yard.cancelledLoad?_truck cancelled).symm.trans own)
    have freed := (Yard.Settles.pack (free := false) a.yard j.tag _).trans
      (Act.settles_cancelled (a.setPackState j.tag .free) u number j.tag)
    exact (h.settles freed).testUnloaded
  · exact h.settles ((Yard.Settles.pack a.yard j.tag _).trans (Act.settles_jobWaits (a.returnPack j.tag) u))

/-- R65 step 2. -/
theorem leaving_withdrawJob {a : Act} {n i l : Nat} {r : Lane} (h : a.yard.Leaving n i l r) (u : Nat) :
    (Act.withdrawJob n a u).yard.Leaving n i l r := by
  unfold withdrawJob
  split
  · exact h
  · next j _ =>
    split
    · next wanted =>
      split
      · exact h
      · next k _ =>
        split
        · exact h
        · next m _ =>
          split
          · exact h.of_trucks (a.yard.keeps_addWithdraw _ k) rfl rfl rfl
          · obtain ⟨-, -, -, trucks, lanes, -, -, events⟩ := a.yard.dropMove_spec k
            exact leaving_unsend (a := a.on fun y => y.dropMove k)
              (h.of_trucks (a.yard.keeps_dropMove k) trucks lanes events) u wanted.2.1
    · exact h

theorem leaving_withdrawJobs {a : Act} {n i l : Nat} {r : Lane} (h : a.yard.Leaving n i l r) (us : List Nat) :
    (us.foldl (Act.withdrawJob n) a).yard.Leaving n i l r := by
  induction us generalizing a with
  | nil => exact h
  | cons u rest ih => exact ih (leaving_withdrawJob h u)

/-- R65 step 4. -/
theorem settles_offloadAll {free : Bool} (a : Act) (n : Nat) : a.yard.Settles free (a.offloadAll n).yard := by
  unfold offloadAll
  split
  · exact .refl _
  · exact Yard.Settles.foldl (f := fun a (c : BedRef × Nat) => a.createJob (.offload n c.1) c.2)
      (fun a c => a.settles_createJob _ _) _ a

/-- R65: after its cancel the truck is UNLOADING at its lane, or has left. -/
theorem leaving_cancelLate (e : Env) {a : Act} {t : Truck} {i l : Nat} (ht : a.yard.Tables) (hl : a.yard.LaneLaw)
    (found : a.yard.truckNo? t.number = some (i, t)) (lane : t.lane = some l)
    (holds : t.state.holdsLane = true) :
    (a.cancelLate e t).yard.Leaving t.number i l (a.yard.lane l) := by
  have there := Yard.truck?_of_truckNo? found
  have write := a.yard.sound_state t.number (f := fun t => { t with state := .unloading })
    (st := .unloading) (fun _ => rfl) fun _ s hs => by
      rw [Yard.truckState?_of_truckNo? found] at hs
      rw [← Option.some.inj hs, holds]
      rfl
  have begins : (a.yard.modifyTruck t.number fun t => { t with state := .unloading }).Leaving t.number i l
      (a.yard.lane l) := by
    refine ⟨write.tables ht, write.lanes ht hl, fun m hm => ?_, .inl ⟨?_, ?_⟩⟩
    · rw [a.yard.roster_modifyTruck t.number (f := fun t => { t with state := .unloading }) fun _ => rfl] at hm
      obtain ⟨en, hen, same⟩ := List.mem_map.mp hm
      obtain ⟨rfl, rfl⟩ := Prod.mk.inj same
      rw [Table.entry_unique ht.trucks hen (List.mem_of_find?_eq_some found) rfl]
    · rw [Yard.dock?, a.yard.truck?_modifyTruck_same t.number (f := fun t => { t with state := .unloading })
        fun _ => rfl, there, ← lane]
      rfl
    · rw [Yard.lane_eq_of_lanes (a.yard.modifyTruck_lanes _ _)]
  have step1 := leaving_cancelStep1
    (a := a.on fun y => y.modifyTruck t.number fun t => { t with state := .unloading }) begins e t
  exact ((leaving_withdrawJobs step1 _).settles (settles_offloadAll _ t.number)).testUnloaded

end Act

/-! ### CANCEL TRUCK -/

section
variable {p : Part} {n i : Nat} {t : Truck}

/-- R64, R65: a cancel of a truck that is not armed goes by its state. -/
theorem Part.cancelTruck_early (lo : 1 ≤ n) (hi : n ≤ 65535) (found : p.yard.truckNo? n = some (i, t))
    (free : p.weigh.arming.map Arming.truck ≠ some n) (goes : t.state.cancelEarly = some true) :
    p.cancelTruck n
      = (p.doAct fun e a => a.cancelEarly e t, .ok [byte t.state.code, byte 0]) := by
  simp [Part.cancelTruck, truckInRange_of lo hi, Yard.truck?_of_truckNo? found, free, goes]

theorem Part.cancelTruck_late (lo : 1 ≤ n) (hi : n ≤ 65535) (found : p.yard.truckNo? n = some (i, t))
    (free : p.weigh.arming.map Arming.truck ≠ some n) (goes : t.state.cancelEarly = some false) :
    p.cancelTruck n = (p.doAct fun e a => a.cancelLate e t,
      .ok [byte t.state.code, if p.yard.cancelLeaves p.env t then byte 0 else byte 1]) := by
  simp [Part.cancelTruck, truckInRange_of lo hi, Yard.truck?_of_truckNo? found, free, goes]

theorem Part.cancelTruck_refused (lo : 1 ≤ n) (hi : n ≤ 65535) (found : p.yard.truckNo? n = some (i, t))
    (free : p.weigh.arming.map Arming.truck ≠ some n) (stays : t.state.cancelEarly = none) :
    p.cancelTruck n = p.refuse .wrongState := by
  simp [Part.cancelTruck, truckInRange_of lo hi, Yard.truck?_of_truckNo? found, free, stays]

end

/-- Settles O32: a truck cancelled during its loading is on its way out (Yard.Leaving) after each step. -/
theorem cancelTruckOutcomes : Obligations.CancelTruckOutcomes := by
  intro h n s taken lo hi
  have cancels : ∀ {p : Part} {r : Result} {body : List Byte}, s.part.cancelTruck n = (p, .reply r body) →
      exec (.cancelTruck h n) s = .next (s.replied h 0x19#8 r body p) :=
    fun hp => State.request_replied taken h (r := .cancelTruck n) hp
  refine ⟨fun none => cancels ?_, fun i t found => ⟨fun armed => cancels ?_, fun free =>
    ⟨fun early => ?_, fun late => ?_, fun done => cancels ?_⟩⟩⟩
  · rw [Part.cancelTruck, truckInRange_of lo hi, Yard.truck?, none]
    rfl
  · rw [Part.cancelTruck, truckInRange_of lo hi, Yard.truck?_of_truckNo? found]
    simp only [not_true_eq_false, if_false, if_pos armed]
    rfl
  · have goes : t.state.cancelEarly = some true := by rcases early with st | st | st <;> rw [st] <;> rfl
    exact ⟨_, cancels (Part.cancelTruck_early lo hi found free goes), rfl, Act.cancelEarly_leaves _ found⟩
  · have goes : t.state.cancelEarly = some false := by
      rcases late with st | st | st | st <;> rw [st] <;> rfl
    have holds : t.state.holdsLane = true := by rcases late with st | st | st | st <;> rw [st] <;> rfl
    refine ⟨cancels (Part.cancelTruck_late lo hi found free goes), fun tables lanes => ?_⟩
    obtain ⟨law, -⟩ := s.part.lanes_iff.mp lanes
    obtain ⟨member, rfl⟩ := Yard.dock_of_truck? (Yard.truck?_of_truckNo? found)
    obtain ⟨l, lane, -⟩ := law.berthed t.dock member holds
    have leaving := Act.leaving_cancelLate s.part.env (a := s.part.yard.act) tables law found lane holds
    refine ⟨leaving.state_of_there, fun leaves => ?_⟩
    have gone := Option.isNone_iff_eq_none.mp leaves
    obtain ⟨index, flag, released⟩ := leaving.left_of_gone gone
    exact ⟨gone, index, flag, l, lane, released, by rw [released]; rfl⟩
  · refine Part.cancelTruck_refused lo hi found free ?_
    rcases done with st | st <;> rw [st] <;> rfl

end Sys2Proof.Machine
end

section
/-! SUPPORT. SET PLANNING (R75): the settings that its operands name, and its refusals (O19). -/

namespace Sys2Proof.Machine

/-- R75: the ranges of the planning settings, setting by setting. -/
theorem PlanningSettings.inRange_iff (q : PlanningSettings) : q.inRange = true ↔
    q.digLimit ≤ 5 ∧ q.stockWait ≤ 240 ∧ q.ageing ≤ 240 ∧ q.headroom ≤ 10 := by
  simp [PlanningSettings.inRange, and_assoc]

/-- R75: SET PLANNING reads the settings that its operands name. -/
theorem planningOf?_iff (a : PlanningArgs) (q : PlanningSettings) :
    planningOf? a = some q ↔ planningNamed a q := by
  have fields : planningOf? a = some q ↔ a.digLimit = q.digLimit ∧ a.stockWait = q.stockWait
      ∧ a.ageing = q.ageing ∧ a.headroom = q.headroom ∧ flagOf? a.posted = some q.posted
      ∧ q.inRange = true := by
    unfold planningOf?
    split
    · next posted hposted =>
      rw [hposted]
      obtain ⟨digLimit, stockWait, ageing, headroom, posted'⟩ := q
      simp only [Option.ite_none_right_eq_some, Option.some.injEq, PlanningSettings.mk.injEq]
      constructor
      · rintro ⟨ok, rfl, rfl, rfl, rfl, rfl⟩
        exact ⟨rfl, rfl, rfl, rfl, rfl, ok⟩
      · rintro ⟨rfl, rfl, rfl, rfl, rfl, ok⟩
        exact ⟨ok, rfl, rfl, rfl, rfl, rfl⟩
    · next none => simp [none]
  rw [fields, flagOf?_iff, PlanningSettings.inRange_iff]

/-- R75: SET PLANNING with operands in range writes its settings unless something holds it up. -/
theorem Part.setPlanning_named (p : Part) {a : PlanningArgs} {q : PlanningSettings} (named : planningNamed a q) :
    p.setPlanning a = if ¬ p.flight = .nothing
        ∨ (q.headroom ≠ p.settings.planning.headroom ∧ p.yard.someLoading = true) then p.refuse .busy
      else (p.setPlanningTo q, .ok []) := by
  unfold Part.setPlanning
  rw [(planningOf?_iff a q).mpr named]
  simp only [p.storeBusy_iff]

/-- R75: SET PLANNING whose operands name no settings is refused. -/
theorem Part.setPlanning_unnamed (p : Part) {a : PlanningArgs} (out : ¬ ∃ q, planningNamed a q) :
    p.setPlanning a = p.refuse .badValue := by
  have unread : planningOf? a = none :=
    Option.eq_none_iff_forall_ne_some.mpr fun q hq => out ⟨q, (planningOf?_iff a q).mp hq⟩
  rw [Part.setPlanning, unread]

/-- Settles O19: the operands name settings exactly when SET PLANNING reads them (`planningOf?_iff`). -/
theorem setPlanningWrites : Obligations.SetPlanningWrites := by
  intro h a s taken
  have answers : ∀ {p : Part} {res : Result}, s.part.setPlanning a = (p, .reply res []) →
      exec (.setPlanning h a) s = .next (s.replied h 0x05#8 res [] p) :=
    fun hp => State.request_replied taken h (r := .setPlanning a) hp
  refine ⟨fun q named idle still => answers ?_, fun out => answers (s.part.setPlanning_unnamed out),
    fun q named held => answers ?_⟩
  · have free : ¬ (¬ s.storeIdle
        ∨ (q.headroom ≠ s.part.settings.planning.headroom ∧ s.part.yard.someLoading = true)) := by
      rintro (flying | ⟨other, loading⟩)
      · exact flying idle
      · rcases still with same | quiet
        · exact other same
        · rw [quiet] at loading
          cases loading
    rw [s.part.setPlanning_named named, if_neg free]
    rfl
  · rw [s.part.setPlanning_named named, if_pos held]
    rfl

end Sys2Proof.Machine
end

section
/-! SUPPORT. The sort by insertion (`sortBy`): it rearranges its list, puts smaller keys first, and keeps the
order of equal keys. -/

namespace Sys2Proof.Machine

/-- Insertion into a list is Mathlib's, with `a` at or before `b` where `b` does not come before `a`. -/
theorem insertBy_eq_orderedInsert {α : Type} (before : α → α → Bool) (a : α) (l : List α) :
    insertBy before a l = l.orderedInsert (fun a b => before b a = false) a := by
  induction l with
  | nil => rfl
  | cons b rest ih =>
    rw [insertBy, List.orderedInsert_cons, ih]
    cases before b a <;> rfl

theorem sortBy_perm {α : Type} (before : α → α → Bool) (l : List α) : (sortBy before l).Perm l := by
  induction l with
  | nil => exact .nil
  | cons a rest ih =>
    rw [sortBy, insertBy_eq_orderedInsert]
    exact (List.perm_orderedInsert _ a _).trans (ih.cons a)

section Stable

variable {α : Type} (key : α → Nat) (earlier : α → α → Prop)

/-- `a` stands before `b` in a stable sort by `key` of a list in the order `earlier`. -/
def stablyBefore (a b : α) : Prop := key a < key b ∨ (key a = key b ∧ earlier a b)

variable {key earlier}

theorem insertBy_stable {a : α} {l : List α} (first : ∀ b ∈ l, earlier a b)
    (sorted : l.Pairwise (stablyBefore key earlier)) :
    (insertBy (fun x y => decide (key x < key y)) a l).Pairwise (stablyBefore key earlier) := by
  induction l with
  | nil => exact List.pairwise_singleton _ a
  | cons b rest ih =>
    obtain ⟨head, tail⟩ := List.pairwise_cons.mp sorted
    obtain ⟨ab, ar⟩ := List.forall_mem_cons.mp first
    rw [insertBy]
    split
    · next smaller =>
      refine List.pairwise_cons.mpr ⟨fun c hc => ?_, ih ar tail⟩
      rcases (mem_insertBy _ a c rest).mp hc with rfl | hc
      · exact .inl (of_decide_eq_true smaller)
      · exact head c hc
    · next notSmaller =>
      have le : key a ≤ key b := by simpa using notSmaller
      refine List.pairwise_cons.mpr ⟨fun c hc => ?_, sorted⟩
      have bc : key b ≤ key c := by
        rcases List.mem_cons.mp hc with rfl | hc
        · exact le_rfl
        · exact (head c hc).elim le_of_lt fun same => same.1.le
      exact (le.trans bc).lt_or_eq.imp_right fun same => ⟨same, first c hc⟩

/-- A sort by a key puts smaller keys first, and keeps the order of equal keys. -/
theorem sortBy_stable {l : List α} (ordered : l.Pairwise earlier) :
    (sortBy (fun x y => decide (key x < key y)) l).Pairwise (stablyBefore key earlier) := by
  induction l with
  | nil => exact .nil
  | cons a rest ih =>
    obtain ⟨head, tail⟩ := List.pairwise_cons.mp ordered
    exact insertBy_stable (fun b hb => head b ((mem_sortBy _ b rest).mp hb)) (ih tail)

end Stable

end Sys2Proof.Machine
end

section
/-! SUPPORT. Load placement: the balance point (R96, O57) and the slot order (R97, O58). -/

namespace Sys2Proof.Machine

/-! ### Quotients rounded half up -/

theorem roundDiv_mul_right (a : Nat) {b : Nat} (hb : 0 < b) : roundDiv (a * b) b = a := by
  have parts : 2 * (a * b) + b = 2 * b * a + b := by ring
  rw [roundDiv, parts, Nat.mul_add_div (by omega), Nat.div_eq_of_lt (by omega), Nat.add_zero]

theorem roundDiv_mono {a c : Nat} (h : a ≤ c) (b : Nat) : roundDiv a b ≤ roundDiv c b :=
  Nat.div_le_div_right (by omega)

/-- At most `b` of the `b` parts of `a`, rounded half up, are at most `a`. -/
theorem roundDiv_mul_le (a : Nat) {n b : Nat} (hb : 0 < b) (h : n ≤ b) : roundDiv (a * n) b ≤ a :=
  (roundDiv_mono (Nat.mul_le_mul_left a h) b).trans (roundDiv_mul_right a hb).le

/-! ### The balance point -/

/-- R95: a truck can carry something when each effective limit is above what the empty truck weighs there. -/
theorem Truck.carriesNothing_eq_false_iff (t : Truck) (headroom : Nat) :
    t.carriesNothing headroom = false ↔ t.tareFront < effectiveLimit t.frontLimit headroom
      ∧ t.tareRear < effectiveLimit t.rearLimit headroom
      ∧ t.tareFront + t.tareRear < effectiveLimit t.grossLimit headroom := by
  simp [carriesNothing, and_assoc]

/-- Settles O57: B is a rounded quotient (`roundDiv_spec`) of W by a part of a whole (`roundDiv_mul_le`). -/
theorem Placement.balancePoint : Obligations.BalancePoint := by
  intro e y t carries
  obtain ⟨front, rear, -⟩ := (t.carriesNothing_eq_false_iff _).mp carries
  generalize hf : effectiveLimit t.frontLimit e.settings.planning.headroom - t.tareFront = rcf
  generalize hr : effectiveLimit t.rearLimit e.settings.planning.headroom - t.tareRear = rcr
  have whole : 0 < rcf + rcr := by omega
  obtain ⟨low, high⟩ := roundDiv_spec (t.wheelbase * rcr) whole
  refine ⟨rcf, rcr, Machine.balancePoint t.wheelbase rcf rcr, rfl, rfl, by omega, by omega, low, high,
    roundDiv_mul_le t.wheelbase whole (Nat.le_add_left ..), Nat.mul_le_mul, ?_⟩
  rw [Yard.placeSequence, hf, hr]

/-! ### The slot order -/

theorem distance_eq_natAbs (a b : Nat) : distance a b = ((a : Int) - b).natAbs := by
  rw [distance]
  omega

/-- R97: the slots of a truck, index and position, are listed by rising index. -/
theorem Truck.slotPlaces_indexed (t : Truck) :
    (t.slots.zipIdx.map fun s => (s.2, s.1.x)).Pairwise (fun s u : Nat × Nat => s.1 < u.1) := by
  refine List.pairwise_map.mpr (List.pairwise_iff_getElem.mpr fun i j hi hj hij => ?_)
  simpa using hij

theorem Truck.slotOrder_perm (t : Truck) (b : Nat) :
    (t.slotOrder b).Perm (t.slots.zipIdx.map fun s => (s.2, s.1.x)) :=
  sortBy_perm _ _

/-- R97: the slot order holds the slots of the truck with their positions. -/
theorem Truck.mem_slotOrder {t : Truck} {b : Nat} {s : Nat × Nat} :
    s ∈ t.slotOrder b ↔ ∃ h : s.1 < t.slots.length, t.slots[s.1].x = s.2 := by
  obtain ⟨i, x⟩ := s
  simp [(t.slotOrder_perm b).mem_iff, List.mem_zipIdx_iff_getElem?, List.getElem?_eq_some_iff]

/-- R97: the nearer slot first, and of two at the same distance the lower index first. -/
theorem Truck.slotOrder_sorted (t : Truck) (b : Nat) :
    (t.slotOrder b).Pairwise (stablyBefore (fun s => distance s.2 b) fun s u => s.1 < u.1) :=
  sortBy_stable t.slotPlaces_indexed

section Rising

variable {t : Truck} {b : Nat} {s u : Nat × Nat}

/-- Where the slot positions strictly rise, a lower index is a lower position. -/
theorem Truck.slotOrder_rises (rising : (t.slots.map Slot.x).Pairwise (· < ·)) (hs : s ∈ t.slotOrder b)
    (hu : u ∈ t.slotOrder b) (lower : s.1 < u.1) : s.2 < u.2 := by
  obtain ⟨hs, xs⟩ := mem_slotOrder.mp hs
  obtain ⟨hu, xu⟩ := mem_slotOrder.mp hu
  rw [← xs, ← xu]
  exact List.pairwise_iff_getElem.mp (List.pairwise_map.mp rising) _ _ hs hu lower

/-- Where the slot positions strictly rise, a position is that of one slot only. -/
theorem Truck.slotOrder_inj (rising : (t.slots.map Slot.x).Pairwise (· < ·)) (hs : s ∈ t.slotOrder b)
    (hu : u ∈ t.slotOrder b) (same : s.2 = u.2) : s = u := by
  rcases Nat.lt_trichotomy s.1 u.1 with lower | equal | higher
  · exact absurd same (slotOrder_rises rising hs hu lower).ne
  · exact Prod.ext equal same
  · exact absurd same (slotOrder_rises rising hu hs higher).ne'

end Rising

/-- Settles O58: the sort is a stable rearrangement (`sortBy_perm`, `sortBy_stable`), and at one distance
from B there are only two positions. -/
theorem slotOrder : Obligations.SlotOrder := by
  intro t b far
  refine ⟨t.slotOrder_perm b, by simpa using (t.slotOrder_perm b).length_eq, ?_,
    fun rising => ⟨fun s hs u hu tie lower => ?_, fun s hs u hu v hv su uv => ?_⟩, rfl⟩
  · have sorted := t.slotOrder_sorted b
    simp only [distance_eq_natAbs] at sorted
    exact sorted
  · have rise := Truck.slotOrder_rises rising hs hu lower
    simp only [far] at tie
    omega
  · have twoAgree : s.2 = u.2 ∨ u.2 = v.2 ∨ s.2 = v.2 := by
      simp only [far] at su uv
      omega
    exact twoAgree.imp (Truck.slotOrder_inj rising hs hu)
      (.imp (Truck.slotOrder_inj rising hu hv) (Truck.slotOrder_inj rising hs hv))

end Sys2Proof.Machine
end

section
/-! SUPPORT. Load placement: the axle-group check (R100, R101) and shortening (R102), for O60. -/

namespace Sys2Proof.Machine

/-! ### The shares of an entry -/

namespace Entry

variable (en : Entry) {wheelbase : Nat}

/-- R100: between the axle groups the two shares add up to the mass. -/
theorem plan_shares (positive : 0 < wheelbase) (between : en.x ≤ wheelbase) :
    (en.plan wheelbase).front + (en.plan wheelbase).rear = en.mass :=
  Nat.sub_add_cancel (roundDiv_mul_le en.mass positive between)

/-- R100: over the front axle group the mass is all front share. -/
theorem plan_front_of_x_zero (positive : 0 < wheelbase) (front : en.x = 0) :
    (en.plan wheelbase).front = en.mass := by
  have noRear : rearShare en.mass en.x wheelbase = 0 := by
    rw [front, rearShare, roundDiv, Nat.div_eq_of_lt (by omega)]
  rw [plan, noRear, Nat.sub_zero]

/-- R100: over the rear axle group the mass is all rear share. -/
theorem plan_rear_of_x_eq (positive : 0 < wheelbase) (rear : en.x = wheelbase) :
    (en.plan wheelbase).rear = en.mass := by
  rw [plan, rear]
  exact roundDiv_mul_right en.mass positive

end Entry

/-! ### The check and the shortening -/

/-- R101: the check is about totals, whatever the order of the entries. -/
theorem Truck.checkEntries_reverse (t : Truck) (headroom : Nat) (es : List Entry) :
    t.checkEntries headroom es.reverse = t.checkEntries headroom es := by
  simp only [checkEntries, List.map_reverse, List.sum_reverse]

/-- R95, R101: an empty truck passes the check, unless it can carry nothing. -/
theorem Truck.checkEntries_nil {t : Truck} {headroom : Nat} (carries : t.carriesNothing headroom = false) :
    t.checkEntries headroom [] = true := by
  obtain ⟨front, rear, gross⟩ := (t.carriesNothing_eq_false_iff headroom).mp carries
  simp [checkEntries, withinLimits, front.le, rear.le, gross.le]

/-- R102: `k` is the length of the longest front part of a list that passes a check. -/
def longestPassing (ok : List Entry → Bool) (l : List Entry) (k : Nat) : Prop :=
  k ≤ l.length ∧ ok (l.take k) = true ∧ ∀ i, k < i → i ≤ l.length → ok (l.take i) = false

section LongestPassing

variable {ok : List Entry → Bool} {l : List Entry}

theorem longestPassing_length (pass : ok l = true) : longestPassing ok l l.length :=
  ⟨le_rfl, by rwa [List.take_length], fun _ above within => absurd within (by omega)⟩

/-- A last entry that does not pass leaves the longest passing front part as it was. -/
theorem longestPassing_append {en : Entry} {k : Nat} (fails : ok (l ++ [en]) = false)
    (longest : longestPassing ok l k) : longestPassing ok (l ++ [en]) k := by
  obtain ⟨le, pass, above⟩ := longest
  refine ⟨by simp; omega, by rwa [List.take_append_of_le_length le], fun i hi within => ?_⟩
  rcases Nat.lt_or_ge l.length i with whole | part
  · rwa [List.take_of_length_le (by simpa using whole)]
  · rw [List.take_append_of_le_length part]
    exact above i hi part

/-- R102: shortening a list from its end keeps its longest passing front part, and removes the entries after it,
the last one first. -/
theorem shorten_reverse (symmetric : ∀ es, ok es.reverse = ok es) (empty : ok [] = true) (l : List Entry) :
    ∃ k, longestPassing ok l k
      ∧ shorten ok l.reverse = ((l.take k).reverse, ((l.drop k).map Entry.tag).reverse) := by
  induction l using List.reverseRecOn with
  | nil => exact ⟨0, longestPassing_length empty, rfl⟩
  | append_singleton l en ih =>
    have check : ok (en :: l.reverse) = ok (l ++ [en]) := by
      rw [← List.reverse_concat, symmetric]
    rw [List.reverse_concat, shorten, check]
    cases pass : ok (l ++ [en]) with
    | true => exact ⟨_, longestPassing_length pass, by simp [List.take_of_length_le]⟩
    | false =>
      obtain ⟨k, longest, kept⟩ := ih
      refine ⟨k, longestPassing_append pass longest, ?_⟩
      simp [kept, List.take_append_of_le_length longest.1, List.drop_append_of_le_length longest.1]

end LongestPassing

/-- Settles O60: the check does not see the order of the entries, and an empty bed passes it, so shortening
keeps the longest passing front part (`shorten_reverse`). -/
theorem placementPasses : Obligations.PlacementPasses := by
  intro e y t carries seq ok r
  obtain ⟨k, ⟨within, pass, longest⟩, kept⟩ :=
    shorten_reverse (t.checkEntries_reverse _) (Truck.checkEntries_nil carries) seq
  have hr : r = ((seq.take k).reverse, ((seq.drop k).map Entry.tag).reverse) := kept
  exact ⟨k, within, by rw [hr, List.reverse_reverse], by rw [hr], pass, longest,
    fun en _ between positive => ⟨rfl, en.plan_shares positive between, en.plan_front_of_x_zero positive,
      en.plan_rear_of_x_eq positive⟩⟩

end Sys2Proof.Machine
end

section
/-! SUPPORT. Answer timeouts (R129 to R131), the failure of an exchange by its purpose, and recalls (R138), for
O49. -/

namespace Sys2Proof.Machine

/-! ### What follows an act, seen from a terminal -/

/-- What follows an act leaves a terminal's record but for its moves. -/
theorem Yard.terminal_of_still {y z : Yard} (h : y.still = z.still) (t : Nat) :
    { y.terminal t with moves := [] } = { z.terminal t with moves := [] } := by
  have link : y.loader.still = z.loader.still := congrArg Yard.loader h
  have lists := congrArg (fun l : LoaderLink => l.terminals[t]?) link
  simp only [LoaderLink.still, Vector.getElem?_map] at lists
  have read := congrArg (fun o : Option Terminal => o.getD Terminal.initial) lists
  unfold Yard.terminal
  generalize y.loader.terminals[t]? = u at read ⊢
  generalize z.loader.terminals[t]? = v at read ⊢
  cases u <;> cases v <;> exact read

theorem Yard.exchange_of_still {y z : Yard} (h : y.still = z.still) :
    y.loader.exchange = z.loader.exchange := by
  have link : y.loader.still = z.loader.still := congrArg Yard.loader h
  exact (congrArg LoaderLink.exchange link :)

/-- What follows an act writes no flag but LANE_GRANTED, TRUCK_SHORT and TRUCK_LOADED. -/
theorem Yard.holdsFlag_of_still {y z : Yard} (h : y.still = z.still) {e : Event}
    (other : holdsFlag (~~~ settleFlags) e = true) : holdsFlag y.events e = holdsFlag z.events e := by
  have flags : y.events &&& ~~~ settleFlags = z.events &&& ~~~ settleFlags := congrArg Yard.events h
  have bit := congrArg (holdsFlag · e) flags
  unfold holdsFlag at bit other ⊢
  simpa only [BitVec.getLsbD_and, other, Bool.and_true] using bit

theorem Yard.terminal_of_loader {y z : Yard} (h : y.loader = z.loader) (t : Nat) :
    y.terminal t = z.terminal t := by
  rw [Yard.terminal, h, Yard.terminal]

theorem Yard.loader_judgeAll (e : Env) (y : Yard) : (y.judgeAll e).loader = y.loader :=
  congrArg (·.2.2) (y.calm_judgeAll e)

/-- R117: a terminal that cannot take a move is sent none. -/
theorem Yard.terminal_serveZone (e : Env) (zone : Nat) {t : Nat} (fuel : Nat) (y : Yard)
    (h : (y.terminal t).canTake = false) : (Yard.serveZone e zone fuel y).terminal t = y.terminal t := by
  induction fuel generalizing y with
  | zero => rfl
  | succ fuel ih =>
    unfold Yard.serveZone
    split
    · rfl
    · next pl hpl =>
      obtain ⟨n, -, plan⟩ := List.exists_of_findSome?_eq_some hpl
      obtain ⟨j, hj, -⟩ := Yard.sendPlan?_spec plan
      obtain ⟨-, -, -, take, range, -⟩ := y.send_spec e hj plan
      have elsewhere : t ≠ pl.terminal := fun same => by
        rw [← same, h] at take
        cases take
      have sent : ((y.send pl).judgeAll e).terminal t = y.terminal t :=
        (Yard.terminal_of_loader (Yard.loader_judgeAll e _) t).trans
          (((y.send_reads pl range).1 t).trans (if_neg elsewhere))
      rw [ih _ (by rw [sent]; exact h), sent]

theorem Yard.terminal_serveAll (e : Env) {t : Nat} (y : Yard) (h : (y.terminal t).canTake = false) :
    (y.serveAll e).terminal t = y.terminal t := by
  have served : ∀ (zs : List Nat) (y : Yard), (y.terminal t).canTake = false →
      (zs.foldl (fun y z => Yard.serveZone e z 33 y) y).terminal t = y.terminal t := by
    intro zs
    induction zs with
    | nil => exact fun _ _ => rfl
    | cons z rest ih =>
      intro y h
      have zone := Yard.terminal_serveZone e z 33 y h
      rw [List.foldl_cons, ih _ (by rw [zone]; exact h), zone]
  unfold Yard.serveAll
  split
  · exact served _ y h
  · rfl

/-- What follows an act leaves a terminal that is not ACTIVE as it was. -/
theorem Act.terminal_finish (e : Env) (a : Act) {t : Nat} (h : (a.yard.terminal t).state ≠ .active) :
    (a.finish e).terminal t = a.yard.terminal t := by
  obtain ⟨y, served, calm⟩ := a.finish_spec e
  have same : y.terminal t = a.yard.terminal t := Yard.terminal_of_loader (congrArg (·.2.2) calm) t
  have idle : (y.terminal t).canTake = false := by
    rw [same, Terminal.canTake, decide_eq_false h, Bool.false_and]
  rw [served, Yard.terminal_serveAll e y idle, same]

/-! ### The end of a move, seen from a terminal (R132) -/

/-- A terminal's record without the two lists that the end of a move shortens. -/
def Terminal.unladen (t : Terminal) : Terminal := { t with moves := [], notices := [] }

theorem Yard.terminal_dropMove {y : Yard} {n : Nat} {m : Move} (h : y.move? n = some m) (t : Nat) :
    (y.dropMove n).terminal t = if t = m.terminal ∧ m.terminal ≤ 7 then
        { y.terminal t with
          moves := (y.terminal t).moves.filter fun k => k != n
          notices := (y.terminal t).notices.filter fun k => k.move != n }
      else y.terminal t := by
  unfold Yard.dropMove
  rw [h]
  refine (Yard.terminal_modifyTerminal (match m.dest with
    | .bay b => y.giveClaim b
    | .bed .. => y) _ _ _).trans ?_
  cases m.dest <;> rfl

theorem Yard.unladen_dropMove (y : Yard) (n t : Nat) :
    ((y.dropMove n).terminal t).unladen = (y.terminal t).unladen := by
  cases h : y.move? n with
  | none => rw [Yard.dropMove, h]
  | some m =>
    rw [Yard.terminal_dropMove h]
    split <;> rfl

theorem Yard.exchange_dropMove (y : Yard) (n : Nat) :
    (y.dropMove n).loader.exchange = y.loader.exchange := by
  unfold Yard.dropMove
  split
  · rfl
  · next m _ => cases m.dest <;> rfl

theorem Yard.move?_dropMove_other (y : Yard) {n k : Nat} (h : k ≠ n) :
    (y.dropMove n).move? k = y.move? k := by
  unfold Yard.dropMove
  split
  · rfl
  · next m _ =>
    refine (Table.get?_drop_other _ (Ne.symm h)).trans ?_
    cases m.dest <;> rfl

/-- R132: a move that its terminal lists and holds is no longer listed once it has ended, and every move that
still is was listed before. -/
theorem Yard.listed_dropMove {y : Yard} {n t k : Nat}
    (held : n ∈ (y.terminal t).moves → (y.moveAt? t n).isSome = true)
    (h : k ∈ ((y.dropMove n).terminal t).moves) : k ∈ (y.terminal t).moves ∧ k ≠ n := by
  cases hm : y.move? n with
  | none =>
    rw [Yard.dropMove, hm] at h
    refine ⟨h, fun same => ?_⟩
    have := held (same ▸ h)
    rw [Yard.moveAt?, hm] at this
    cases this
  | some m =>
    rw [Yard.terminal_dropMove hm] at h
    split at h
    · simpa using h
    · next away =>
      refine ⟨h, fun same => away ?_⟩
      obtain ⟨m', here⟩ := Option.isSome_iff_exists.mp (held (same ▸ h))
      obtain rfl := Option.some.inj (hm.symm.trans (Yard.moveAt?_move? here))
      have terminal := Yard.moveAt?_terminal here
      exact ⟨terminal.symm, terminal ▸ y.terminal_le_of_mem h⟩

/-! ### Recalls (R138) -/

/-- What recalls leave of the link and the flags: the exchange, every flag that is set, and every terminal but
for its moves and notices. -/
structure Yard.Recalled (y z : Yard) : Prop where
  exchange : z.loader.exchange = y.loader.exchange
  flags : y.FlagsStay z
  terminals : ∀ t, (z.terminal t).unladen = (y.terminal t).unladen

theorem Yard.Recalled.trans {y z w : Yard} (h : y.Recalled z) (k : z.Recalled w) : y.Recalled w where
  exchange := k.exchange.trans h.exchange
  flags := h.flags.trans k.flags
  terminals t := (k.terminals t).trans (h.terminals t)

namespace Act

theorem flagsStay_recall (e : Env) (a : Act) (n : Nat) : a.yard.FlagsStay (a.recall e n).yard := by
  obtain ⟨-, -, -, -, -, -, -, events⟩ := a.yard.dropMove_spec n
  have ended : a.yard.FlagsStay (a.on fun y => y.dropMove n).yard := .of_eq events
  have recalled : a.yard.FlagsStay (a.recallMove n).yard := by
    unfold recallMove
    split
    · exact .refl _
    · refine ended.trans ?_
      simp only
      split
      · exact .refl _
      · split
        · exact (flags_lose _ _ _).1
        · exact flagsStay_unsend _ _ _
  exact recalled.trans (Yard.settles_judgeAll (free := false) e _).flagsStay

theorem recalled_recall (e : Env) (a : Act) (n : Nat) : a.yard.Recalled (a.recall e n).yard where
  exchange := (congrArg LoaderLink.exchange (a.recall_loader e n)).trans (a.yard.exchange_dropMove n)
  flags := a.flagsStay_recall e n
  terminals t := by
    rw [Yard.terminal_of_loader (a.recall_loader e n)]
    exact a.yard.unladen_dropMove n t

theorem recalled_recallAll (e : Env) (a : Act) (t : Nat) : a.yard.Recalled (a.recallAll e t).yard := by
  unfold recallAll
  generalize (a.yard.terminal t).moves = l
  induction l generalizing a with
  | nil => exact ⟨rfl, .refl _, fun _ => rfl⟩
  | cons n rest ih => exact (a.recalled_recall e n).trans (ih _)

/-- R138: a terminal that holds each move it lists has none left once they are recalled. -/
theorem moves_recallAll_of_held (e : Env) (a : Act) (t : Nat)
    (held : ∀ n ∈ (a.yard.terminal t).moves, (a.yard.moveAt? t n).isSome = true) :
    ((a.recallAll e t).yard.terminal t).moves = [] := by
  have recalled : ∀ (l : List Nat) (a : Act), (a.yard.terminal t).moves ⊆ l →
      (∀ n ∈ (a.yard.terminal t).moves, (a.yard.moveAt? t n).isSome = true) →
      ((l.foldl (Act.recall e) a).yard.terminal t).moves = [] := by
    intro l
    induction l with
    | nil => exact fun a listed _ => List.subset_nil.mp listed
    | cons n rest ih =>
      intro a listed held
      have link := a.recall_loader e n
      have left : ∀ k ∈ ((a.recall e n).yard.terminal t).moves, k ∈ (a.yard.terminal t).moves ∧ k ≠ n :=
        fun k hk => Yard.listed_dropMove (held n) (Yard.terminal_of_loader link t ▸ hk)
      refine ih _ (fun k hk => ?_) fun k hk => ?_
      · obtain ⟨was, other⟩ := left k hk
        exact (List.mem_cons.mp (listed was)).resolve_left other
      · obtain ⟨was, other⟩ := left k hk
        have same : (a.recall e n).yard.move? k = a.yard.move? k :=
          (congrArg (fun l : LoaderLink => l.moves.get? k) link).trans (a.yard.move?_dropMove_other other)
        rw [Yard.moveAt?, same]
        exact held k was
  exact recalled _ a (fun _ h => h) held

/-- R138: a recall is the end of the move, then what R122 and R137 make of its job. -/
theorem recallMove_of {a : Act} {n : Nat} {m : Move} {j : Job} (hm : a.yard.move? n = some m)
    (hj : a.yard.job? m.job = some j) : a.recallMove n = if m.state = .lifted
      then (a.on fun y => y.dropMove n).lose m.job j
      else (a.on fun y => y.dropMove n).unsend m.job j := by
  obtain ⟨-, -, -, -, -, jobs, -⟩ := a.yard.dropMove_spec n
  have ended : (a.on fun y => y.dropMove n).yard.job? m.job = some j :=
    (congrArg (·.get? m.job) jobs).trans hj
  unfold recallMove
  simp only [hm, ended]

/-- R138, R122: what the recall of one move makes of it, its pack and its job, where no cancel ends the job. -/
theorem recallMove_leaves {a : Act} {n : Nat} {m : Move} {j : Job} {k : Pack} (hm : a.yard.move? n = some m)
    (hj : a.yard.job? m.job = some j) (hk : a.yard.pack? j.tag = some k)
    (kept : a.yard.cancelledLoad? j = none) :
    (a.recallMove n).yard.move? n = none
    ∧ (m.state ≠ .lifted → (a.recallMove n).yard.stack = a.yard.stack
      ∧ (a.recallMove n).yard.job? m.job = some { j with state := .waiting, bound := none, move := none }
      ∧ (a.recallMove n).yard.pack? j.tag = some { k with state := k.prior.getD k.state, prior := none })
    ∧ (m.state = .lifted →
      (a.recallMove n).yard.job? m.job = some { j with state := .suspended, bound := none, move := none }
      ∧ ((a.recallMove n).yard.pack? j.tag).map Pack.state = some .doubt
      ∧ ((a.recallMove n).yard.pack? j.tag).map Pack.place = some .nowhere
      ∧ holdsFlag (a.recallMove n).yard.events .packDoubt = true) := by
  obtain ⟨gone, stack, packs, trucks, -, jobs, -⟩ := a.yard.dropMove_spec n
  have found : (a.on fun y => y.dropMove n).yard.job? m.job = some j :=
    (congrArg (·.get? m.job) jobs).trans hj
  have there : (a.on fun y => y.dropMove n).yard.pack? j.tag = some k :=
    (congrArg (·.get? j.tag) packs).trans hk
  have still : (a.on fun y => y.dropMove n).yard.cancelledLoad? j = none :=
    (Yard.cancelledLoad?_congr (Yard.truckState?_of_trucks trucks) j).trans kept
  rw [recallMove_of hm hj]
  split
  · next lifted =>
    obtain ⟨doubt, state, place, -⟩ := lose_leaves found there
    have link := (reported_lose (a.on fun y => y.dropMove n) m.job j).1
    refine ⟨(congrArg (fun l : LoaderLink => l.moves.get? n) link).trans gone,
      fun down => absurd lifted down, fun _ => ⟨?_, state, place, doubt⟩⟩
    rw [job?_lose, if_pos rfl, still, found]
    rfl
  · next down =>
    have calm := (a.on fun y => y.dropMove n).calm_unsend m.job j
    refine ⟨(congrArg (fun c => c.2.2.moves.get? n) calm).trans gone,
      fun _ => ⟨(congrArg (·.1) calm).trans stack, ?_, ?_⟩, fun lifted => absurd lifted down⟩
    · rw [job?_unsend, if_pos rfl, still, found]
      rfl
    · rw [pack?_unsend found there, still]
      rfl

end Act

/-! ### Silence (R126, R130) -/

theorem Yard.terminal_goSilent (y : Yard) {t : Nat} (range : t ≤ 7) (probeAt : Nat) :
    (y.goSilent t probeAt).terminal t
      = { y.terminal t with state := .silent, enrolling := false, nextProbe := some probeAt } :=
  y.terminal_modifyTerminal_same _ range

theorem Yard.flag_goSilent (y : Yard) (t probeAt : Nat) :
    holdsFlag (y.goSilent t probeAt).events .loaderSilent = true :=
  holdsFlag_raiseIn_same _ _

namespace Act

section
variable {e : Env} {a : Act} {t : Nat} (range : t ≤ 7)
include range

theorem silenced_report (h : (a.yard.terminal t).silence = .report) :
    a.silenced e t = a.on fun y => y.goSilent t e.probeAt := by
  have silence : ((a.on fun y => y.goSilent t e.probeAt).yard.terminal t).silence = .report :=
    (congrArg Terminal.silence (a.yard.terminal_goSilent range e.probeAt)).trans h
  unfold silenced
  simp only [silence]

theorem silenced_recall (h : (a.yard.terminal t).silence = .recall) :
    a.silenced e t = ((a.on fun y => y.goSilent t e.probeAt).recallAll e t).on fun y =>
      y.modifyTerminal t fun k => { k with notices := [] } := by
  have silence : ((a.on fun y => y.goSilent t e.probeAt).yard.terminal t).silence = .recall :=
    (congrArg Terminal.silence (a.yard.terminal_goSilent range e.probeAt)).trans h
  unfold silenced
  simp only [silence]

/-- R130: whatever its silence action, the terminal becomes SILENT with its probe due and LOADER_SILENT. -/
theorem silenced_reads : (a.silenced e t).yard.loader.exchange = a.yard.loader.exchange
    ∧ holdsFlag (a.silenced e t).yard.events .loaderSilent = true
    ∧ ((a.silenced e t).yard.terminal t).state = .silent
    ∧ ((a.silenced e t).yard.terminal t).nextProbe = some e.probeAt := by
  have silent := a.yard.terminal_goSilent range e.probeAt
  have flag := a.yard.flag_goSilent t e.probeAt
  match h : (a.yard.terminal t).silence with
  | .report =>
    rw [silenced_report range h, Act.on_yard, silent]
    exact ⟨rfl, flag, rfl, rfl⟩
  | .recall =>
    rw [silenced_recall range h, Act.on_yard, Yard.terminal_modifyTerminal_same _ _ range]
    have recalled := recalled_recallAll e (a.on fun y => y.goSilent t e.probeAt) t
    have own := recalled.terminals t
    rw [Act.on_yard, silent] at own
    exact ⟨recalled.exchange, recalled.flags _ flag, congrArg Terminal.state own,
      congrArg Terminal.nextProbe own⟩

/-- R130: with RECALL no notice is left, and no move where each that is listed is held. -/
theorem silenced_empties (h : (a.yard.terminal t).silence = .recall) :
    ((a.silenced e t).yard.terminal t).notices = []
    ∧ ((∀ n ∈ (a.yard.terminal t).moves, (a.yard.moveAt? t n).isSome = true) →
      ((a.silenced e t).yard.terminal t).moves = []) := by
  rw [silenced_recall range h, Act.on_yard, Yard.terminal_modifyTerminal_same _ _ range]
  refine ⟨rfl, fun held => moves_recallAll_of_held e _ t ?_⟩
  rw [Act.on_yard, a.yard.terminal_goSilent range e.probeAt]
  exact held

end

end Act

/-! ### The failure of an exchange, by its purpose (R126, R130, R131) -/

namespace Act

section
variable {e : Env} {y : Yard} {x : Exchange}

theorem exchangeFailed_turn (h : x.purpose = .turn) : y.act.exchangeFailed e x
    = (y.onLink fun l => { l with exchange := none }).act.silenced e x.terminal := by
  unfold exchangeFailed
  rw [h]
  rfl

theorem exchangeFailed_probe (h : x.purpose = .probe) : y.act.exchangeFailed e x
    = ((y.onLink fun l => { l with exchange := none }).modifyTerminal x.terminal fun t =>
      { t with nextProbe := some e.probeAt }).act := by
  unfold exchangeFailed
  rw [h]
  rfl

theorem exchangeFailed_clearAll (h : x.purpose = .clearAll) : y.act.exchangeFailed e x
    = ((y.onLink fun l => { l with exchange := none }).goSilent x.terminal e.probeAt).act := by
  unfold exchangeFailed
  rw [h]
  rfl

/-- R130: the exchange is over, and with it whatever follows. -/
theorem exchange_failed (range : x.terminal ≤ 7) :
    ((y.act.exchangeFailed e x).finish e).loader.exchange = none := by
  refine (Yard.exchange_of_still (still_finish e _)).trans ?_
  cases h : x.purpose with
  | turn =>
    rw [exchangeFailed_turn h]
    exact (silenced_reads range).1
  | probe => rw [exchangeFailed_probe h]; rfl
  | clearAll => rw [exchangeFailed_clearAll h]; rfl

/-- R130: what a failed turn, and all that follows from it, makes of its terminal. -/
theorem turn_failed (range : x.terminal ≤ 7) (h : x.purpose = .turn) :
    let z := (y.act.exchangeFailed e x).finish e
    holdsFlag z.events .loaderSilent = true ∧ (z.terminal x.terminal).state = .silent
    ∧ (z.terminal x.terminal).nextProbe = some e.probeAt
    ∧ ((y.terminal x.terminal).silence = .recall →
      (z.terminal x.terminal).notices = []
      ∧ ((∀ n ∈ (y.terminal x.terminal).moves, (y.moveAt? x.terminal n).isSome = true) →
        (z.terminal x.terminal).moves = []))
    ∧ ((y.terminal x.terminal).silence = .report →
      y.act.exchangeFailed e x
        = ((y.onLink fun l => { l with exchange := none }).goSilent x.terminal e.probeAt).act
      ∧ z.stack = y.stack ∧ (z.terminal x.terminal).notices = (y.terminal x.terminal).notices) := by
  rw [exchangeFailed_turn h]
  generalize hq : y.onLink (fun l => { l with exchange := none }) = q
  have own : q.terminal x.terminal = y.terminal x.terminal := hq ▸ rfl
  have held : ∀ n, q.moveAt? x.terminal n = y.moveAt? x.terminal n := fun n => hq ▸ rfl
  have stack : q.stack = y.stack := hq ▸ rfl
  have still := still_finish e (q.act.silenced e x.terminal)
  obtain ⟨-, flag, silent, probe⟩ := silenced_reads (e := e) (a := q.act) range
  have empties := silenced_empties (e := e) (a := q.act) range
  rw [Yard.act_yard, own] at empties
  simp only [held] at empties
  intro z
  have after : z.terminal x.terminal = (q.act.silenced e x.terminal).yard.terminal x.terminal :=
    terminal_finish e _ (by rw [silent]; decide)
  rw [after]
  refine ⟨(Yard.holdsFlag_of_still still rfl).trans flag, silent, probe, empties, fun reports => ?_⟩
  have unchanged := silenced_report (e := e) (a := q.act) range (own ▸ reports)
  rw [Yard.stack_of_still still, unchanged, ← own, ← stack]
  exact ⟨rfl, rfl, (congrArg Terminal.notices (q.terminal_goSilent range e.probeAt) :)⟩

/-- R131: what a failed probe, and all that follows from it, makes of stacks and of its terminal. -/
theorem probe_failed (range : x.terminal ≤ 7) (h : x.purpose = .probe) :
    let z := (y.act.exchangeFailed e x).finish e
    z.stack = y.stack ∧ (z.terminal x.terminal).state = (y.terminal x.terminal).state
    ∧ (z.terminal x.terminal).nextProbe = some e.probeAt := by
  intro z
  have still : z.still = _ := still_finish e _
  rw [exchangeFailed_probe h] at still
  have own := Yard.terminal_of_still still x.terminal
  rw [Yard.act_yard, Yard.terminal_modifyTerminal_same _ _ range] at own
  exact ⟨(Yard.stack_of_still still :), (congrArg Terminal.state own :), (congrArg Terminal.nextProbe own :)⟩

/-- R126: what a failed CLEAR ALL, and all that follows from it, makes of its terminal. -/
theorem clearAll_failed (range : x.terminal ≤ 7) (h : x.purpose = .clearAll) :
    let z := (y.act.exchangeFailed e x).finish e
    holdsFlag z.events .loaderSilent = true ∧ (z.terminal x.terminal).state = .silent
    ∧ (z.terminal x.terminal).enrolling = false
    ∧ (z.terminal x.terminal).nextProbe = some e.probeAt := by
  rw [exchangeFailed_clearAll h]
  generalize y.onLink (fun l => { l with exchange := none }) = q
  have silent := q.terminal_goSilent range e.probeAt
  have still := still_finish e (q.goSilent x.terminal e.probeAt).act
  intro z
  have after : z.terminal x.terminal = (q.goSilent x.terminal e.probeAt).terminal x.terminal :=
    terminal_finish e _ (by rw [Yard.act_yard, silent]; nofun)
  rw [after, silent]
  exact ⟨(Yard.holdsFlag_of_still still rfl).trans (q.flag_goSilent _ _), rfl, rfl, rfl⟩

end

end Act

/-! ### The rows -/

/-- R179: with no exchange in flight an answer timeout only ends the wait for late answers. -/
theorem Part.answerTimeout_free {p : Part} (h : p.yard.loader.exchange = none) : p.answerTimeout
    = { p with yard := { p.yard with loader := { p.yard.loader with late := [] } } } := by
  unfold Part.answerTimeout Part.notAnswered
  simp only [Yard.onLink, LoaderLink.lateExpires, h]

/-- R179: the late answers still awaited after the timeout of an exchange in flight. -/
theorem Yard.lateExpires_eq {y : Yard} {x : Exchange} (h : y.loader.exchange = some x) :
    y.onLink LoaderLink.lateExpires = { y with loader := { y.loader with
      late := y.loader.late.filter fun r => decide (x.timeoutMs < r.timeoutMs) } } := by
  simp only [Yard.onLink, LoaderLink.lateExpires, h]

/-- R129: below the retry limit the message is sent again. -/
theorem Part.answerTimeout_resends {p : Part} {x : Exchange} (h : p.yard.loader.exchange = some x)
    (low : x.resends < x.retryLimit) : p.answerTimeout
      = { p with yard := (p.yard.onLink LoaderLink.lateExpires).resend x } := by
  unfold Part.answerTimeout Part.notAnswered
  simp only [Yard.onLink, LoaderLink.lateExpires, h, if_pos low]

/-- R129: at the limit the exchange fails, and with it the ENROLL LOADER of a CLEAR ALL. -/
theorem Part.answerTimeout_fails {p : Part} {x : Exchange} (h : p.yard.loader.exchange = some x)
    (limit : x.retryLimit ≤ x.resends) : p.answerTimeout
      = Part.enrollEnds { p with yard :=
          ((p.yard.onLink LoaderLink.lateExpires).act.exchangeFailed p.env x).finish p.env } x := by
  unfold Part.answerTimeout Part.notAnswered
  simp only [Yard.onLink, LoaderLink.lateExpires, h, if_neg (Nat.not_lt.mpr limit)]
  rfl

theorem Yard.terminal_resend (y : Yard) (x : Exchange) (range : x.terminal ≤ 7) :
    (y.resend x).terminal x.terminal = { y.terminal x.terminal with
      retries := ((y.terminal x.terminal).retries + 1) % 65536 } :=
  Yard.terminal_modifyTerminal_same _ _ range

/-- Settles O49: each failed exchange is an act, and what follows an act leaves a terminal that is not ACTIVE as
it is (`Act.terminal_finish`). -/
theorem answerTimeouts : Obligations.AnswerTimeouts := by
  refine ⟨fun s running => ?_, fun e a t => ⟨rfl, fun n => rfl⟩,
    fun a n m j k hm hj hk kept => Act.recallMove_leaves hm hj hk kept⟩
  have row : exec .answerTimeout s = .next (s.withPart s.part.answerTimeout) :=
    State.whileRunning_eq running _
  intro waitLess
  refine ⟨fun free => ?_, fun x flying range => ?_⟩
  · rw [row, Part.answerTimeout_free free]
  intro next y0 ended failed y
  have late : s.part.yard.onLink LoaderLink.lateExpires = y0 := Yard.lateExpires_eq flying
  have fails : x.retryLimit ≤ x.resends → exec .answerTimeout s
      = .next (s.withPart (Part.enrollEnds { s.part with yard := y } x)) := fun limit => by
    rw [row, Part.answerTimeout_fails flying limit, late]
  have exchange : y.loader.exchange = none := Act.exchange_failed range
  refine ⟨fun low => ?_, fun limit purpose => ?_, fun limit purpose => ?_, fun limit purpose => ?_⟩
  · refine ⟨y0.resend x, ?_, rfl, y0.terminal_resend x range, fun u other => ?_⟩
    · rw [row, Part.answerTimeout_resends flying low, late]
    · exact Yard.terminal_modifyTerminal_other _ _ (Ne.symm other)
  · obtain ⟨flag, silent, probe, recalls, reports⟩ := Act.turn_failed (e := s.part.env) (y := y0) range purpose
    refine ⟨?_, exchange, flag, silent, probe, recalls, reports⟩
    rw [fails limit, Part.enrollEnds, purpose]
  · obtain ⟨stack, state, probe⟩ := Act.probe_failed (e := s.part.env) (y := y0) range purpose
    refine ⟨?_, Act.exchangeFailed_probe purpose, exchange, stack, state, probe⟩
    rw [fails limit, Part.enrollEnds, purpose]
  · obtain ⟨flag, silent, enrolling, probe⟩ := Act.clearAll_failed (e := s.part.env) (y := y0) range purpose
    refine ⟨?_, Act.exchangeFailed_clearAll purpose, exchange, flag, silent, enrolling, probe⟩
    rw [fails limit, Part.enrollEnds, purpose]
    have code : byte (y.terminal x.terminal).state.code = 2#8 := by rw [silent]; rfl
    simp only [code]

end Sys2Proof.Machine
end

section
/-! SUPPORT. SET WEIGHING (R145): a parity code that is none of the three is read as NONE, which refutes O20. -/

namespace Sys2Proof.Machine

/-- The last arm of `Parity.ofCode?` stands in the namespace of Parity, where `none` is the parity NONE, so
that a code above 2 is not left without a meaning. -/
theorem Parity.ofCode?_above {n : Nat} (h : 2 < n) : Parity.ofCode? n = some .none := by
  unfold Parity.ofCode?
  split
  · omega
  · omega
  · omega
  · rfl

/-- The factory weighing settings, but for a parity code that R174 does not give. -/
def parityThree : WeighingArgs where
  parity := 3
  endChar := 13
  offset1 := 0
  offset2 := 0
  timeout := 60

theorem parityThree_unnamed : ¬ ∃ w, weighingNamed parityThree w := by
  rintro ⟨w, code, -⟩
  have three : (3 : Nat) = w.parity.code := code
  cases h : w.parity <;> rw [h] at three <;> cases three

/-- SET WEIGHING takes them as settings of the parity NONE. -/
theorem weighingOf?_parityThree : weighingOf? parityThree
    = some { parity := .none, endChar := 13, offset1 := 0, offset2 := 0, timeout := 60 } := by
  unfold weighingOf?
  rw [show parityThree.parity = 3 from rfl, Parity.ofCode?_above (by decide)]
  rfl

/-- Refutes O20: its clause that SET WEIGHING refuses what names no settings fails for the parity code 3. The
part after reset answers OK, where R145 and the statement ask for BAD_VALUE. -/
theorem not_linkWeighingAndMaskWrite : ¬ Obligations.LinkWeighingAndMaskWrite := by
  intro holds
  have taken : State.reset.takesNow := ⟨rfl, rfl, rfl⟩
  obtain ⟨-, weighing, -⟩ := holds { seq := 0#8, check := false } State.reset taken
  obtain ⟨-, refused, -⟩ := weighing parityThree
  have performed : ∃ p, State.reset.part.perform (.setWeighing parityThree) = (p, .ok []) := by
    show ∃ p, State.reset.part.setWeighing parityThree = (p, .ok [])
    unfold Part.setWeighing
    rw [weighingOf?_parityThree]
    exact ⟨_, rfl⟩
  obtain ⟨p, performed⟩ := performed
  have answered := State.request_replied taken { seq := 0#8, check := false } performed
  have same := Host.Outcome.next.inj (answered.symm.trans (refused parityThree_unnamed))
  have results := congrArg (fun s : State => s.part.host.ready.getLast?.map fun r => r.reply.result) same
  simp [State.refused, State.replied, HostLink.putReady] at results

end Sys2Proof.Machine
end

section
/-! SUPPORT. READ TEXT (R141), READ WEIGHBRIDGE (R154) and READ EVENTS (R164), for O25. -/

namespace Sys2Proof.Machine

/-- R141: the oldest entry leaves the text queue. -/
theorem Part.readText_eq (p : Part) : p.readText
    = ({ p with yard := { p.yard with loader := { p.yard.loader with texts := p.yard.loader.texts.drop 1 } } },
      .ok (textBody p.yard.loader.texts.head?)) := by
  rw [List.drop_one]
  rfl

/-- R164: every flag is cleared, and TEXT_WAITING is set again while text waits. -/
theorem Part.readEvents_eq (p : Part) : p.readEvents
    = ({ p with yard := { p.yard with
          events := if p.yard.loader.texts = [] then 0#24 else 0x40000#24 } },
      .ok (flagsBytes p.yard.events ++ flagsBytes p.settings.mask)) := by
  have flag : raiseIn 0#24 .textWaiting = 0x40000#24 := by decide
  unfold Part.readEvents
  simp only [List.isEmpty_iff]
  split
  · rfl
  · simp only [Part.raise, Yard.raise, flag]

/-- Settles O25. -/
theorem drainingReads : Obligations.DrainingReads := by
  intro h s taken
  refine ⟨?_, ?_, ?_⟩
  · exact State.request_replied taken h (r := .readText) s.part.readText_eq
  · exact State.request_replied taken h (r := .readWeighbridge) rfl
  · exact State.request_replied taken h (r := .readEvents) s.part.readEvents_eq

end Sys2Proof.Machine
end

section
/-! SUPPORT. The frames of answers (R178, R179), read back byte by byte, and the characters of the line (R129),
for O9. -/

namespace Sys2Proof.Machine

/-! ### Numbers as bytes (R174) -/

theorem toNat_byte (n : Nat) : (byte n).toNat = n % 256 := BitVec.toNat_ofNat n 8

/-- R174: a number that fits its field is read back. -/
theorem fromLe_leBytes (width : Nat) {n : Nat} (h : n < 256 ^ width) : fromLe (leBytes width n) = n := by
  induction width generalizing n with
  | zero => simp only [leBytes, fromLe]; omega
  | succ width ih =>
    have rest : n / 256 < 256 ^ width := Nat.div_lt_of_lt_mul (by rwa [Nat.pow_succ'] at h)
    rw [leBytes, fromLe, ih rest, toNat_byte, Nat.mod_add_div]

/-- R174: a field is read where it stands in its body. -/
theorem num_leBytes (before after : List Byte) (width : Nat) {n : Nat} (h : n < 256 ^ width) :
    num (before ++ (leBytes width n ++ after)) before.length width = n := by
  rw [num, List.drop_left, List.take_left' (length_leBytes width n), fromLe_leBytes width h]

/-! ### The body of an answer -/

theorem moveInRange_lt {n : Nat} (h : moveInRange n = true) : n < 256 ^ 2 := by
  simp [moveInRange, within] at h
  omega

/-- R178: the move number stands first in the body of a report. -/
theorem num_twoBytes {n : Nat} (h : moveInRange n = true) (after : List Byte) :
    num (twoBytes n ++ after) 0 2 = n :=
  num_leBytes [] after 2 (moveInRange_lt h)

theorem num_twoBytes_alone {n : Nat} (h : moveInRange n = true) : num (twoBytes n) 0 2 = n :=
  num_twoBytes h []

/-- R178: an optional field of a DONE is read by its flag. -/
theorem present_getD (o : Option Nat) : present o.isSome (o.getD 0) = o := by
  cases o <;> rfl

/-- R178: the two flags of a DONE, each in its bit. -/
theorem doneFlags_spec (tag mc : Option Nat) : doneFlags tag mc ≤ 3
    ∧ decide (doneFlags tag mc % 2 = 1) = tag.isSome ∧ decide (doneFlags tag mc / 2 = 1) = mc.isSome := by
  cases tag <;> cases mc <;> simp [doneFlags]

/-- R178: the fields of a DONE are read back from its body. -/
theorem answerOf_done {n : Nat} {tag mc : Option Nat} (formed : (Answer.done n tag mc).wf = true) :
    answerOf 0x13 (Answer.done n tag mc).body = some (.done n tag mc) := by
  simp only [Answer.wf, Answer.wf.tagOk, Bool.and_eq_true, Option.all_eq_true, within, decide_eq_true_eq]
    at formed
  obtain ⟨⟨move, tags⟩, moist⟩ := formed
  obtain ⟨flags, tagFlag, mcFlag⟩ := doneFlags_spec tag mc
  have tagFits : tag.getD 0 < 256 ^ 3 := by
    cases tag with
    | none => decide
    | some g => have := tags g rfl; simp only [Option.getD_some]; omega
  have mcFits : mc.getD 0 < 256 ^ 1 := by
    cases mc with
    | none => decide
    | some w => have := moist w rfl; simp only [Option.getD_some]; omega
  generalize hb : (Answer.done n tag mc).body = b
  have size : b.length = 7 := hb ▸ rfl
  have atMove : num b 0 2 = n := hb ▸ num_twoBytes move _
  have atFlags : num b 2 1 = doneFlags tag mc :=
    hb ▸ num_leBytes (twoBytes n) (threeBytes (tag.getD 0) ++ [byte (mc.getD 0)]) 1 (by omega)
  have atTag : num b 3 3 = tag.getD 0 :=
    hb ▸ num_leBytes (twoBytes n ++ [byte (doneFlags tag mc)]) [byte (mc.getD 0)] 3 tagFits
  have atMoisture : num b 6 1 = mc.getD 0 :=
    hb ▸ num_leBytes (twoBytes n ++ [byte (doneFlags tag mc)] ++ threeBytes (tag.getD 0)) [] 1 mcFits
  unfold answerOf
  simp only [size, atMove, atFlags, atTag, atMoisture, if_pos flags, tagFlag, mcFlag, present_getD]

/-- R178: a reason of a FAULT is read back from its body. -/
theorem answerOf_fault {n : Nat} (move : moveInRange n = true) (r : FaultReason) :
    answerOf 0x14 (Answer.fault n r).body = some (.fault n r) := by
  have small : r.code < 256 ^ 1 := by cases r <;> decide
  have atMove : num (Answer.fault n r).body 0 2 = n := num_twoBytes move _
  have atReason : num (Answer.fault n r).body 2 1 = r.code := num_leBytes (twoBytes n) [] 1 small
  unfold answerOf
  simp only [show (Answer.fault n r).body.length = 3 from rfl, atMove, atReason, FaultReason.ofCode?_code,
    Option.map_some]

/-- R178: the characters of a TEXT are read back from its body. -/
theorem answerOf_text {chars : List Byte} (short : chars.length ≤ 32) :
    answerOf 0x15 (Answer.text chars).body = some (.text chars) := by
  have count : num (Answer.text chars).body 0 1 = chars.length := num_leBytes [] chars 1 (by omega)
  unfold answerOf
  simp only [show (Answer.text chars).body.length = chars.length + 1 from rfl, count, if_true]
  rfl

/-- R178: an answer in range is read back from its TYPE and its body. -/
theorem answerOf_body {a : Answer} (formed : a.wf = true) : answerOf a.type a.body = some a := by
  cases a with
  | idle => rfl
  | accept n => exact congrArg (fun k => some (Answer.accept k)) (num_twoBytes_alone formed)
  | lifted n => exact congrArg (fun k => some (Answer.lifted k)) (num_twoBytes_alone formed)
  | done n tag mc => exact answerOf_done formed
  | fault n r => exact answerOf_fault formed r
  | text chars =>
    simp only [Answer.wf, within, Bool.and_eq_true, decide_eq_true_eq] at formed
    exact answerOf_text formed.1.2
  | withdrawn n => exact congrArg (fun k => some (Answer.withdrawn k)) (num_twoBytes_alone formed)
  | tooLate n => exact congrArg (fun k => some (Answer.tooLate k)) (num_twoBytes_alone formed)

theorem Answer.length_body_lt {a : Answer} (formed : a.wf = true) : a.body.length < 256 := by
  cases a with
  | text chars =>
    simp only [Answer.wf, within, Bool.and_eq_true, decide_eq_true_eq] at formed
    have : (Answer.text chars).body.length = chars.length + 1 := rfl
    omega
  | idle | accept | lifted | done | fault | withdrawn | tooLate => simp [Answer.body, twoBytes, threeBytes]

/-! ### The frame of an answer -/

/-- R178: the addresses of two terminals differ. -/
theorem address_inj {t u : Nat} (ht : t ≤ 7) (hu : u ≤ 7) (h : byte (t + 128) = byte (u + 128)) : t = u := by
  have same := congrArg BitVec.toNat h
  rw [toNat_byte, toNat_byte] at same
  omega

/-- R179: an intact frame is read by its address, its TYPE and its body. -/
theorem decodeAnswer_linkFrame (u : Nat) (address type : Byte) {body : List Byte} (short : body.length < 256) :
    decodeAnswer u (linkFrame address type body) = if address = byte (u + 128)
      then (answerOf type.toNat body).filter Answer.wf else none := by
  have size : (byte body.length).toNat = body.length := by rw [toNat_byte, Nat.mod_eq_of_lt short]
  unfold decodeAnswer linkFrame
  simp only [List.cons_append, size, List.take_left, List.drop_left, true_and, and_true]
  split
  · cases answerOf type.toNat body with
    | none => rfl
    | some a => rfl
  · rfl

theorem Answer.decode_frame {t : Nat} {a : Answer} (formed : a.wf = true) :
    decodeAnswer t (a.frame t) = some a := by
  have type : (byte a.type).toNat = a.type := by cases a <;> rfl
  rw [Answer.frame, decodeAnswer_linkFrame _ _ _ (Answer.length_body_lt formed), if_pos rfl, type,
    answerOf_body formed]
  exact if_pos formed

theorem Answer.decode_frame_other {t u : Nat} {a : Answer} (ht : t ≤ 7) (hu : u ≤ 7) (other : u ≠ t)
    (formed : a.wf = true) : decodeAnswer u (a.frame t) = none := by
  rw [Answer.frame, decodeAnswer_linkFrame _ _ _ (Answer.length_body_lt formed)]
  exact if_neg fun same => other (address_inj ht hu same).symm

/-! ### The characters of the line (R129) -/

/-- R179: the characters of an answer are heard as that answer. -/
theorem hearAnswer_chars {t : Nat} {a : Answer} (formed : a.wf = true) :
    hearAnswer t (a.chars t) = some a := by
  have stops : (a.chars t).all LinkChar.stop = true := by simp [Answer.chars]
  have bytes : (a.chars t).map LinkChar.data = a.frame t := by simp [Answer.chars, Function.comp_def]
  rw [hearAnswer, if_pos stops, bytes, Answer.decode_frame formed]

/-- R179: a wrong stop bit makes the characters garbled. -/
theorem hearAnswer_wrongStop (t : Nat) {chars : List LinkChar} (wrong : ∃ c ∈ chars, c.stop = false) :
    hearAnswer t chars = none := by
  obtain ⟨c, member, stop⟩ := wrong
  refine if_neg fun all => ?_
  rw [List.all_eq_true.mp all c member] at stop
  cases stop

/-- R129: characters that the terminal awaited first is heard in are its answer. -/
theorem Part.charsArrive_heard {p : Part} {t : Nat} {rest : List Nat} {chars : List LinkChar} {a : Answer}
    (awaited : p.yard.loader.listensTo = t :: rest) (heard : hearAnswer t chars = some a) :
    p.charsArrive chars = p.answered t a := by
  unfold Part.charsArrive
  simp only [awaited, List.findSome?_cons, heard, Option.map_some]

/-- R179: characters that no terminal awaited is heard in are passed over. -/
theorem Part.charsArrive_garbled {p : Part} {chars : List LinkChar}
    (garbled : ∀ t ∈ p.yard.loader.listensTo, hearAnswer t chars = none) : p.charsArrive chars = p := by
  have unheard : (p.yard.loader.listensTo.findSome? fun t => (hearAnswer t chars).map fun a => (t, a)) = none :=
    List.findSome?_eq_none_iff.mpr fun t member => by rw [garbled t member]; rfl
  rw [Part.charsArrive, unheard]

/-- R129, R127: the exchange in flight is listened to first, and without one the first late answer. -/
theorem LoaderLink.listensTo_first {l : LoaderLink} {t : Nat}
    (awaited : (∃ x, l.exchange = some x ∧ x.terminal = t)
      ∨ (l.exchange = none ∧ ∃ r rest, l.late = r :: rest ∧ r.terminal = t)) :
    ∃ rest, l.listensTo = t :: rest := by
  rcases awaited with ⟨x, flying, rfl⟩ | ⟨free, r, rest, late, rfl⟩
  · exact ⟨l.late.map LateAnswer.terminal, by rw [LoaderLink.listensTo, flying]; rfl⟩
  · exact ⟨rest.map LateAnswer.terminal, by rw [LoaderLink.listensTo, free, late]; rfl⟩

/-! ### The rows of the answers -/

/-- The answer that a row carries: a FAULT reason is in range, as its answer has one. -/
theorem exec_answerRow (line : AnswerLine) (a : Answer) (s : State) :
    exec (answerRow line a) s = s.answered line (some a) := by
  cases a with
  | fault n r =>
    show s.answered line ((FaultReason.ofCode? r.code).map fun r => .fault n r) = _
    rw [FaultReason.ofCode?_code]
    rfl
  | idle | accept | lifted | done | text | withdrawn | tooLate => rfl

/-- R129: a clear, well-formed answer is taken as its terminal sent it. -/
theorem State.exec_clear {s : State} (running : s.part.running = true) {t : Nat} (range : t ≤ 7) {a : Answer}
    (formed : a.wf = true) :
    exec (answerRow (.clear t) a) s = .next (s.withPart (s.part.answered t a)) := by
  rw [exec_answerRow]
  exact State.ifThen_holds running (by rw [formed, decide_eq_true range]; rfl) _

/-- R129, R179: on a changed line the characters decide, and the answer they came from does not. -/
theorem State.exec_changed {s : State} (running : s.part.running = true) (chars : List LinkChar) (a : Answer) :
    exec (answerRow (.changed chars) a) s = .next (s.withPart (s.part.charsArrive chars)) := by
  rw [exec_answerRow]
  exact State.whileRunning_eq running _

/-- Settles O9. -/
theorem answerCodec : Obligations.AnswerCodec := by
  refine ⟨fun t a range formed => ⟨Answer.decode_frame formed, fun u hu other =>
      Answer.decode_frame_other range hu other formed⟩,
    fun t a b s range formed running awaited => ?_, fun t chars wrong => hearAnswer_wrongStop t wrong,
    fun chars b s running garbled => ?_⟩
  · obtain ⟨rest, first⟩ := LoaderLink.listensTo_first awaited
    rw [State.exec_changed running, State.exec_clear running range formed,
      Part.charsArrive_heard first (hearAnswer_chars formed)]
  · rw [State.exec_changed running, Part.charsArrive_garbled garbled]
    rfl

end Sys2Proof.Machine
end

section
/-! SUPPORT. The rows of the loader link change the yard and the waiting replies alone (R126 to R132), for O13. -/

namespace Sys2Proof.Machine

/-- Only the yard and the replies that wait or are ready differ, and a reply that was ready stays so. -/
def Part.LinkSide (p q : Part) : Prop :=
  q = { p with
      yard := q.yard
      host := { p.host with awaiting := q.host.awaiting, ready := q.host.ready } }
    ∧ ∃ more, q.host.ready = p.host.ready ++ more

namespace Part.LinkSide

/-! ### The operations of the link -/

theorem yard (p : Part) (y : Yard) : p.LinkSide { p with yard := y } := ⟨rfl, [], (List.append_nil _).symm⟩

theorem refl (p : Part) : p.LinkSide p := yard p p.yard

/-- R126: the end of a wait readies replies behind those that are ready. -/
theorem waitOver (p : Part) (y : Yard) (w : Wait) (body : List Byte) :
    p.LinkSide { p with yard := y, host := p.host.waitOver w body } := ⟨rfl, _, rfl⟩

/-- R126: an exchange ends with what it does to the yard, and a CLEAR ALL readies its reply. -/
theorem enrollEnds (p : Part) (y : Yard) (x : Exchange) :
    p.LinkSide (Part.enrollEnds { p with yard := y } x) := by
  unfold Part.enrollEnds
  split
  · exact waitOver p y _ _
  · exact yard p y

theorem loaderTurn (p : Part) : p.LinkSide p.loaderTurn := by
  unfold Part.loaderTurn
  split
  · exact yard p _
  · exact refl p

theorem probeTurn (p : Part) : p.LinkSide p.probeTurn := by
  unfold Part.probeTurn
  split
  · exact yard p _
  · exact refl p

theorem clearAllBegins (p : Part) : p.LinkSide p.clearAllBegins := by
  unfold Part.clearAllBegins
  split
  · exact yard p _
  · exact refl p

theorem answerTimeout (p : Part) : p.LinkSide p.answerTimeout := by
  unfold Part.answerTimeout Part.notAnswered
  split
  · exact yard p _
  · split
    · exact yard p _
    · exact enrollEnds p _ _

theorem lateAnswer (p : Part) (terminal : Nat) (ans : Answer) : p.LinkSide (p.lateAnswer terminal ans) := by
  unfold Part.lateAnswer
  simp only
  split
  · exact yard p _
  · exact yard p _

theorem answered (p : Part) (terminal : Nat) (ans : Answer) : p.LinkSide (p.answered terminal ans) := by
  have late : p.LinkSide
      (if p.yard.loader.awaitsLate terminal then p.lateAnswer terminal ans else p) := by
    split
    · exact lateAnswer p terminal ans
    · exact refl p
  unfold Part.answered
  split
  · split
    · exact enrollEnds p _ _
    · exact late
  · exact late

theorem charsArrive (p : Part) (chars : List LinkChar) : p.LinkSide (p.charsArrive chars) := by
  unfold Part.charsArrive
  split
  · exact answered p _ _
  · exact refl p

/-! ### The rows -/

variable {s t : State}

/-- A row of the part keeps the relation where its work does, whether the part runs or not. -/
theorem of_whileRunning {f : Part → Part} (hf : ∀ p : Part, p.LinkSide (f p)) (h : s.whileRunning f = .next t) :
    s.part.LinkSide t.part ∧ t = s.withPart t.part := by
  obtain rfl := Host.Outcome.next.inj h
  refine ⟨?_, rfl⟩
  show s.part.LinkSide (s.part.whileRunning f)
  unfold Part.whileRunning
  split
  · exact hf s.part
  · exact refl s.part

/-- R129: so does the row of an answer, whether it comes clear or changed on the line. -/
theorem of_answered {line : AnswerLine} {a : Option Answer} (h : s.answered line a = .next t) :
    s.part.LinkSide t.part ∧ t = s.withPart t.part := by
  unfold State.answered at h
  split at h
  · refine of_whileRunning (fun p => ?_) h
    split
    · exact answered p _ _
    · exact refl p
  · obtain rfl := Host.Outcome.next.inj h
    exact ⟨refl _, rfl⟩
  · exact of_whileRunning (fun p => charsArrive p _) h

end Part.LinkSide

/-- Settles O13. -/
theorem loaderRowsFrame : Obligations.LoaderRowsFrame := by
  intro c s t link next
  have side : s.part.LinkSide t.part ∧ t = s.withPart t.part := by
    cases c with
    | loaderTurn => exact Part.LinkSide.of_whileRunning .loaderTurn next
    | probe => exact Part.LinkSide.of_whileRunning .probeTurn next
    | clearAllExchange => exact Part.LinkSide.of_whileRunning .clearAllBegins next
    | answerTimeout => exact Part.LinkSide.of_whileRunning .answerTimeout next
    | idle | accept | lifted | done | fault | withdrawn | tooLate | text =>
      exact Part.LinkSide.of_answered next
    | _ => cases link
  obtain ⟨⟨part, ready⟩, state⟩ := side
  exact ⟨state.trans (congrArg s.withPart part), ready⟩

end Sys2Proof.Machine
end

section
/-! SUPPORT. The turn order (R128), the messages of turns and probes (R128, R131, R140), for O48. -/

namespace Sys2Proof.Machine

/-! ### The terminal that has the next turn (R128) -/

/-- R128: the next turn goes to the first terminal after the one last served, round from 7 to 0, that
qualifies. -/
theorem Yard.nextTurn_eq {y : Yard} {now t : Nat} (last : y.loader.lastServed ≤ 7) (range : t ≤ 7)
    (here : (y.terminal t).qualifies now = true)
    (before : ∀ u, u ≤ 7 → (u + 7 - y.loader.lastServed) % 8 < (t + 7 - y.loader.lastServed) % 8 →
      (y.terminal u).qualifies now = false) : y.nextTurn now = some t := by
  have place : (y.loader.lastServed + 1 + (t + 7 - y.loader.lastServed) % 8) % 8 = t := by omega
  have first : (List.range 8).find? ((fun u => (y.terminal u).qualifies now)
      ∘ fun i => (y.loader.lastServed + 1 + i) % 8) = some ((t + 7 - y.loader.lastServed) % 8) := by
    rw [List.find?_range_eq_some]
    simp only [Function.comp, place, here, List.mem_range, true_and]
    refine ⟨Nat.mod_lt _ (by decide), fun i hi => ?_⟩
    rw [before _ (by omega) (by omega)]
    rfl
  rw [Yard.nextTurn, turnOrder, List.find?_map, first]
  exact congrArg some place

/-- R128: with the line free the next turn is taken by the row of its terminal's state, and by no other. -/
theorem Part.turnOf_eq {p : Part} {t : Nat} (free : p.yard.loader.exchange = none)
    (clear : p.yard.loader.clearAlls = []) (next : p.yard.nextTurn p.clock = some t) (st : TerminalState) :
    p.turnOf st = if (p.yard.terminal t).state = st then some t else none := by
  have line : p.yard.lineFree = true := by rw [Yard.lineFree, free, clear]; rfl
  rw [Part.turnOf, if_pos line, next]

theorem Part.loaderTurn_taken {p : Part} {t : Nat} (h : p.turnOf .active = some t) :
    p.loaderTurn = { p with yard := p.yard.serveTerminal (p.turnExchange t) } := by
  rw [Part.loaderTurn, h]

theorem Part.loaderTurn_idle {p : Part} (h : p.turnOf .active = none) : p.loaderTurn = p := by
  rw [Part.loaderTurn, h]

theorem Part.probeTurn_taken {p : Part} {t : Nat} (h : p.turnOf .silent = some t) :
    p.probeTurn = { p with yard := p.yard.serveTerminal (p.probeExchange t) } := by
  rw [Part.probeTurn, h]

theorem Part.probeTurn_idle {p : Part} (h : p.turnOf .silent = none) : p.probeTurn = p := by
  rw [Part.probeTurn, h]

/-! ### The messages (R128, R131, R140) -/

section
variable {y : Yard} {k : Terminal}

/-- R128: the oldest notice goes first. -/
theorem Yard.turnMessage_notice {z : Notice} {rest : List Notice} (h : k.notices = z :: rest) (halt : Bool) :
    y.turnMessage halt k = z.message := by
  rw [Yard.turnMessage, h]

/-- R140: while HALT is asserted no move is sent. -/
theorem Yard.turnMessage_halted (h : k.notices = []) : y.turnMessage true k = .poll := by
  rw [Yard.turnMessage, h]
  rfl

theorem Yard.turnMessage_move (h : k.notices = []) : y.turnMessage false k = (y.undelivered k).getD .poll := by
  rw [Yard.turnMessage, h]
  rfl

/-- R128: every move of the list that is outstanding has been delivered. -/
def Yard.allDelivered (y : Yard) (moves : List Nat) : Prop :=
  ∀ o ∈ moves, ∀ v, y.move? o = some v → v.delivered = true

/-- R128: the first move that is not delivered is sent. -/
theorem Yard.undelivered_first {older later : List Nat} {n : Nat} {m : Move}
    (moves : k.moves = older ++ n :: later) (delivered : y.allDelivered older) (hm : y.move? n = some m)
    (due : m.delivered = false) : y.undelivered k = some (m.message n) := by
  refine List.findSome?_eq_some_iff.mpr ⟨older, n, later, moves, by simp [hm, due], fun o member => ?_⟩
  split
  · next v hv => exact if_pos (delivered o member v hv)
  · rfl

/-- R128: delivered moves are not sent again. -/
theorem Yard.undelivered_none (delivered : y.allDelivered k.moves) : y.undelivered k = none := by
  refine List.findSome?_eq_none_iff.mpr fun o member => ?_
  split
  · next v hv => exact if_pos (delivered o member v hv)
  · rfl

/-- R131: a probe carries the oldest notice, or a POLL. -/
theorem Terminal.probeMessage_notice {z : Notice} {rest : List Notice} (h : k.notices = z :: rest) :
    k.probeMessage = z.message := by
  rw [Terminal.probeMessage, h]

theorem Terminal.probeMessage_poll (h : k.notices = []) : k.probeMessage = .poll := by
  rw [Terminal.probeMessage, h]

end

/-- Settles O48. -/
theorem turnAndProbe : Obligations.TurnAndProbe := by
  intro s t running free clear last range here before begun k
  have turn := Part.turnOf_eq free clear (Yard.nextTurn_eq last range here before)
  refine ⟨fun active => ?_, fun silent => ?_⟩
  · have taken : s.part.turnOf .active = some t := (turn .active).trans (if_pos active)
    have idle : s.part.turnOf .silent = none :=
      (turn .silent).trans (if_neg fun silent => TerminalState.noConfusion (active.symm.trans silent))
    refine ⟨s.part.yard.turnMessage s.part.halt k, ?_, ?_, fun n rest h => Yard.turnMessage_notice h _,
      fun n rest h => Yard.turnMessage_notice h _, fun none halted => ?_, fun none going => ⟨?_, ?_⟩⟩
    · refine (State.whileRunning_eq running _).trans ?_
      rw [Part.loaderTurn_taken taken]
      rfl
    · refine (State.whileRunning_eq running _).trans ?_
      rw [Part.probeTurn_idle idle]
      rfl
    · rw [halted, Yard.turnMessage_halted none]
    · intro older later n mv moves delivered hmv due
      rw [going, Yard.turnMessage_move none, Yard.undelivered_first moves delivered hmv due]
      rfl
    · intro delivered
      rw [going, Yard.turnMessage_move none, Yard.undelivered_none delivered]
      rfl
  · have taken : s.part.turnOf .silent = some t := (turn .silent).trans (if_pos silent)
    have idle : s.part.turnOf .active = none :=
      (turn .active).trans (if_neg fun active => TerminalState.noConfusion (silent.symm.trans active))
    refine ⟨k.probeMessage, ?_, ?_, fun n rest h => Terminal.probeMessage_notice h,
      fun n rest h => Terminal.probeMessage_notice h, Terminal.probeMessage_poll⟩
    · refine (State.whileRunning_eq running _).trans ?_
      rw [Part.probeTurn_taken taken]
      rfl
    · refine (State.whileRunning_eq running _).trans ?_
      rw [Part.loaderTurn_idle idle]
      rfl

end Sys2Proof.Machine
end

section
/-! SUPPORT. What a well-formed answer does to the link before its report is taken (R129, R131, R126), and the
reports that name no move of their terminal (R132, R141), for O50. -/

namespace Sys2Proof.Machine

/-! ### The end of an exchange (R129) -/

namespace Yard

theorem terminal_onLink (y : Yard) {f : LoaderLink → LoaderLink} (h : ∀ l, (f l).terminals = l.terminals)
    (t : Nat) : (y.onLink f).terminal t = y.terminal t := by
  rw [terminal, onLink, h, terminal]

/-- R129, R132, R134: the message taken touches a move's delivery or a notice, and nothing else. -/
theorem messageTaken_reads (y : Yard) (t : Nat) (msg : LinkMessage) :
    (y.messageTaken t msg).loader.exchange = y.loader.exchange
      ∧ (y.messageTaken t msg).loader.texts = y.loader.texts
      ∧ (y.messageTaken t msg).events = y.events
      ∧ (t ≤ 7 → ∃ notices,
        (y.messageTaken t msg).terminal t = { y.terminal t with notices := notices }) := by
  unfold messageTaken
  split
  · split <;> exact ⟨rfl, rfl, rfl, fun _ => ⟨_, rfl⟩⟩
  · exact ⟨rfl, rfl, rfl, fun range => ⟨_, y.terminal_modifyTerminal_same _ range⟩⟩
  · exact ⟨rfl, rfl, rfl, fun _ => ⟨_, rfl⟩⟩

theorem messageTaken_move {y : Yard} {t n : Nat} {m : Move} (hm : y.moveAt? t n = some m) (kind : MoveKind)
    (tag : Nat) (source dest : Spot) :
    (y.messageTaken t (.move n kind tag source dest)).move? n = some { m with delivered := true } := by
  unfold messageTaken
  simp only [hm]
  refine (Table.get?_modify_same ..).trans ?_
  rw [← Yard.move?, Yard.moveAt?_move? hm]
  rfl

/-- R132: a terminal that holds no move has none delivered. -/
theorem messageTaken_moves {y : Yard} {t : Nat} (holdsNone : ∀ n, y.moveAt? t n = none) (msg : LinkMessage) :
    (y.messageTaken t msg).loader.moves = y.loader.moves := by
  unfold messageTaken
  split
  · simp only [holdsNone]
  · rfl
  · rfl

end Yard

/-- R126, R131: what the purpose of an exchange makes of its terminal once it is answered. -/
def Purpose.metBy : Purpose → Terminal → Terminal
  | .turn, k => k
  | .probe, k => { k with state := .active, nextProbe := none }
  | .clearAll, k => { k with state := .active, enrolling := false }

namespace Yard

theorem purposeMet_reads (y : Yard) (t : Nat) (p : Purpose) :
    (y.purposeMet t p).loader.exchange = y.loader.exchange
      ∧ (y.purposeMet t p).loader.texts = y.loader.texts
      ∧ (y.purposeMet t p).loader.moves = y.loader.moves
      ∧ (y.purposeMet t p).events = (if p = .probe then raiseIn y.events .loaderBack else y.events)
      ∧ (t ≤ 7 → (y.purposeMet t p).terminal t = p.metBy (y.terminal t)) := by
  cases p with
  | turn => exact ⟨rfl, rfl, rfl, rfl, fun _ => rfl⟩
  | probe => exact ⟨rfl, rfl, rfl, rfl, fun range => y.terminal_modifyTerminal_same _ range⟩
  | clearAll => exact ⟨rfl, rfl, rfl, rfl, fun range => y.terminal_modifyTerminal_same _ range⟩

/-- R129: the yard whose terminal has been heard, with no exchange in flight. -/
def heardNow (y : Yard) (now t : Nat) : Yard :=
  (y.onLink fun l => { l with exchange := none }).modifyTerminal t fun k => { k with lastHeard := some now }

theorem exchangeDone_eq (y : Yard) (now : Nat) (x : Exchange) : y.exchangeDone now x
    = ((y.heardNow now x.terminal).messageTaken x.terminal x.message).purposeMet x.terminal x.purpose := rfl

theorem terminal_heardNow (y : Yard) (now : Nat) {t : Nat} (range : t ≤ 7) :
    (y.heardNow now t).terminal t = { y.terminal t with lastHeard := some now } :=
  Yard.terminal_modifyTerminal_same _ _ range

/-- R129: a well-formed answer ends the exchange, changes no text, and sets no flag but LOADER_BACK. -/
theorem exchangeDone_link (y : Yard) (now : Nat) (x : Exchange) :
    (y.exchangeDone now x).loader.exchange = none
      ∧ (y.exchangeDone now x).loader.texts = y.loader.texts
      ∧ (y.exchangeDone now x).events
        = if x.purpose = .probe then raiseIn y.events .loaderBack else y.events := by
  obtain ⟨exchange, texts, events, -⟩ := (y.heardNow now x.terminal).messageTaken_reads x.terminal x.message
  obtain ⟨exchange', texts', -, events', -⟩ :=
    ((y.heardNow now x.terminal).messageTaken x.terminal x.message).purposeMet_reads x.terminal x.purpose
  rw [exchangeDone_eq, exchange', exchange, texts', texts, events', events]
  exact ⟨rfl, rfl, rfl⟩

/-- R129, R131, R126: the terminal that answered has been heard now, and is what the purpose makes of it. -/
theorem terminal_exchangeDone (y : Yard) (now : Nat) {x : Exchange} (range : x.terminal ≤ 7) :
    ∃ notices, (y.exchangeDone now x).terminal x.terminal = x.purpose.metBy
      { y.terminal x.terminal with lastHeard := some now, notices := notices } := by
  obtain ⟨-, -, -, own⟩ := (y.heardNow now x.terminal).messageTaken_reads x.terminal x.message
  obtain ⟨-, -, -, -, met⟩ :=
    ((y.heardNow now x.terminal).messageTaken x.terminal x.message).purposeMet_reads x.terminal x.purpose
  obtain ⟨notices, taken⟩ := own range
  exact ⟨notices, by rw [exchangeDone_eq, met range, taken, y.terminal_heardNow now range]⟩

/-- R132: the MOVE message of an answered exchange is delivered, where its terminal holds the move. -/
theorem move?_exchangeDone {y : Yard} {x : Exchange} {n tag : Nat} {kind : MoveKind} {source dest : Spot}
    {m : Move} (msg : x.message = .move n kind tag source dest) (hm : y.moveAt? x.terminal n = some m)
    (now : Nat) : (y.exchangeDone now x).move? n = some { m with delivered := true } := by
  obtain ⟨-, -, moves, -⟩ :=
    ((y.heardNow now x.terminal).messageTaken x.terminal x.message).purposeMet_reads x.terminal x.purpose
  rw [exchangeDone_eq, move?, moves, msg]
  have held : (y.heardNow now x.terminal).moveAt? x.terminal n = some m := hm
  exact messageTaken_move held kind tag source dest

/-- R132: a terminal that holds no move holds none once it has answered. -/
theorem moveAt?_exchangeDone {y : Yard} {x : Exchange} (holdsNone : ∀ n, y.moveAt? x.terminal n = none)
    (now n : Nat) : (y.exchangeDone now x).moveAt? x.terminal n = none := by
  obtain ⟨-, -, moves, -⟩ :=
    ((y.heardNow now x.terminal).messageTaken x.terminal x.message).purposeMet_reads x.terminal x.purpose
  have none : ∀ n, (y.heardNow now x.terminal).moveAt? x.terminal n = none := holdsNone
  have same : (y.exchangeDone now x).move? n = y.move? n := by
    rw [exchangeDone_eq, move?, moves, messageTaken_moves none x.message]
    rfl
  rw [moveAt?, same]
  exact holdsNone n

end Yard

/-! ### The row of an answer -/

/-- R129, R132, R126: a clear, well-formed answer of the terminal of the exchange in flight is taken as its
report, and what follows is what follows every act. -/
theorem State.exec_answer {s : State} {t : Nat} {x : Exchange} (running : s.part.running = true)
    (range : t ≤ 7) (flying : s.part.yard.loader.exchange = some x) (own : x.terminal = t) {a : Answer}
    (formed : a.wf = true) : exec (answerRow (.clear t) a) s = .next (s.withPart (Part.enrollEnds
      { s.part with yard := ((s.heard x).act.report s.part.env x a).finish s.part.env } x)) := by
  rw [State.exec_clear running range formed, Part.answered, flying]
  simp only [if_pos own]
  rfl

/-- R129: in a turn there is no ENROLL LOADER to answer. -/
theorem State.exec_inTurn {s : State} {t : Nat} {x : Exchange} (turn : s.inTurn t x) {a : Answer}
    (formed : a.wf = true) : exec (answerRow (.clear t) a) s
      = .next (s.settledAs ((s.heard x).act.report s.part.env x a)) :=
  (exec_answerRow _ a s).trans (State.answered_inTurn turn formed)

/-! ### Reports that name no move of their terminal (R132) -/

/-- R132: a report of a move that its terminal does not hold is stale. -/
theorem Act.onMove_stale {y : Yard} {t n : Nat} (unheld : y.moveAt? t n = none) (f : Move → Act) :
    y.act.onMove t n f = (y.raise .staleDone).act := by
  unfold Act.onMove
  rw [Yard.act_yard, unheld]
  rfl

theorem State.stale_inTurn {s : State} {t : Nat} {x : Exchange} {n : Nat} (turn : s.inTurn t x)
    (unheld : (s.heard x).moveAt? t n = none) {a : Answer} (formed : a.wf = true) {f : Move → Act}
    (report : (s.heard x).act.report s.part.env x a = (s.heard x).act.onMove x.terminal n f) :
    exec (answerRow (.clear t) a) s = .next (s.settledAs ((s.heard x).raise .staleDone).act) := by
  rw [State.exec_inTurn turn formed, report]
  obtain ⟨-, -, rfl, -⟩ := turn
  rw [Act.onMove_stale unheld]

/-! ### TEXT (R141) -/

theorem Answer.wf_text {chars : List Byte} (filled : 1 ≤ chars.length) (short : chars.length ≤ 32)
    (printed : chars.all textChar = true) : (Answer.text chars).wf = true := by
  simp [Answer.wf, within, filled, short, printed]

/-- R141: with room in the queue a text joins it, and TEXT_WAITING is set. -/
theorem Yard.takeText_room {y : Yard} (room : y.loader.texts.length < 8) (terminal now : Nat)
    (chars : List Byte) : y.takeText terminal now chars
      = ({ y with loader := { y.loader with
          texts := y.loader.texts ++ ([{ terminal := terminal, time := now, chars := chars }] : List TextEntry) } }).raise
        .textWaiting :=
  if_pos room

/-- R141: on a full queue it is lost. -/
theorem Yard.takeText_full {y : Yard} (full : 8 ≤ y.loader.texts.length) (terminal now : Nat)
    (chars : List Byte) : y.takeText terminal now chars = y.raise .textLost :=
  if_neg (Nat.not_lt.mpr full)

/-! ### An answer to a probe (R131) -/

/-- R131: whatever follows it, an answer IDLE to a probe leaves its terminal ACTIVE with no probe due, and
LOADER_BACK set. -/
theorem Yard.probeAnswered (y : Yard) (e : Env) {x : Exchange} (range : x.terminal ≤ 7)
    (probe : x.purpose = .probe) :
    let z := (y.exchangeDone e.clock x).act.finish e
    (z.terminal x.terminal).state = .active ∧ (z.terminal x.terminal).nextProbe = none
      ∧ (z.terminal x.terminal).lastHeard = some e.clock ∧ holdsFlag z.events .loaderBack = true
      ∧ z.loader.exchange = none ∧ z.stack = y.stack := by
  intro z
  have still : z.still = (y.exchangeDone e.clock x).still := Act.still_finish e _
  obtain ⟨exchange, -, events⟩ := y.exchangeDone_link e.clock x
  obtain ⟨notices, met⟩ := y.terminal_exchangeDone e.clock range
  have own := Yard.terminal_of_still still x.terminal
  rw [met, probe] at own
  rw [if_pos probe] at events
  have flag : holdsFlag (y.exchangeDone e.clock x).events .loaderBack = true := by
    rw [events]
    exact holdsFlag_raiseIn_same _ _
  exact ⟨(congrArg Terminal.state own :), (congrArg Terminal.nextProbe own :),
    (congrArg Terminal.lastHeard own :), (Yard.holdsFlag_of_still still rfl).trans flag,
    (Yard.exchange_of_still still).trans exchange,
    (Yard.stack_of_still still).trans (y.exchangeDone_reads e.clock x).1⟩

/-- R129, R132: what an answer to a turn leaves before its report is taken. -/
theorem State.heard_inTurn {s : State} {t : Nat} {x : Exchange} (turn : s.inTurn t x) :
    (s.heard x).loader.exchange = none
      ∧ ((s.heard x).terminal t).lastHeard = some s.part.clock
      ∧ (s.heard x).stack = s.part.yard.stack ∧ (s.heard x).events = s.part.yard.events
      ∧ (s.heard x).loader.texts = s.part.yard.loader.texts := by
  obtain ⟨-, -, rfl, purpose, range⟩ := turn
  obtain ⟨exchange, texts, events⟩ := s.part.yard.exchangeDone_link s.part.clock x
  obtain ⟨notices, own⟩ := s.part.yard.terminal_exchangeDone s.part.clock range
  rw [purpose] at own events
  exact ⟨exchange, congrArg Terminal.lastHeard own, (s.part.yard.exchangeDone_reads s.part.clock x).1, events,
    texts⟩

/-- Settles O50. -/
theorem idleTextAndStale : Obligations.IdleTextAndStale := by
  refine ⟨fun s t x running range flying own probe => ?_, fun s t x turn => ?_⟩
  · have row := State.exec_answer running range flying own (a := .idle) rfl
    rw [Part.enrollEnds, probe] at row
    obtain rfl := own
    exact ⟨_, row, s.part.yard.probeAnswered s.part.env range probe⟩
  obtain ⟨exchange, lastHeard, stack, events, texts⟩ := State.heard_inTurn turn
  refine ⟨⟨exchange, lastHeard, stack, events, fun n kd tag src dst m msg hm => ?_⟩, ?_,
    fun chars filled short printed => ?_, fun n lo hi unheld => ?_⟩
  · obtain ⟨-, -, rfl, -⟩ := turn
    exact Yard.move?_exchangeDone msg hm s.part.clock
  · exact State.exec_inTurn turn (a := .idle) rfl
  · have row := State.exec_inTurn turn (Answer.wf_text filled short printed)
    obtain ⟨-, -, own, -⟩ := turn
    have taken : (s.heard x).act.report s.part.env x (.text chars)
        = ((s.heard x).takeText t s.part.clock chars).act := by rw [← own]; rfl
    rw [taken] at row
    intro entry
    refine ⟨fun room => row.trans ?_, fun full => row.trans ?_⟩
    · rw [Yard.takeText_room (texts ▸ room), texts]
    · rw [Yard.takeText_full (texts ▸ full)]
  · have inRange := moveInRange_of lo hi
    exact ⟨State.stale_inTurn turn unheld (a := .accept n) inRange rfl,
      State.stale_inTurn turn unheld (a := .lifted n) inRange rfl,
      State.stale_inTurn turn unheld (a := .done n none none) (by simp [Answer.wf, inRange]) rfl,
      fun r => State.stale_inTurn turn unheld (a := .fault n r) inRange rfl,
      State.stale_inTurn turn unheld (a := .withdrawn n) inRange rfl,
      State.stale_inTurn turn unheld (a := .tooLate n) inRange rfl⟩

end Sys2Proof.Machine
end

section
/-! SUPPORT. LIFTED (R134): the test against the source, and what a lift does to the source, the move, the job,
the pack and the notices, for O52. -/

namespace Sys2Proof.Machine

/-! ### The test of a LIFTED (R134) -/

/-- R134: a pack is lifted off a stack exactly where it stands in a bay with nothing above it. -/
theorem Yard.liftAllowed_stack {y : Yard} {m : Move} (kind : m.kind ≠ .fromTruck) :
    y.liftAllowed m = true ↔ ∃ b, y.bayOf? m.tag = some b ∧ y.above b m.tag = [] := by
  unfold Yard.liftAllowed
  split
  · next bed _ _ => exact absurd bed kind
  · next bed _ => exact absurd bed kind
  · cases y.bayOf? m.tag with
    | none => simp
    | some b => simp

section
variable {m : Move} {l number : Nat} {r r0 : BedRef} {j : Job} {tr : Truck}

/-- R134: a pack is lifted off a bed exactly where it stands at the top occupied position of its slot. -/
theorem Yard.liftAllowed_bed {y : Yard} (kind : m.kind = .fromTruck) (source : m.source = .bed l r)
    (hj : y.job? m.job = some j) (offload : j.work = .offload number r0) (ht : y.truck? number = some tr) :
    y.liftAllowed m = tr.isTopOccupied r := by
  obtain ⟨work, tag, state, bound, move⟩ := j
  cases offload
  unfold Yard.liftAllowed
  simp only [kind, source, hj, ht]

/-- R134: what is lifted off a bed has a bed position and an OFFLOAD job. -/
theorem Yard.offload_of_liftAllowed {y : Yard} (kind : m.kind = .fromTruck) (allowed : y.liftAllowed m = true) :
    ∃ l r j number r0, m.source = .bed l r ∧ y.job? m.job = some j ∧ j.work = .offload number r0 := by
  unfold Yard.liftAllowed at allowed
  split at allowed
  · next _ source hj => exact ⟨_, _, _, _, _, source, hj, rfl⟩
  · cases allowed
  · next other _ => exact absurd kind other

/-! ### The pack leaves its source (R134) -/

namespace Act

theorem leaveSource_stack (a : Act) (kind : m.kind ≠ .fromTruck) : a.leaveSource m = a.leave m.tag := by
  unfold leaveSource
  split
  · next bed _ _ => exact absurd bed kind
  · rfl

theorem leaveSource_bed {a : Act} (kind : m.kind = .fromTruck) (source : m.source = .bed l r)
    (hj : a.yard.job? m.job = some j) (offload : j.work = .offload number r0) :
    a.leaveSource m = a.on fun y => (y.modifyTruck number fun t => t.vacate r).modifyPack m.tag fun k =>
      { k with place := .nowhere } := by
  obtain ⟨work, tag, state, bound, move⟩ := j
  cases offload
  unfold leaveSource
  simp only [kind, source, hj]

/-- R134: a lift off a stack takes the pack out of its bay's stack and changes no other stack and no truck. -/
theorem leaveSource_stack_reads {a : Act} {b : Nat} (kind : m.kind ≠ .fromTruck)
    (hb : a.yard.bayOf? m.tag = some b) :
    (a.leaveSource m).yard.trucks = a.yard.trucks
      ∧ (a.leaveSource m).yard.stackOf b = (a.yard.stackOf b).erase m.tag
      ∧ (∀ c, c ≠ b → (a.leaveSource m).yard.stackOf c = a.yard.stackOf c)
      ∧ (a.leaveSource m).yard.pack? m.tag
        = (a.yard.pack? m.tag).map fun k => { k with place := .nowhere } := by
  have left : a.leaveSource m = (a.on fun y => y.leaveStack b m.tag).touchBay b := by
    rw [a.leaveSource_stack kind, leave, hb]
  rw [left, touchBay_yard, on_yard]
  exact ⟨rfl, a.yard.stackOf_leaveStack_same b m.tag,
    fun c other => a.yard.stackOf_leaveStack_other m.tag other.symm, a.yard.pack?_leaveStack_same b m.tag⟩

/-- R134: a lift off a bed vacates the position on its truck and changes no stack. -/
theorem leaveSource_bed_reads {a : Act} (kind : m.kind = .fromTruck) (source : m.source = .bed l r)
    (hj : a.yard.job? m.job = some j) (offload : j.work = .offload number r0) :
    (a.leaveSource m).yard.stack = a.yard.stack
      ∧ (a.leaveSource m).yard.truck? number = (a.yard.truck? number).map (fun t => t.vacate r)
      ∧ (a.leaveSource m).yard.pack? m.tag
        = (a.yard.pack? m.tag).map fun k => { k with place := .nowhere } := by
  rw [leaveSource_bed kind source hj offload]
  refine ⟨a.yard.modifyTruck_stack number _, ?_, ?_⟩
  · exact a.yard.truck?_modifyTruck_same number (f := fun t => t.vacate r) fun _ => rfl
  · refine (Yard.pack?_modifyPack_same _ m.tag _).trans ?_
    rw [Yard.pack?, Yard.modifyTruck_packs, Yard.pack?]

/-- R134: a lift that is accepted leaves its pack standing nowhere. -/
theorem pack?_leaveSource {a : Act} (allowed : a.yard.liftAllowed m = true) :
    (a.leaveSource m).yard.pack? m.tag = (a.yard.pack? m.tag).map fun k => { k with place := .nowhere } := by
  by_cases kind : m.kind = .fromTruck
  · obtain ⟨l, r, j, number, r0, source, hj, offload⟩ := Yard.offload_of_liftAllowed kind allowed
    exact (leaveSource_bed_reads kind source hj offload).2.2
  · obtain ⟨b, hb, -⟩ := (Yard.liftAllowed_stack kind).mp allowed
    exact (leaveSource_stack_reads kind hb).2.2.2

/-! ### The lift (R134, R139) -/

/-- R134: what a lift writes beside its source: the move, the job and the notices. -/
def liftWrites (asked : Bool) (n : Nat) (m : Move) (y : Yard) : Yard :=
  let y := (y.modifyMove n fun m => { m with state := .lifted }).modifyJob m.job fun j =>
    { j with state := .lifted }
  if asked then y else y.dropNotice m.terminal (.withdraw n)

theorem lift_eq (a : Act) (asked : Bool) (n : Nat) (m : Move) :
    a.lift asked n m = (a.leaveSource m).on (liftWrites asked n m) := rfl

/-- R134: those writes leave stacks, packs and trucks, and make the move and its job LIFTED. -/
theorem liftWrites_reads (asked : Bool) (n : Nat) (m : Move) (y : Yard) :
    (liftWrites asked n m y).stack = y.stack ∧ (liftWrites asked n m y).packs = y.packs
      ∧ (liftWrites asked n m y).trucks = y.trucks
      ∧ (liftWrites asked n m y).move? n = (y.move? n).map (fun m => { m with state := .lifted })
      ∧ (liftWrites asked n m y).job? m.job = (y.job? m.job).map fun j => { j with state := .lifted } := by
  unfold liftWrites
  simp only
  split <;> exact ⟨rfl, rfl, rfl, Table.get?_modify_same .., Table.get?_modify_same ..⟩

/-- R139: a WITHDRAW notice that has not been sent yet is dropped (log entry 34). -/
theorem terminal_liftWrites (asked : Bool) (n : Nat) {m : Move} (range : m.terminal ≤ 7) (y : Yard) :
    (liftWrites asked n m y).terminal m.terminal = { y.terminal m.terminal with
      notices := if asked then (y.terminal m.terminal).notices
        else (y.terminal m.terminal).notices.filter fun z => z != .withdraw n } := by
  unfold liftWrites
  simp only
  split
  · rfl
  · exact Yard.terminal_modifyTerminal_same _ _ range

/-- R134: the move, the job and the pack of an accepted lift, and the notices of its terminal. -/
theorem lift_reads {a : Act} (asked : Bool) (n : Nat) (range : m.terminal ≤ 7)
    (allowed : a.yard.liftAllowed m = true) :
    (a.lift asked n m).yard.move? n = (a.yard.move? n).map (fun m => { m with state := .lifted })
      ∧ (a.lift asked n m).yard.job? m.job = (a.yard.job? m.job).map (fun j => { j with state := .lifted })
      ∧ (a.lift asked n m).yard.pack? m.tag
        = (a.yard.pack? m.tag).map (fun k => { k with place := .nowhere })
      ∧ (a.lift asked n m).yard.terminal m.terminal = { a.yard.terminal m.terminal with
        notices := if asked then (a.yard.terminal m.terminal).notices
          else (a.yard.terminal m.terminal).notices.filter fun z => z != .withdraw n } := by
  obtain ⟨-, packs, -, move, job⟩ := liftWrites_reads asked n m (a.leaveSource m).yard
  have loader := a.leaveSource_loader m
  obtain ⟨jobs, -⟩ := a.leaveSource_reads m
  rw [lift_eq, on_yard, move, job, Yard.move?, loader, Yard.job?, jobs, terminal_liftWrites asked n range,
    Yard.terminal_of_loader loader, Yard.pack?, packs, ← Yard.pack?, pack?_leaveSource allowed]
  exact ⟨rfl, rfl, rfl, rfl⟩

end Act

end

/-- R134: a REJECT notice becomes pending once. -/
theorem Yard.addReject_eq (y : Yard) (t n : Nat) : y.addReject t n = y.modifyTerminal t fun k =>
    { k with notices := if .reject n ∈ k.notices then k.notices else k.notices ++ [.reject n] } := by
  refine congrArg (y.modifyTerminal t) (funext fun k => ?_)
  simp only [List.contains_iff_mem]
  split <;> rfl

/-- Settles O52. -/
theorem liftedReport : Obligations.LiftedReport := by
  intro s t x n m turn lo hi hm
  have row : exec (.lifted (.clear t) n) s
      = .next (s.settledAs ((s.heard x).act.lifted (x.message.asks n) n m)) :=
    State.reported_inTurn turn hm (ans := .lifted n) (moveInRange_of lo hi) rfl
  obtain ⟨-, -, -, -, range⟩ := turn
  obtain rfl := Yard.moveAt?_terminal hm
  have heard : (s.heard x).stack = s.part.yard.stack ∧ (s.heard x).trucks = s.part.yard.trucks :=
    s.part.yard.exchangeDone_reads s.part.clock x
  obtain ⟨stack, trucks⟩ := heard
  refine ⟨fun lifted => ?_, fun kind => Yard.liftAllowed_stack kind,
    fun l number r r0 j tr kind source hj offload ht => by
      rw [Yard.liftAllowed_bed kind source hj offload ht],
    fun down barred => ?_, fun down allowed => ?_⟩
  · rw [row, Act.lifted, if_pos lifted]
  · rw [row, Act.lifted, if_neg down, Yard.act_yard, if_neg (by simp [barred])]
    exact congrArg (fun y : Yard => Host.Outcome.next (s.settledAs y.act)) (Yard.addReject_eq _ _ n)
  · have read := Act.lift_reads (a := (s.heard x).act) (x.message.asks n) n range allowed
    obtain ⟨move, job, pack, terminal⟩ := read
    obtain ⟨stack', -, trucks', -⟩ :=
      Act.liftWrites_reads (x.message.asks n) n m ((s.heard x).act.leaveSource m).yard
    refine ⟨?_, ?_, fun j hj => ?_, fun k hk => ?_, ?_, fun kind => ?_, fun kind => ?_⟩
    · rw [row, Act.lifted, if_neg down, Yard.act_yard, if_pos allowed]
    · rw [move, Yard.act_yard, Yard.moveAt?_move? hm]
      rfl
    · rw [job, Yard.act_yard, hj]
      rfl
    · rw [pack, Yard.act_yard, hk]
      rfl
    · rw [terminal, Yard.act_yard, LinkMessage.asks]
      simp only [decide_eq_true_eq]
    · obtain ⟨b, hb, -⟩ := (Yard.liftAllowed_stack kind).mp allowed
      obtain ⟨kept, own, others, -⟩ := Act.leaveSource_stack_reads (a := (s.heard x).act) kind hb
      refine ⟨trucks'.trans (kept.trans trucks), fun c hc => ?_⟩
      obtain rfl := Option.some.inj (hb.symm.trans hc)
      rw [Act.lift_eq, Act.on_yard, Yard.stackOf_congr stack', own, Yard.act_yard, Yard.stackOf_congr stack]
      refine ⟨rfl, fun c other => ?_⟩
      rw [Yard.stackOf_congr stack', others c other]
      exact Yard.stackOf_congr stack c
    · obtain ⟨l, r, j, number, r0, source, hj, offload⟩ := Yard.offload_of_liftAllowed kind allowed
      have kept := (Act.leaveSource_bed_reads (a := (s.heard x).act) kind source hj offload).1
      refine ⟨stack'.trans (kept.trans stack), fun l number r r0 j tr source hj offload ht => ⟨?_, tr.pos_vacate r⟩⟩
      obtain ⟨-, vacated, -⟩ := Act.leaveSource_bed_reads (a := (s.heard x).act) kind source hj offload
      rw [Act.lift_eq, Act.on_yard, Yard.truck?_of_trucks trucks', vacated, Yard.act_yard, ht]
      rfl

end Sys2Proof.Machine
end

section
/-! SUPPORT. What the reports of a terminal leave of the loader link and the flags (R132 to R141). -/

namespace Sys2Proof.Machine

/-- What leaves the loader link as it was, and clears no flag, is no more than a recall does to them. -/
theorem Yard.Reported.recalled {y z : Yard} (h : y.Reported z) : y.Recalled z where
  exchange := congrArg LoaderLink.exchange h.1
  flags := h.2
  terminals t := congrArg Terminal.unladen (Yard.terminal_of_loader h.1 t)

namespace Yard.Recalled

theorem refl (y : Yard) : y.Recalled y := ⟨rfl, .refl y, fun _ => rfl⟩

theorem modifyTerminal (y : Yard) (t : Nat) {f : Terminal → Terminal}
    (h : ∀ k, (f k).unladen = k.unladen) : y.Recalled (y.modifyTerminal t f) where
  exchange := rfl
  flags := .refl y
  terminals u := by
    rw [y.terminal_modifyTerminal]
    split
    · exact h _
    · rfl

theorem dropMove (y : Yard) (n : Nat) : y.Recalled (y.dropMove n) where
  exchange := y.exchange_dropMove n
  flags := .of_eq (y.dropMove_spec n).2.2.2.2.2.2.2
  terminals t := y.unladen_dropMove n t

theorem dropNotice (y : Yard) (t : Nat) (z : Notice) : y.Recalled (y.dropNotice t z) :=
  modifyTerminal y t fun _ => rfl

theorem addReject (y : Yard) (t n : Nat) : y.Recalled (y.addReject t n) := by
  rw [y.addReject_eq]
  exact modifyTerminal y t fun _ => rfl

theorem raise (y : Yard) (e : Event) : y.Recalled (y.raise e) := ⟨rfl, y.flagsStay_raise e, fun _ => rfl⟩

theorem takeText (y : Yard) (t now : Nat) (chars : List Byte) : y.Recalled (y.takeText t now chars) := by
  unfold Yard.takeText
  split
  · exact ⟨rfl, (Yard.FlagsStay.refl y).trans (Yard.flagsStay_raise _ _), fun _ => rfl⟩
  · exact raise y _

end Yard.Recalled

namespace Act

variable {e : Env} {a : Act} {n : Nat} {m : Move}

theorem reported_land (e : Env) (a : Act) (n : Nat) (m : Move) :
    (a.on fun y => y.dropMove n).yard.Reported (a.land e n m).yard := by
  unfold land
  simp only
  split
  · exact ⟨rfl, .refl _⟩
  · split
    · exact reported_landOnTruck e _ m _
    · exact reported_landInStaging _ _ m _
    · exact reported_landFromTruck _ _ m _
    · exact ⟨rfl, .refl _⟩

theorem recalled_doneLifted (e : Env) (a : Act) (n : Nat) (m : Move) (tag mc : Option Nat) :
    a.yard.Recalled (a.doneLifted e n m tag mc).yard := by
  unfold doneLifted
  split
  · have lost := (reported_loseMove (a.moveEnded n) m).trans (reported_doubtScanned e _ (tag.getD 0))
    exact ((Yard.Recalled.dropMove a.yard n).trans (.raise _ .moveFault)).trans lost.recalled
  · have measured : a.yard.Recalled (a.yard.measure m.tag mc) := by
      cases mc <;> exact ⟨rfl, .refl _, fun _ => rfl⟩
    exact (measured.trans (.dropMove _ n)).trans (reported_land e (a.on fun y => y.measure m.tag mc) n m).recalled

theorem recalled_lift (a : Act) (asked : Bool) (n : Nat) (m : Move) :
    a.yard.Recalled (a.lift asked n m).yard := by
  have written : ∀ y : Yard, y.Recalled (liftWrites asked n m y) := fun y => by
    unfold liftWrites
    simp only
    split
    · exact ⟨rfl, .refl _, fun _ => rfl⟩
    · refine Yard.Recalled.trans ?_ (.dropNotice _ _ _)
      exact ⟨rfl, .refl _, fun _ => rfl⟩
  exact (a.reported_leaveSource m).recalled.trans (written _)

theorem recalled_lifted (a : Act) (asked : Bool) (n : Nat) (m : Move) :
    a.yard.Recalled (a.lifted asked n m).yard := by
  unfold lifted
  split
  · exact .refl _
  · split
    · exact a.recalled_lift asked n m
    · exact .addReject _ _ _

theorem recalled_done (e : Env) (a : Act) (asked : Bool) (n : Nat) (m : Move) (tag mc : Option Nat) :
    a.yard.Recalled (a.done e asked n m tag mc).yard := by
  unfold done
  split
  · exact a.recalled_doneLifted e n m tag mc
  · split
    · exact (a.recalled_lift asked n m).trans (recalled_doneLifted e _ n m tag mc)
    · exact .addReject _ _ _

theorem recalled_faulted (e : Env) (a : Act) (n : Nat) (m : Move) (r : FaultReason) :
    a.yard.Recalled (a.faulted e n m r).yard := by
  have ended : a.yard.Recalled (a.moveEnded n).yard := (Yard.Recalled.dropMove a.yard n).trans (.raise _ _)
  cases hj : a.yard.job? m.job with
  | none =>
    have stays : a.faulted e n m r = a.moveEnded n := by
      unfold faulted
      simp only
      rw [show (a.on fun y => (y.dropMove n).raise .moveFault) = a.moveEnded n from rfl, job?_moveEnded, hj]
    rw [stays]
    exact ended
  | some j =>
    rw [faulted_eq hj]
    split
    · exact ended.trans (reported_lose _ m.job j).recalled
    · exact ended.trans (reported_faultUnlifted _ m j r).recalled

theorem recalled_withdrawn (a : Act) (n : Nat) (m : Move) : a.yard.Recalled (a.withdrawn n m).yard := by
  unfold withdrawn
  split
  · exact .refl _
  · split
    · exact (Yard.Recalled.dropMove a.yard n).trans (reported_unsend (a.on fun y => y.dropMove n) m.job _).recalled
    · exact .refl _

theorem recalled_accept (a : Act) (n : Nat) (m : Move) : a.yard.Recalled (a.accept n m).yard := by
  unfold accept
  split
  · exact ⟨rfl, .refl _, fun _ => rfl⟩
  · exact .refl _

theorem recalled_onMove (a : Act) (t n : Nat) {f : Move → Act} (h : ∀ m, a.yard.Recalled (f m).yard) :
    a.yard.Recalled (a.onMove t n f).yard := by
  unfold onMove
  split
  · exact h _
  · exact .raise _ _

/-- R132: whatever a terminal reports, the exchange, the flags that are set and every terminal but for its moves
and notices stay as they are. -/
theorem recalled_report (e : Env) (a : Act) (x : Exchange) (ans : Answer) :
    a.yard.Recalled (a.report e x ans).yard := by
  cases ans with
  | idle => exact .refl _
  | accept n => exact a.recalled_onMove _ n fun m => a.recalled_accept n m
  | lifted n => exact a.recalled_onMove _ n fun m => a.recalled_lifted _ n m
  | done n tag mc => exact a.recalled_onMove _ n fun m => a.recalled_done e _ n m tag mc
  | fault n r => exact a.recalled_onMove _ n fun m => a.recalled_faulted e n m r
  | withdrawn n => exact a.recalled_onMove _ n fun m => a.recalled_withdrawn n m
  | tooLate n => exact a.recalled_onMove _ n fun m => .dropNotice _ _ _
  | text chars => exact .takeText _ _ _ _

/-- R132, R141: where its terminal holds no move, an answer changes no stack, and a report in it is stale. -/
theorem report_unheld {y : Yard} {x : Exchange} (holdsNone : ∀ n, y.moveAt? x.terminal n = none) (e : Env)
    (ans : Answer) : (y.act.report e x ans).yard.stack = y.stack
      ∧ (ans.isReport = true → holdsFlag (y.act.report e x ans).yard.events .staleDone = true) := by
  have stale : ∀ (n : Nat) (f : Move → Act), (y.act.onMove x.terminal n f).yard.stack = y.stack
      ∧ holdsFlag (y.act.onMove x.terminal n f).yard.events .staleDone = true := fun n f => by
    rw [onMove_stale (holdsNone n) f]
    exact ⟨rfl, holdsFlag_raiseIn_same _ _⟩
  cases ans with
  | idle => exact ⟨rfl, nofun⟩
  | text chars =>
    refine ⟨?_, nofun⟩
    show (y.takeText x.terminal e.clock chars).stack = y.stack
    unfold Yard.takeText
    split <;> rfl
  | accept | lifted | done | fault | withdrawn | tooLate => exact ⟨(stale _ _).1, fun _ => (stale _ _).2⟩

/-- What follows an act leaves each terminal but for its moves. -/
theorem unladen_finish (e : Env) (a : Act) (t : Nat) :
    ((a.finish e).terminal t).unladen = (a.yard.terminal t).unladen :=
  congrArg (fun k : Terminal => { k with notices := [] }) (Yard.terminal_of_still (a.still_finish e) t)

end Act

end Sys2Proof.Machine
end

section
/-! SUPPORT. ENROLL LOADER, its CLEAR ALL exchange (R126) and RETIRE LOADER (R127), for O36. -/

namespace Sys2Proof.Machine

/-! ### ENROLL LOADER (R126) -/

theorem SilenceAction.ofCode?_code (a : SilenceAction) : SilenceAction.ofCode? a.code = some a := by
  cases a <;> rfl

/-- R126: ENROLL LOADER with operands in range, by the state of its terminal. -/
theorem Part.enrollLoader_eq (p : Part) {t c : Nat} (range : t ≤ 7) (lo : 1 ≤ c) (hi : c ≤ 4)
    (a : SilenceAction) : p.enrollLoader t c a.code
      = if (p.yard.terminal t).enrolling then p.refuse .busy
        else if (p.yard.terminal t).state ≠ .off then p.refuse .wrongState
        else ({ p with yard := p.yard.enroll t c a }, .awaitEnroll t) := by
  have credit : t ≤ 7 ∧ within 1 4 c = true := ⟨range, by simp [within, lo, hi]⟩
  unfold Part.enrollLoader
  simp only [SilenceAction.ofCode?_code, credit, not_true_eq_false, and_self, if_false]

/-- R126: the terminal takes its credit and action and is enrolling. -/
theorem Yard.terminal_enroll (y : Yard) {t : Nat} (range : t ≤ 7) (c : Nat) (a : SilenceAction) :
    (y.enroll t c a).terminal t = { y.terminal t with credit := c, silence := a, enrolling := true } :=
  Yard.terminal_modifyTerminal_same _ _ range

theorem Yard.terminal_enroll_other (y : Yard) {t u : Nat} (other : u ≠ t) (c : Nat) (a : SilenceAction) :
    (y.enroll t c a).terminal u = y.terminal u :=
  Yard.terminal_modifyTerminal_other _ _ other.symm

/-! ### The CLEAR ALL exchange (R126) -/

theorem Part.clearAllBegins_eq {p : Part} {t : Nat} {rest : List Nat} (free : p.yard.loader.exchange = none)
    (pending : p.yard.loader.clearAlls = t :: rest) : p.clearAllBegins
      = { p with yard := p.yard.onLink fun l => { l.begin (p.clearExchange t) with clearAlls := rest } } := by
  unfold Part.clearAllBegins
  rw [free, pending]

/-- R126: an answered CLEAR ALL readies its reply with the state ACTIVE. -/
theorem Part.enrollEnds_active {p : Part} {x : Exchange} (purpose : x.purpose = .clearAll)
    (active : (p.yard.terminal x.terminal).state = .active) :
    p.enrollEnds x = { p with host := p.host.waitOver (.enroll x.terminal) [1#8] } := by
  unfold Part.enrollEnds
  rw [purpose, active]
  rfl

/-- R126, R127, R132: what any answer to a CLEAR ALL, and all that follows it, makes of its terminal. -/
theorem Yard.clearAllAnswered (y : Yard) (e : Env) {x : Exchange} (range : x.terminal ≤ 7)
    (purpose : x.purpose = .clearAll) (ans : Answer) :
    let z := ((y.exchangeDone e.clock x).act.report e x ans).finish e
    (z.terminal x.terminal).state = .active ∧ (z.terminal x.terminal).enrolling = false
      ∧ (z.terminal x.terminal).lastHeard = some e.clock ∧ z.loader.exchange = none
      ∧ ((∀ n, y.moveAt? x.terminal n = none) → z.stack = y.stack
        ∧ (ans.isReport = true → holdsFlag z.events .staleDone = true)) := by
  intro z
  have still : z.still = _ := Act.still_finish e _
  have report := Act.recalled_report e (y.exchangeDone e.clock x).act x ans
  obtain ⟨exchange, -, -⟩ := y.exchangeDone_link e.clock x
  obtain ⟨notices, met⟩ := y.terminal_exchangeDone e.clock range
  have own : (z.terminal x.terminal).unladen = ((y.exchangeDone e.clock x).terminal x.terminal).unladen :=
    (Act.unladen_finish e _ x.terminal).trans (report.terminals x.terminal)
  rw [met, purpose] at own
  refine ⟨(congrArg Terminal.state own :), (congrArg Terminal.enrolling own :),
    (congrArg Terminal.lastHeard own :),
    (Yard.exchange_of_still still).trans (report.exchange.trans exchange), fun holdsNone => ?_⟩
  obtain ⟨stack, stale⟩ := Act.report_unheld (Yard.moveAt?_exchangeDone holdsNone e.clock) e ans
  exact ⟨(Yard.stack_of_still still).trans (stack.trans (y.exchangeDone_reads e.clock x).1),
    fun isReport => (Yard.holdsFlag_of_still still rfl).trans (stale isReport)⟩

/-- R126: the row of any well-formed answer to a CLEAR ALL. -/
theorem State.exec_clearAllAnswered {s : State} {t : Nat} {x : Exchange} (running : s.part.running = true)
    (range : t ≤ 7) (flying : s.part.yard.loader.exchange = some x) (own : x.terminal = t)
    (purpose : x.purpose = .clearAll) {a : Answer} (formed : a.wf = true) :
    exec (answerRow (.clear t) a) s = .next (s.withPart { s.part with
      yard := ((s.heard x).act.report s.part.env x a).finish s.part.env
      host := s.part.host.waitOver (.enroll t) [1#8] }) := by
  rw [State.exec_answer running range flying own formed]
  obtain rfl := own
  rw [Part.enrollEnds_active purpose (s.part.yard.clearAllAnswered s.part.env range purpose a).1]

/-! ### RETIRE LOADER (R127) -/

theorem Part.retireLoader_eq (p : Part) {t : Nat} (range : t ≤ 7) : p.retireLoader t
    = if (p.yard.terminal t).enrolling then p.refuse .busy
      else if (p.yard.terminal t).state = .off then (p, .ok [])
      else (p.doAct fun e a => a.retire e t, .ok []) :=
  if_neg (Nat.not_lt.mpr range)

theorem LoaderLink.terminals_cutExchange (l : LoaderLink) (t : Nat) :
    (l.cutExchange t).terminals = l.terminals := by
  unfold LoaderLink.cutExchange
  split
  · split <;> rfl
  · rfl

/-- R127: a retired terminal is OFF with no notices and no probe time. -/
theorem Act.terminal_retire (e : Env) (a : Act) {t : Nat} (range : t ≤ 7) :
    (a.retire e t).yard.terminal t = { (a.recallAll e t).yard.terminal t with
      notices := [], state := .off, nextProbe := none } :=
  (Yard.terminal_onLink _ (fun l => l.terminals_cutExchange t) t).trans
    (Yard.terminal_modifyTerminal_same _ _ range)

/-- Settles O36: what follows an act leaves a terminal but for its moves (`Act.unladen_finish`), and one that is
OFF altogether (`Act.terminal_finish`). -/
theorem enrollAndRetire : Obligations.EnrollAndRetire := by
  refine ⟨fun h t c a s taken range lo hi => ?_, fun s t rest running free pending => ?_,
    fun s t x running range flying own purpose => ?_, fun s t x a running range flying own purpose formed => ?_,
    fun h t s taken range => ?_⟩
  · have performed := s.part.enrollLoader_eq range lo hi a
    refine ⟨fun enrolling => ?_, fun ready up => ?_, fun ready off => ?_⟩
    · rw [if_pos enrolling] at performed
      exact State.request_replied taken h (r := .enrollLoader t c a.code) performed
    · rw [if_neg (by simp [ready]), if_pos up] at performed
      exact State.request_replied taken h (r := .enrollLoader t c a.code) performed
    · rw [if_neg (by simp [ready]), if_neg (not_not.mpr off)] at performed
      refine ⟨s.part.yard.enroll t c a, ?_, rfl, s.part.yard.terminal_enroll range c a,
        fun u other => s.part.yard.terminal_enroll_other other c a⟩
      refine (State.request_taken taken h (.enrollLoader t c a.code)).trans ?_
      rw [show s.part.perform (.enrollLoader t c a.code) = _ from performed]
      rfl
  · refine (State.whileRunning_eq running _).trans ?_
    rw [Part.clearAllBegins_eq free pending]
    rfl
  · have row := State.exec_clearAllAnswered running range flying own purpose (a := .idle) rfl
    obtain rfl := own
    obtain ⟨active, enrolled, heard, exchange, -⟩ :=
      s.part.yard.clearAllAnswered s.part.env range purpose .idle
    exact ⟨_, row, active, enrolled, heard, exchange,
      (Yard.stack_of_still (Act.still_finish _ _)).trans (s.part.yard.exchangeDone_reads _ x).1⟩
  · have row := State.exec_clearAllAnswered running range flying own purpose formed
    obtain rfl := own
    exact ⟨_, row, s.part.yard.clearAllAnswered s.part.env range purpose a⟩
  · have performed := s.part.retireLoader_eq range
    refine ⟨fun enrolling => ?_, fun ready off => ?_, fun ready up => ?_⟩
    · rw [if_pos enrolling] at performed
      exact State.request_replied taken h (r := .retireLoader t) performed
    · rw [if_neg (by simp [ready]), if_pos off] at performed
      exact State.request_replied taken h (r := .retireLoader t) performed
    · rw [if_neg (by simp [ready]), if_neg up] at performed
      have retired := Act.terminal_retire s.part.env s.part.yard.act range
      have after := Act.terminal_finish s.part.env (s.part.yard.act.retire s.part.env t) (t := t)
        (by rw [retired]; nofun)
      refine ⟨_, State.request_replied taken h (r := .retireLoader t) performed, rfl, ?_⟩
      rw [after, retired]
      exact ⟨rfl, rfl, rfl⟩

end Sys2Proof.Machine
end

section
/-! SUPPORT. WEIGH IN, WEIGH OUT and ABORT WEIGHING (R146, R148), for O37. -/

namespace Sys2Proof.Machine

/-! ### The states that a weighing can be armed for (R146) -/

theorem Direction.arms_weighIn (st : TruckState) :
    Direction.weighIn.arms st = true ↔ st = .announced ∨ st = .queued := by
  cases st <;> decide

theorem Direction.arms_weighOut (st : TruckState) : Direction.weighOut.arms st = true ↔ st = .loaded := by
  cases st <;> decide

/-! ### The checks in their order (R146) -/

namespace Part

/-- R146: the arming record of a weighing that is armed now. -/
def newArming (p : Part) (n : Nat) (d : Direction) : Arming where
  truck := n
  direction := d
  deadline := deadlineAt p.clock p.settings.weighing.timeout
  deck1 := none
  deck2 := none

variable {p : Part} {n : Nat} {st : TruckState} (d : Direction)

theorem arm_zero : p.arm 0 d = p.refuse .badValue := rfl

theorem arm_notFound (inRange : truckInRange n = true) (none : p.yard.truckState? n = none) :
    p.arm n d = p.refuse .notFound := by
  rw [Part.arm, inRange, none]
  rfl

/-- R146: a truck with a record: BUSY is tested before its state. -/
theorem arm_there (inRange : truckInRange n = true) (there : p.yard.truckState? n = some st) :
    p.arm n d = if p.weigh.arming.isSome then p.refuse .busy
      else if d.arms st then
        ({ p with weigh := { p.weigh with arming := some (p.newArming n d) } },
          .ok (timeBytes (p.newArming n d).deadline))
      else p.refuse .wrongState := by
  rw [Part.arm, inRange, there]
  cases h : d.arms st <;> simp only [h] <;> rfl

theorem arm_busy (inRange : truckInRange n = true) (there : p.yard.truckState? n = some st)
    (armed : p.weigh.arming ≠ none) : p.arm n d = p.refuse .busy := by
  rw [arm_there d inRange there, if_pos (Option.isSome_iff_ne_none.mpr armed)]

theorem arm_wrongState (inRange : truckInRange n = true) (there : p.yard.truckState? n = some st)
    (free : p.weigh.arming = none) (other : ¬ d.arms st = true) : p.arm n d = p.refuse .wrongState := by
  rw [arm_there d inRange there, if_neg (by simp [free]), if_neg other]

/-- R146: the arming record is made present, and the reply carries its deadline. -/
theorem arm_armed (inRange : truckInRange n = true) (there : p.yard.truckState? n = some st)
    (free : p.weigh.arming = none) (arms : d.arms st = true) :
    p.arm n d = ({ p with weigh := { p.weigh with arming := some (p.newArming n d) } },
      .ok (timeBytes (p.newArming n d).deadline)) := by
  rw [arm_there d inRange there, if_neg (by simp [free]), if_pos arms]

end Part

/-- Settles O37: each direction by the checks in their order (`Part.arm_zero` to `Part.arm_armed`). -/
theorem armAndAbort : Obligations.ArmAndAbort := by
  have ins : ∀ (h : Header) (n : Nat) {s : State}, s.takesNow → ∀ {p : Part} {r : Result} {body : List Byte},
      s.part.arm n .weighIn = (p, .reply r body) →
      exec (.weighIn h n) s = .next (s.replied h 0x28#8 r body p) :=
    fun h n _ taken => State.request_replied taken h (r := .weighIn n)
  have outs : ∀ (h : Header) (n : Nat) {s : State}, s.takesNow → ∀ {p : Part} {r : Result} {body : List Byte},
      s.part.arm n .weighOut = (p, .reply r body) →
      exec (.weighOut h n) s = .next (s.replied h 0x29#8 r body p) :=
    fun h n _ taken => State.request_replied taken h (r := .weighOut n)
  refine ⟨fun h s taken => ⟨ins h 0 taken (Part.arm_zero _), outs h 0 taken (Part.arm_zero _)⟩,
    fun h n s taken lo hi => ?_, fun h s taken => ?_⟩
  · have inRange := truckInRange_of lo hi
    refine ⟨fun none => ⟨ins h n taken (Part.arm_notFound _ inRange none),
        outs h n taken (Part.arm_notFound _ inRange none)⟩,
      fun st there => ⟨fun armed => ⟨ins h n taken (Part.arm_busy _ inRange there armed),
        outs h n taken (Part.arm_busy _ inRange there armed)⟩, fun free => ⟨fun arms => ?_, fun fresh waiting => ?_,
        fun arms => ?_, fun other => ?_⟩⟩⟩
    · exact ins h n taken (Part.arm_armed _ inRange there free ((Direction.arms_weighIn st).mpr arms))
    · refine ins h n taken (Part.arm_wrongState _ inRange there free fun arms => ?_)
      exact ((Direction.arms_weighIn st).mp arms).elim fresh waiting
    · exact outs h n taken (Part.arm_armed _ inRange there free ((Direction.arms_weighOut st).mpr arms))
    · exact outs h n taken (Part.arm_wrongState _ inRange there free
        (mt (Direction.arms_weighOut st).mp other))
  · have aborts : ∀ {p : Part} {r : Result} {body : List Byte}, s.part.abortWeighing = (p, .reply r body) →
        exec (.abortWeighing h) s = .next (s.replied h 0x2A#8 r body p) :=
      State.request_replied taken h (r := .abortWeighing)
    refine ⟨fun free => aborts ?_, fun a armed => aborts ?_⟩
    · rw [Part.abortWeighing, free]; rfl
    · rw [Part.abortWeighing, armed]; rfl

end Sys2Proof.Machine
end

section
/-! SUPPORT. The weighbridge line (R143, R144): the receiver by state and character, and a reading handed to the
armed weighing (R147), for O46. -/

namespace Sys2Proof.Machine

/-! ### The receiver by state and character (R143) -/

namespace Part

variable {p : Part} {c : LineChar} {chars : List Nat}

theorem lineChar_begins (hunting : p.weigh.receiver = .hunting)
    (good : charGood p.settings.weighing.parity c = true) (digit : c.data = 49 ∨ c.data = 50) :
    p.lineChar c = { p with weigh := { p.weigh with receiver := .collecting [c.data] } } := by
  simp only [lineChar, hunting]
  exact if_pos ⟨good, digit⟩

theorem lineChar_ignored (hunting : p.weigh.receiver = .hunting)
    (none : charGood p.settings.weighing.parity c = false ∨ (c.data ≠ 49 ∧ c.data ≠ 50)) :
    p.lineChar c = p := by
  simp only [lineChar, hunting]
  refine if_neg fun ⟨good, digit⟩ => ?_
  rcases none with bad | ⟨notOne, notTwo⟩
  · exact Bool.false_ne_true (bad.symm.trans good)
  · exact digit.elim notOne notTwo

theorem lineChar_error (collecting : p.weigh.receiver = .collecting chars)
    (bad : charGood p.settings.weighing.parity c = false) : p.lineChar c = p.discard := by
  simp only [lineChar, collecting]
  exact if_pos (by simp [bad])

theorem lineChar_ends (collecting : p.weigh.receiver = .collecting chars)
    (good : charGood p.settings.weighing.parity c = true) (last : c.data = p.settings.weighing.endChar) :
    p.lineChar c = p.recordEnds chars := by
  simp only [lineChar, collecting]
  rw [if_neg (by simp [good]), if_pos last]

/-- R143: the sixteenth character that is not the end character ends the record. -/
theorem lineChar_middle (collecting : p.weigh.receiver = .collecting chars)
    (good : charGood p.settings.weighing.parity c = true) (other : c.data ≠ p.settings.weighing.endChar) :
    p.lineChar c = if 15 ≤ chars.length then p.discard
      else { p with weigh := { p.weigh with receiver := .collecting (chars ++ [c.data]) } } := by
  simp only [lineChar, collecting]
  rw [if_neg (by simp [good]), if_neg other]
  simp only [Nat.reduceLeDiff]

end Part

/-! ### A record that has ended (R144) -/

/-- R144: the last reading of a deck, as it is written. -/
theorem WeighUnit.putLast_eq (w : WeighUnit) (deck : Nat) (r : Reading) : w.putLast deck r
    = { w with last1 := if deck = 1 then some r else w.last1
               last2 := if deck = 1 then w.last2 else some r } := by
  unfold WeighUnit.putLast
  split <;> rfl

namespace Part

variable {p : Part} {chars : List Nat} {deck : Nat} {raw : Int} {stable : Bool}

/-- R144: the value of a raw reading of a deck. -/
def deckReads (p : Part) (deck : Nat) (raw : Int) : Nat :=
  deckValue raw (if deck = 1 then p.settings.weighing.offset1 else p.settings.weighing.offset2)

/-- R143, R144: the part once a well-formed record has ended: the receiver hunts, and the last reading of its
deck is written. -/
def afterRecord (p : Part) (deck : Nat) (raw : Int) (stable : Bool) : Part :=
  let last : Reading := { raw := raw, value := p.deckReads deck raw, stable := stable, time := p.clock }
  { p with weigh := { p.weigh with
    receiver := .hunting
    last1 := if deck = 1 then some last else p.weigh.last1
    last2 := if deck = 1 then p.weigh.last2 else some last } }

theorem recordEnds_illFormed (illFormed : parseRecord chars = none) : p.recordEnds chars = p.discard := by
  rw [recordEnds, illFormed]

theorem recordEnds_wellFormed (formed : parseRecord chars = some (deck, raw, stable)) :
    p.recordEnds chars = if stable then (p.afterRecord deck raw stable).handReading deck (p.deckReads deck raw)
      else p.afterRecord deck raw stable := by
  simp only [recordEnds, formed, WeighUnit.putLast_eq]
  rfl

/-! ### A reading handed to the armed weighing (R147) -/

variable {value : Nat} {a : Arming}

theorem handReading_unarmed (free : p.weigh.arming = none) : p.handReading deck value = p := by
  rw [handReading, free]

/-- R147: with one deck still without a reading, the weighing waits. -/
theorem handReading_waits (armed : p.weigh.arming = some a)
    (half : (a.put deck value).deck1 = none ∨ (a.put deck value).deck2 = none) :
    p.handReading deck value = { p with weigh := { p.weigh with arming := some (a.put deck value) } } := by
  simp only [handReading, armed]
  split
  · next has1 has2 =>
    rw [has1, has2] at half
    rcases half with h | h <;> cases h
  · rfl

/-- R147: with both readings the weighing completes. -/
theorem handReading_completes {front rear : Nat} (armed : p.weigh.arming = some a)
    (has1 : (a.put deck value).deck1 = some front) (has2 : (a.put deck value).deck2 = some rear) :
    p.handReading deck value = p.weighed (a.put deck value) front rear := by
  simp only [handReading, armed, has1, has2]

end Part

/-! ### The rows (R143, R144) -/

section

variable {s : State} (running : s.part.running = true)

include running

theorem State.exec_weighRecordBegin (c : LineChar) :
    exec (.weighRecordBegin c) s = .next (s.withPart (s.part.lineChar c)) :=
  State.whileRunning_eq running _

theorem State.exec_weighDiscard (c : LineChar) :
    exec (.weighDiscard [c]) s = .next (s.withPart (s.part.lineChar c)) :=
  State.whileRunning_eq running _

theorem State.exec_weighRecord (c : LineChar) :
    exec (.weighRecord [c]) s = .next (s.withPart (s.part.lineChar c)) :=
  State.whileRunning_eq running _

end

/-- Settles O46: the receiver by its state and the character, and the reading by the record and the armed
weighing. -/
theorem weighLineRows : Obligations.WeighLineRows := by
  intro s running
  refine ⟨fun hunting c => ⟨fun good digit => ?_, fun none => ?_⟩, fun chars collecting c =>
    ⟨fun bad => ?_, fun good other => ⟨fun full => ?_, fun room => ?_⟩, fun good last =>
      ⟨fun illFormed => ?_, fun deck raw stable formed => ?_⟩⟩⟩
  · rw [State.exec_weighRecordBegin running, Part.lineChar_begins hunting good digit]
  · rw [State.exec_weighRecordBegin running, Part.lineChar_ignored hunting none]
    rfl
  · rw [State.exec_weighDiscard running, Part.lineChar_error collecting bad]
    rfl
  · rw [State.exec_weighDiscard running, Part.lineChar_middle collecting good other, if_pos full]
    rfl
  · rw [State.exec_weighRecordBegin running, Part.lineChar_middle collecting good other,
      if_neg (Nat.not_le.mpr room)]
  · rw [State.exec_weighDiscard running, Part.lineChar_ends collecting good last,
      Part.recordEnds_illFormed illFormed]
    rfl
  · have row := State.exec_weighRecord running c
    rw [Part.lineChar_ends collecting good last, Part.recordEnds_wellFormed formed] at row
    refine ⟨fun unheard => row.trans ?_, fun a isStable armed => ?_⟩
    · rcases unheard with rfl | free
      · rfl
      · split
        · rw [Part.handReading_unarmed (p := s.part.afterRecord deck raw stable) free]
          rfl
        · rfl
    · rw [if_pos isStable] at row
      have waits := Part.handReading_waits (p := s.part.afterRecord deck raw stable) (deck := deck)
        (value := s.part.deckReads deck raw) armed
      refine ⟨fun one without => row.trans ?_, fun two without => row.trans ?_⟩
      · subst one
        rw [waits (.inr without)]
        rfl
      · subst two
        rw [waits (.inl without)]
        rfl

end Sys2Proof.Machine
end

section
/-! SUPPORT. The completion of a weighing (R147): the tares at the gate (R149), the judgement at weigh-out with
its trims (R150 to R152), and what it leaves of the other trucks, the packs and the stacks, for O47. -/

namespace Sys2Proof.Machine

/-! ### A yard that differs in one truck -/

/-- One yard differs from another in the record of one truck alone, and in what jobs, lanes and flags record. -/
structure Yard.AlikeBut (m : Nat) (y z : Yard) : Prop where
  stack : z.stack = y.stack
  packs : ∀ tag : Nat, (z.pack? tag).map Pack.still = (y.pack? tag).map Pack.still
  wf : y.trucks.wf = true → z.trucks.wf = true
  trucks : y.trucks.wf = true → ∀ n : Nat, n ≠ m → z.truck? n = y.truck? n

/-- A changed truck leaves every other number as it was, where the table is in canonical form. -/
theorem Yard.truck?_modifyTruck_other {y : Yard} (hw : y.trucks.wf = true) {n m : Nat} (h : n ≠ m)
    {f : Truck → Truck} (number : ∀ t, (f t).number = t.number) : (y.modifyTruck m f).truck? n = y.truck? n := by
  unfold Yard.modifyTruck
  split
  · next i t found =>
    have listed := List.mem_of_find?_eq_some found
    have owns : t.number = m := of_decide_eq_true (List.find?_some
      (p := fun en : Nat × Truck => decide (en.2.number = m)) found)
    have kept : ∀ en : Nat × Truck, (if en.1 = i then f en.2 else en.2).number = en.2.number :=
      fun en => by split <;> simp [number]
    simp only [Yard.truck?, Yard.truckNo?, Table.first?, Table.modify, Table.mapVal, List.find?_map,
      Option.map_map, Function.comp_def, kept]
    cases hen : y.trucks.entries.find? fun en => decide (en.2.number = n) with
    | none => rfl
    | some en =>
      have named : en.2.number = n := of_decide_eq_true (List.find?_some
        (p := fun en : Nat × Truck => decide (en.2.number = n)) hen)
      refine congrArg some (if_neg fun key => h ?_)
      obtain rfl := Table.entry_unique hw (List.mem_of_find?_eq_some hen) listed key
      exact named.symm.trans owns
  · rfl

/-- R70: a truck whose lane is released holds none. -/
theorem Yard.truck?_releaseLane_same (y : Yard) (n : Nat) :
    (y.releaseLane n).truck? n = (y.truck? n).map fun t => { t with lane := none } := by
  unfold Yard.releaseLane
  split
  · exact y.truck?_modifyTruck_same n (f := fun t => { t with lane := none }) fun _ => rfl
  · next without =>
    cases ht : y.truck? n with
    | none => rfl
    | some t =>
      have free : t.lane = none := by rwa [ht] at without
      exact congrArg some (free ▸ rfl)

theorem Act.createJob_trucks (a : Act) (w : JobWork) (tag : Nat) :
    (a.createJob w tag).yard.trucks = a.yard.trucks := by
  rw [Act.createJob, Act.touchBayOf_yard, Act.newJob_trucks]

namespace Yard.AlikeBut

variable {m : Nat} {y z w : Yard}

theorem refl (y : Yard) : y.AlikeBut m y := ⟨rfl, fun _ => rfl, id, fun _ _ _ => rfl⟩

theorem trans (h : y.AlikeBut m z) (k : z.AlikeBut m w) : y.AlikeBut m w where
  stack := k.stack.trans h.stack
  packs tag := (k.packs tag).trans (h.packs tag)
  wf hw := k.wf (h.wf hw)
  trucks hw n hn := (k.trucks (h.wf hw) n hn).trans (h.trucks hw n hn)

theorem modifyTruck (y : Yard) (m : Nat) {f : Truck → Truck} (number : ∀ t, (f t).number = t.number) :
    y.AlikeBut m (y.modifyTruck m f) where
  stack := y.modifyTruck_stack m f
  packs tag := by rw [Yard.pack?, y.modifyTruck_packs m f, Yard.pack?]
  wf hw := by
    unfold Yard.modifyTruck
    split
    · exact Table.wf_modify _ _ _ hw
    · exact hw
  trucks hw _ hn := truck?_modifyTruck_other hw hn number

theorem releaseLane (y : Yard) (m : Nat) : y.AlikeBut m (y.releaseLane m) := by
  unfold Yard.releaseLane
  split
  · have dropped := modifyTruck y m (f := fun t => { t with lane := none }) fun _ => rfl
    exact ⟨dropped.stack, dropped.packs, dropped.wf, dropped.trucks⟩
  · exact refl y

theorem raise (y : Yard) (e : Event) : y.AlikeBut m (y.raise e) := ⟨rfl, fun _ => rfl, id, fun _ _ _ => rfl⟩

theorem createJob (a : Act) (w : JobWork) (tag : Nat) : a.yard.AlikeBut m (a.createJob w tag).yard where
  stack := Yard.stack_of_still (a.still_createJob w tag)
  packs := Yard.pack?_of_still (a.still_createJob w tag)
  wf hw := by rwa [a.createJob_trucks w tag]
  trucks _ n _ := Yard.truck?_of_trucks (a.createJob_trucks w tag) n

end Yard.AlikeBut

/-! ### The tares at the gate (R149) -/

namespace Act

variable {a : Act} {n : Nat} {front rear : Nat}

theorem weighedIn_gate (waits : a.yard.truckState? n = some .announced ∨ a.yard.truckState? n = some .queued) :
    (a.weighedIn n front rear).yard = (a.yard.modifyTruck n fun t =>
      { t with tare := some { front := front, rear := rear }, state := .queued }).raise .weighDone := by
  rcases waits with h | h <;> (rw [weighedIn, h]; rfl)

theorem weighedIn_fails (fresh : a.yard.truckState? n ≠ some .announced)
    (waiting : a.yard.truckState? n ≠ some .queued) :
    (a.weighedIn n front rear).yard = a.yard.raise .weighFail := by
  unfold weighedIn
  split
  · next st hst =>
    rw [hst] at fresh waiting
    rw [if_neg (by rintro (rfl | rfl) <;> contradiction)]
    rfl
  · rfl

end Act

/-! ### The judgement at weigh-out (R150, R152) -/

/-- R150: a truck with the measurements of a weigh-out. -/
def Truck.measuredAt (t : Truck) (front rear : Nat) : Truck :=
  { t with measured := some { front := front, rear := rear }, weighedOut := true }

/-- R150 step 3: a test fails where a measurement is above the truck's own limit. -/
theorem Truck.overload_measuredAt (t : Truck) (front rear : Nat) :
    (t.measuredAt front rear).overload.any = true
      ↔ t.frontLimit < front ∨ t.rearLimit < rear ∨ t.grossLimit < front + rear := by
  show (decide (t.frontLimit < front) || decide (t.rearLimit < rear) || decide (t.grossLimit < front + rear))
    = true ↔ _
  simp only [Bool.or_eq_true, decide_eq_true_eq, or_assoc]

/-- R152: the candidates are read from the truck and from pack records. -/
theorem Yard.offloadCandidates_of_packs {y z : Yard} (h : z.packs = y.packs) (t : Truck) (i : Nat)
    (slots : List Slot) : z.offloadCandidates t i slots = y.offloadCandidates t i slots := by
  induction slots generalizing i with
  | nil => rfl
  | cons sl rest ih => simp only [Yard.offloadCandidates, Yard.pack?, h, ih]

theorem Yard.chooseOffload_of_packs {y z : Yard} (h : z.packs = y.packs) (t : Truck) :
    z.chooseOffload t = y.chooseOffload t := by
  rw [Yard.chooseOffload, Yard.offloadCandidates_of_packs h, Yard.chooseOffload]

namespace Act

theorem judgedOver_alike (a : Act) (t : Truck) : a.yard.AlikeBut t.number (a.judgedOver t).yard := by
  unfold judgedOver
  simp only
  split
  · next r tag _ =>
    refine ((Yard.AlikeBut.modifyTruck a.yard t.number (f := fun t => { t with state := .over })
      fun _ => rfl).trans ?_).trans (.raise _ .truckOver)
    exact .createJob (a.on fun y => y.modifyTruck t.number fun t => { t with state := .over }) _ tag
  · exact .raise _ .truckOver

theorem judgedClear_alike (a : Act) (t : Truck) : a.yard.AlikeBut t.number (a.judgedClear t).yard :=
  ((Yard.AlikeBut.releaseLane a.yard t.number).trans
    (.modifyTruck _ t.number (f := fun t => { t with state := .cleared }) fun _ => rfl)).trans
    (.raise _ .truckCleared)

/-- R152: with a pack that can come off the truck becomes OVER; without one its record stays. -/
theorem judgedOver_truck (a : Act) (t : Truck) : (a.judgedOver t).yard.truck? t.number
    = if (a.yard.chooseOffload t).isSome then
        (a.yard.truck? t.number).map fun u => { u with state := .over }
      else a.yard.truck? t.number := by
  unfold judgedOver
  simp only
  split
  · next r tag chosen =>
    rw [chosen, Option.isSome_some, if_pos rfl]
    refine (Yard.truck?_of_trucks (createJob_trucks _ _ tag) t.number).trans ?_
    exact a.yard.truck?_modifyTruck_same t.number (f := fun t => { t with state := .over }) fun _ => rfl
  · next none =>
    rw [none]
    rfl

theorem judgedOver_flag (a : Act) (t : Truck) : holdsFlag (a.judgedOver t).yard.events .truckOver = true :=
  holdsFlag_raiseIn_same _ .truckOver

/-- R150 step 4: the truck is CLEARED and holds no lane. -/
theorem judgedClear_truck (a : Act) (t : Truck) : (a.judgedClear t).yard.truck? t.number
    = (a.yard.truck? t.number).map fun u => { u with lane := none, state := .cleared } := by
  refine ((a.yard.releaseLane t.number).truck?_modifyTruck_same t.number
    (f := fun t => { t with state := .cleared }) fun _ => rfl).trans ?_
  rw [Yard.truck?_releaseLane_same, Option.map_map]
  rfl

theorem judgedClear_flag (a : Act) (t : Truck) :
    holdsFlag (a.judgedClear t).yard.events .truckCleared = true :=
  holdsFlag_raiseIn_same _ .truckCleared

/-! ### A completed weigh-out (R150) -/

/-- R150 step 1: the measurements are stored. -/
def measured (a : Act) (n front rear : Nat) : Act :=
  a.on fun y => y.modifyTruck n fun t => t.measuredAt front rear

theorem measured_packs (a : Act) (n front rear : Nat) : (a.measured n front rear).yard.packs = a.yard.packs :=
  a.yard.modifyTruck_packs n _

section

variable {a : Act} {n : Nat} {t : Truck} (there : a.yard.truck? n = some t) (front rear : Nat)

include there

theorem measured_truck : (a.measured n front rear).yard.truck? n = some (t.measuredAt front rear) := by
  refine (a.yard.truck?_modifyTruck_same n (f := fun t => t.measuredAt front rear) fun _ => rfl).trans ?_
  rw [there]
  rfl

theorem weighedOut_eq : a.weighedOut n front rear
    = (if (t.measuredAt front rear).overload.any then
        (a.measured n front rear).judgedOver (t.measuredAt front rear)
      else (a.measured n front rear).judgedClear (t.measuredAt front rear)).on
        fun y => y.raise .weighDone := by
  have read := measured_truck there front rear
  unfold weighedOut
  simp only
  split
  · next none => exact absurd (none.symm.trans read) nofun
  · next u hu =>
    obtain rfl : t.measuredAt front rear = u := Option.some.inj (read.symm.trans hu)
    rfl

/-- R150: stacks, places and the other trucks stay. -/
theorem weighedOut_alike : a.yard.AlikeBut n (a.weighedOut n front rear).yard := by
  have number : t.number = n := (Yard.dock_of_truck? there).2
  have stored : a.yard.AlikeBut n (a.measured n front rear).yard :=
    .modifyTruck a.yard n (f := fun t => t.measuredAt front rear) fun _ => rfl
  rw [weighedOut_eq there]
  refine (stored.trans ?_).trans (.raise _ .weighDone)
  subst number
  split
  · exact judgedOver_alike _ (t.measuredAt front rear)
  · exact judgedClear_alike _ (t.measuredAt front rear)

/-- R150 step 4: within its limits the truck becomes CLEARED, without a lane. -/
theorem weighedOut_clears (within : (t.measuredAt front rear).overload.any = false) :
    (a.weighedOut n front rear).yard.truck? n
        = some { t.measuredAt front rear with lane := none, state := .cleared }
      ∧ holdsFlag (a.weighedOut n front rear).yard.events .truckCleared = true := by
  obtain rfl : t.number = n := (Yard.dock_of_truck? there).2
  rw [weighedOut_eq there, within]
  refine ⟨(judgedClear_truck _ (t.measuredAt front rear)).trans ?_,
    holdsFlag_raiseIn _ (judgedClear_flag _ _)⟩
  rw [show (t.measuredAt front rear).number = t.number from rfl, measured_truck there]
  rfl

/-- R152: above a limit the truck becomes OVER where a pack can come off, and stays as it was otherwise. -/
theorem weighedOut_over (above : (t.measuredAt front rear).overload.any = true) :
    (a.weighedOut n front rear).yard.truck? n
        = some (if (a.yard.chooseOffload (t.measuredAt front rear)).isSome then
            { t.measuredAt front rear with state := .over }
          else t.measuredAt front rear)
      ∧ holdsFlag (a.weighedOut n front rear).yard.events .truckOver = true := by
  obtain rfl : t.number = n := (Yard.dock_of_truck? there).2
  rw [weighedOut_eq there, if_pos above]
  refine ⟨(judgedOver_truck _ (t.measuredAt front rear)).trans ?_,
    holdsFlag_raiseIn _ (judgedOver_flag _ _)⟩
  rw [show (t.measuredAt front rear).number = t.number from rfl, measured_truck there,
    Yard.chooseOffload_of_packs (a.measured_packs t.number front rear)]
  split <;> rfl

theorem weighedOut_done : holdsFlag (a.weighedOut n front rear).yard.events .weighDone = true := by
  rw [weighedOut_eq there]
  exact holdsFlag_raiseIn_same _ .weighDone

/-- R150: the measurements are stored, whatever the judgement. -/
theorem weighedOut_measured : ∃ u, (a.weighedOut n front rear).yard.truck? n = some u ∧ u.weighedOut = true
    ∧ u.measured = some { front := front, rear := rear } := by
  cases judged : (t.measuredAt front rear).overload.any with
  | false => exact ⟨_, (weighedOut_clears there front rear judged).1, rfl, rfl⟩
  | true =>
    refine ⟨_, (weighedOut_over there front rear judged).1, ?_⟩
    split <;> exact ⟨rfl, rfl⟩

end

end Act

/-! ### The weighing completes (R147) -/

@[simp] theorem Arming.put_truck (a : Arming) (deck value : Nat) : (a.put deck value).truck = a.truck := by
  unfold Arming.put; split <;> rfl

@[simp] theorem Arming.put_direction (a : Arming) (deck value : Nat) :
    (a.put deck value).direction = a.direction := by
  unfold Arming.put; split <;> rfl

namespace Part

variable {p : Part} {a : Arming} {front rear : Nat}

theorem weighed_in (gate : a.direction = .weighIn) : p.weighed a front rear
    = { p with weigh := { p.weigh with arming := none }
               yard := (p.yard.act.weighedIn a.truck front rear).finish p.env } := by
  simp only [weighed, gate]
  rfl

/-- R151: the trims change at a truck's first weigh-out alone. -/
theorem learn_eq {t : Truck} {n : Nat} (there : p.yard.truck? n = some t) : p.learn n front rear
    = { p with trims := if t.weighedOut then p.trims else p.trimsAfter t front rear } := by
  simp only [learn, there]
  split <;> rfl

theorem weighed_out {t : Truck} (exit : a.direction = .weighOut) (there : p.yard.truck? a.truck = some t) :
    p.weighed a front rear
      = (let tr := if t.weighedOut then p.trims else p.trimsAfter t front rear
        { p with weigh := { p.weigh with arming := none }
                 trims := tr
                 yard := (p.yard.act.weighedOut a.truck front rear).finish { p.env with trims := tr } }) := by
  simp only [weighed, exit]
  rw [learn_eq (p := { p with weigh := { p.weigh with arming := none } }) there]
  rfl

/-- R147: the record of the second deck completes the armed weighing, with deck 1 as front. -/
theorem recordEnds_completes {chars : List Nat} {deck : Nat} {raw : Int}
    (formed : parseRecord chars = some (deck, raw, true)) (armed : p.weigh.arming = some a)
    (pair : (deck = 1 ∧ front = deckValue raw p.settings.weighing.offset1 ∧ a.deck2 = some rear)
      ∨ (deck = 2 ∧ a.deck1 = some front ∧ rear = deckValue raw p.settings.weighing.offset2)) :
    p.deckReads deck raw = (if deck = 1 then front else rear)
      ∧ p.recordEnds chars
        = (p.afterRecord deck raw true).weighed (a.put deck (p.deckReads deck raw)) front rear := by
  rw [recordEnds_wellFormed formed, if_pos rfl]
  rcases pair with ⟨rfl, rfl, has⟩ | ⟨rfl, has, rfl⟩
  · exact ⟨rfl, handReading_completes (p := p.afterRecord 1 raw true) armed rfl has⟩
  · exact ⟨rfl, handReading_completes (p := p.afterRecord 2 raw true) armed has rfl⟩

end Part

/-- Settles O47: the row is the completion (`Part.recordEnds_completes`), whose acts are the tares
(`Act.weighedIn_gate`) and the judgement (`Act.weighedOut_eq`). -/
theorem weighCompletes : Obligations.WeighCompletes := by
  intro s chars c deck raw a front rear running collecting good ends formed armed pair
  obtain ⟨value, completes⟩ := Part.recordEnds_completes formed armed pair
  have row : exec (.weighRecord [c]) s = .next (s.withPart
      ((s.part.afterRecord deck raw true).weighed (a.put deck (s.part.deckReads deck raw)) front rear)) := by
    rw [State.exec_weighRecord running, Part.lineChar_ends collecting good ends, completes]
  rw [← value]
  refine ⟨fun gate => ⟨?_, Act.still_finish _ _,
      Act.weighedIn_gate (a := s.part.yard.act), Act.weighedIn_fails (a := s.part.yard.act)⟩,
    fun exit t there => ⟨if t.weighedOut then s.part.trims else s.part.trimsAfter t front rear, ?_,
      Act.still_finish _ _, ?_⟩⟩
  · rw [row, Part.weighed_in ((a.put_direction _ _).trans gate), Arming.put_truck]
    rfl
  · rw [row, Part.weighed_out (t := t) ((a.put_direction _ _).trans exit) (by rw [Arming.put_truck]; exact there),
      Arming.put_truck]
    rfl
  · have judged := t.overload_measuredAt front rear
    have there : s.part.yard.act.yard.truck? a.truck = some t := there
    have alike := Act.weighedOut_alike there front rear
    have clears : front ≤ t.frontLimit → rear ≤ t.rearLimit → front + rear ≤ t.grossLimit → _ :=
      fun hf hr hg => Act.weighedOut_clears there front rear
        (Bool.eq_false_of_not_eq_true fun above => by have := judged.mp above; omega)
    refine ⟨alike.stack, alike.packs, alike.trucks, fun again => if_pos again,
      fun first => if_neg (by simp [first]), Act.weighedOut_done there front rear, ?_,
      fun hf hr hg => (clears hf hr hg).2, fun above => ?_⟩
    · obtain ⟨u, read, out, stored⟩ := Act.weighedOut_measured there front rear
      refine ⟨u, read, out, stored, fun hf hr hg => ?_⟩
      obtain rfl := Option.some.inj (read.symm.trans (clears hf hr hg).1)
      exact ⟨rfl, rfl⟩
    · obtain ⟨read, flag⟩ := Act.weighedOut_over there front rear (judged.mpr above)
      refine ⟨flag, fun r tag chosen => ?_⟩
      have chosen : s.part.yard.act.yard.chooseOffload (t.measuredAt front rear) = some (r, tag) := chosen
      rw [chosen, Option.isSome_some, if_pos rfl] at read
      rw [Yard.truckState?, read]
      rfl

end Sys2Proof.Machine
end

section
/-! SUPPORT. No act of the yard clears an event flag (R162): what follows an act, the acts of the requests, the
exchanges of the loader link and the weighings. -/

namespace Sys2Proof.Machine

/-! ### What follows an act -/

theorem Yard.flagsStay_send (y : Yard) (pl : SendPlan) : y.FlagsStay (y.send pl) :=
  .of_eq (by unfold Yard.send; cases pl.dest <;> rfl)

theorem Yard.flagsStay_judgeAll (e : Env) (y : Yard) : y.FlagsStay (y.judgeAll e) :=
  (y.settles_judgeAll (free := true) e).flagsStay

theorem Yard.flagsStay_serveZone (e : Env) (zone fuel : Nat) (y : Yard) :
    y.FlagsStay (Yard.serveZone e zone fuel y) := by
  induction fuel generalizing y with
  | zero => exact .refl y
  | succ fuel ih =>
    unfold Yard.serveZone
    split
    · exact .refl y
    · exact ((y.flagsStay_send _).trans (Yard.flagsStay_judgeAll e _)).trans (ih _)

theorem Yard.flagsStay_serveAll (e : Env) (y : Yard) : y.FlagsStay (y.serveAll e) := by
  have served : ∀ (zones : List Nat) (y : Yard),
      y.FlagsStay (zones.foldl (fun y z => Yard.serveZone e z 33 y) y) := by
    intro zones
    induction zones with
    | nil => exact .refl
    | cons z rest ih => exact fun y => (y.flagsStay_serveZone e z 33).trans (ih _)
  unfold Yard.serveAll
  split
  · exact served _ y
  · exact .refl y

/-- R73, R83, R116: what follows an act clears no flag. -/
theorem Act.flagsStay_finish (e : Env) (a : Act) : a.yard.FlagsStay (a.finish e) :=
  ((a.settles_settled e).trans (Act.settles_grants e 6 _)).flagsStay.trans (Yard.flagsStay_serveAll e _)

/-! ### Refills and releases (R23, R87 to R90) -/

/-- Some tag names no pack record, so no line takes its pack. -/
theorem Yard.exists_unoffered (y : Yard) : ∃ tag, y.unoffered tag := by
  obtain ⟨tag, absent⟩ := Infinite.exists_notMem_finset (y.packs.entries.map Prod.fst).toFinset
  exact ⟨tag, fun _ listed => absurd (List.mem_toFinset.mpr (List.mem_map_of_mem listed)) absent⟩

namespace Act

/-- R23 step 3: the refill of a line, whatever pack was released, is a sequence of the allocator's writes. -/
theorem settles_afterRelease (e : Env) (a : Act) (number line tag : Nat) :
    a.yard.Settles true (a.afterRelease e number line tag).yard := by
  obtain ⟨u, fresh⟩ := a.yard.exists_unoffered
  exact (a.passesOver_afterRelease e number line tag fresh).settles

theorem settles_releaseAssignment (e : Env) (a : Act) (tag : Nat) {settle : Act → Act}
    (settles : ∀ b : Act, b.yard.Settles true (settle b).yard) :
    a.yard.Settles true (a.releaseAssignment e tag settle).yard := by
  cases h : (a.yard.pack? tag).bind Pack.assignment with
  | none =>
    rw [releaseAssignment_none h]
    exact settles a
  | some asg =>
    rw [releaseAssignment_some h]
    exact ((a.settles_unassigned tag).trans (settles _)).trans (settles_afterRelease e _ _ _ _)

/-! ### Packs (R25 to R35) -/

theorem leave_events (a : Act) (tag : Nat) : (a.leave tag).yard.events = a.yard.events := by
  unfold leave
  split <;> rfl

theorem flagsStay_releaseUnlessUnloading (e : Env) (a : Act) (tag : Nat) :
    a.yard.FlagsStay (a.releaseUnlessUnloading e tag).yard := by
  unfold releaseUnlessUnloading
  split
  · exact .refl _
  · split
    · exact .refl _
    · exact (a.settles_releaseAssignment e tag fun b => .refl b.yard).flagsStay

theorem flagsStay_endOffload (a : Act) (n number tag : Nat) :
    a.yard.FlagsStay (a.endOffload n number tag).yard :=
  (a.reported_endOffload n number tag).2

theorem flagsStay_giveUp (e : Env) (a : Act) (tag : Nat) : a.yard.FlagsStay (a.giveUp e tag).yard := by
  unfold giveUp
  split
  · exact a.flagsStay_endOffload _ _ tag
  · exact (a.flagsStay_releaseUnlessUnloading e tag).trans
      (settles_endJobOf (free := true) _ tag).flagsStay

theorem flagsStay_removePack (e : Env) (a : Act) (tag : Nat) :
    a.yard.FlagsStay (a.removePack e tag).yard :=
  Yard.FlagsStay.trans (z := (a.leave tag).yard) (.of_eq (a.leave_events tag)) (flagsStay_giveUp e _ tag)

/-- R33: a pack found on top of a bay: its state is set, and its job waits again or ends. -/
theorem flagsStay_locateInBay (a : Act) (tag b : Nat) :
    a.yard.FlagsStay (a.locateInBay tag b).yard := by
  have found : ∀ st, a.yard.FlagsStay ((a.join b tag).setPackState tag st).yard := fun _ => .of_eq rfl
  unfold locateInBay
  simp only
  split
  · split
    · exact (found _).trans (settles_jobWaits (free := true) _ _).flagsStay
    · exact (found _).trans (settles_endJob (free := true) _ _).flagsStay
    · exact (found _).trans (flagsStay_endOffload _ _ _ _)
  · split
    · exact found _
    · exact found _

theorem flagsStay_setOnBed (a : Act) (number : Nat) (r : BedRef) (tag mass : Nat) :
    a.yard.FlagsStay (a.setOnBed number r tag mass).yard :=
  .of_eq (Yard.modifyTruck_events _ number _)

theorem flagsStay_endLoad (a : Act) (n number : Nat) (target : BedRef) (tag : Nat) :
    a.yard.FlagsStay (a.endLoad n number target tag).yard := by
  unfold endLoad
  simp only
  refine (a.reported_endJob n).2.trans ?_
  split
  · exact (reported_createJob _ _ _).2
  · exact (Yard.settles_testLoaded _ number).flagsStay

theorem flagsStay_locateLoad (e : Env) (a : Act) (tag n number : Nat) (target : BedRef) :
    a.yard.FlagsStay (a.locateLoad e tag n number target).yard :=
  (a.flagsStay_setOnBed number target tag _).trans (flagsStay_endLoad _ _ _ _ _)

theorem flagsStay_locateOffload (a : Act) (tag n number : Nat) (source : BedRef) :
    a.yard.FlagsStay (a.locateOffload tag n number source).yard :=
  (a.flagsStay_setOnBed number source tag _).trans (.of_eq (Yard.modifyTruck_events _ number _))

/-! ### Trucks (R64, R65) -/

theorem flagsStay_cancelEarly (e : Env) (a : Act) (t : Truck) :
    a.yard.FlagsStay (a.cancelEarly e t).yard := by
  have left : a.yard.FlagsStay (a.leftEarly e t).yard :=
    ((a.settles_freedReserved t).flagsStay.trans (.of_eq (Yard.dropTruck_events _ t.number))).trans
      (settles_offers e ((a.freedReserved t).on fun y => y.dropTruck t.number)).flagsStay
  rw [cancelEarly_yard]
  split
  · exact left
  · exact left

theorem flagsStay_withdrawJob (number : Nat) (a : Act) (n : Nat) :
    a.yard.FlagsStay (Act.withdrawJob number a n).yard := by
  unfold withdrawJob
  split
  · exact .refl _
  · split
    · split
      · exact .refl _
      · next k _ =>
        split
        · exact .refl _
        · split
          · exact .of_eq rfl
          · obtain ⟨-, -, -, -, -, -, -, events⟩ := a.yard.dropMove_spec k
            exact (Yard.FlagsStay.of_eq events).trans
              (flagsStay_unsend (a.on fun y => y.dropMove k) n _)
    · exact .refl _

theorem settles_cancelStep1 (e : Env) (a : Act) (t : Truck) :
    a.yard.Settles true (a.cancelStep1 e t).yard := by
  refine Yard.Settles.trans ?_ (settles_offers e _)
  exact ((Yard.Settles.foldl (settles_cancelPack t.number) t.assignedTags a).trans
    (settles_clearDue _)).trans (Yard.settles_judgeAll e _)

theorem flagsStay_cancelLate (e : Env) (a : Act) (t : Truck) :
    a.yard.FlagsStay (a.cancelLate e t).yard := by
  have step1 := (a.yard.settles_state t.number .unloading).trans
    (settles_cancelStep1 e (a.on fun y => y.modifyTruck t.number fun t => { t with state := .unloading }) t)
  exact ((step1.flagsStay.trans (flagsStay_fold (flagsStay_withdrawJob t.number) _ _)).trans
    (settles_offloadAll (free := true) _ t.number).flagsStay).trans
    (Yard.flagsStay_testUnloaded _ t.number)

/-! ### Terminals and weighings (R127, R130, R149) -/

theorem flagsStay_retire (e : Env) (a : Act) (t : Nat) : a.yard.FlagsStay (a.retire e t).yard :=
  (a.recalled_recallAll e t).flags

theorem flagsStay_silenced (e : Env) (a : Act) (t : Nat) : a.yard.FlagsStay (a.silenced e t).yard := by
  have silent : a.yard.FlagsStay (a.on fun y => y.goSilent t e.probeAt).yard :=
    Yard.flagsStay_raise _ .loaderSilent
  unfold silenced
  simp only
  split
  · exact silent
  · exact silent.trans (recalled_recallAll e (a.on fun y => y.goSilent t e.probeAt) t).flags

theorem flagsStay_exchangeFailed (e : Env) (a : Act) (x : Exchange) :
    a.yard.FlagsStay (a.exchangeFailed e x).yard := by
  unfold exchangeFailed
  simp only
  split
  · exact flagsStay_silenced e (a.on fun y => y.onLink fun l => { l with exchange := none }) x.terminal
  · exact .of_eq rfl
  · exact Yard.flagsStay_raise _ .loaderSilent

theorem flagsStay_weighedIn (a : Act) (n front rear : Nat) :
    a.yard.FlagsStay (a.weighedIn n front rear).yard := by
  unfold weighedIn
  split
  · split
    · exact Yard.FlagsStay.trans (.of_eq (a.yard.modifyTruck_events n _)) (Yard.flagsStay_raise _ .weighDone)
    · exact a.yard.flagsStay_raise .weighFail
  · exact a.yard.flagsStay_raise .weighFail

/-- R129, R132: an answer that is taken clears no flag. -/
theorem flagsStay_heard (e : Env) (a : Act) (x : Exchange) (ans : Answer) :
    a.yard.FlagsStay ((a.on fun y => y.exchangeDone e.clock x).report e x ans).yard := by
  refine Yard.FlagsStay.trans ?_ (recalled_report e (a.on fun y => y.exchangeDone e.clock x) x ans).flags
  obtain ⟨-, -, events⟩ := a.yard.exchangeDone_link e.clock x
  intro f set
  rw [on_yard, events]
  split
  · exact holdsFlag_raiseIn _ set
  · exact set

end Act

end Sys2Proof.Machine
end

section
/-! SUPPORT. The outcome of a request (R159): it is refused with the part as it was, or granted, and then no
inbound frame and no event flag is lost, but by READ EVENTS. -/

namespace Sys2Proof.Machine

/-! ### Flags of the part -/

/-- Every event flag set in one part is set in the other (R162). -/
def Part.FlagsStay (p q : Part) : Prop := p.yard.FlagsStay q.yard

namespace Part.FlagsStay

theorem refl (p : Part) : p.FlagsStay p := Yard.FlagsStay.refl _

theorem trans {p q r : Part} (h : p.FlagsStay q) (k : q.FlagsStay r) : p.FlagsStay r :=
  Yard.FlagsStay.trans h k

theorem of_events {p q : Part} (h : q.yard.events = p.yard.events) : p.FlagsStay q :=
  Yard.FlagsStay.of_eq h

theorem raise (p : Part) (e : Event) : p.FlagsStay (p.raise e) := p.yard.flagsStay_raise e

theorem serve (p : Part) : p.FlagsStay p.serve := Yard.flagsStay_serveAll _ _

theorem judgeAndServe (p : Part) : p.FlagsStay p.judgeAndServe :=
  (p.yard.flagsStay_judgeAll _).trans (Yard.flagsStay_serveAll _ _)

/-- An act of the yard, with what follows it. -/
theorem doAct {p : Part} (f : Env → Act → Act) (h : p.yard.FlagsStay (f p.env p.yard.act).yard) :
    p.FlagsStay (p.doAct f) :=
  h.trans (Act.flagsStay_finish p.env _)

end Part.FlagsStay

/-! ### Refused or granted -/

/-- A granted outcome of a request: its reply is OK or waits, and inbound frames and event flags stay. -/
structure Part.Granted (p : Part) (o : Part × Response) : Prop where
  answer : ∀ res body, o.2 = .reply res body → res = .ok
  inbound : o.1.host.inbound = p.host.inbound
  flags : p.FlagsStay o.1

/-- A request is refused, or granted. -/
def Part.Judged (p : Part) (o : Part × Response) : Prop := (∃ res, o = p.refuse res) ∨ p.Granted o

namespace Part

theorem judged_refuse (p : Part) (res : Result) : p.Judged (p.refuse res) := .inl ⟨res, rfl⟩

theorem judged_ok {p q : Part} (body : List Byte) (inbound : q.host.inbound = p.host.inbound)
    (flags : p.FlagsStay q) : p.Judged (q, .ok body) :=
  .inr ⟨fun _ _ h => by cases h; rfl, inbound, flags⟩

theorem judged_same (p : Part) (body : List Byte) : p.Judged (p, .ok body) := judged_ok body rfl (.refl p)

/-- Neither the host link nor the yard changes. -/
theorem judged_aside {p q : Part} (body : List Byte) (host : q.host = p.host) (yard : q.yard = p.yard) :
    p.Judged (q, .ok body) :=
  judged_ok body (by rw [host]) (.of_events (by rw [yard]))

theorem judged_act {p : Part} (f : Env → Act → Act) (body : List Byte)
    (h : p.yard.FlagsStay (f p.env p.yard.act).yard) : p.Judged (p.doAct f, .ok body) :=
  judged_ok body rfl (.doAct f h)

theorem Judged.of_ite {c : Prop} [Decidable c] {p : Part} {res : Result} {o : Part × Response}
    (h : ¬ c → p.Judged o) : p.Judged (if c then p.refuse res else o) := by
  split
  · exact p.judged_refuse res
  · next hc => exact h hc

/-! ### Settings and clock -/

theorem judged_setWindow (p : Part) (a : WindowArgs) : p.Judged (p.setWindow a) := by
  unfold setWindow
  split
  · exact p.judged_refuse _
  · next w _ =>
    exact .of_ite fun _ => judged_ok [] rfl
      (FlagsStay.serve { p with settings := p.settings.putWindow a.window w })

theorem judged_setZoning (p : Part) (a : ZoningArgs) : p.Judged (p.setZoning a) := by
  unfold setZoning
  split
  · exact p.judged_refuse _
  · exact .of_ite fun _ => judged_aside [] rfl rfl

theorem judged_setSpecies (p : Part) (species density trim : Nat) :
    p.Judged (p.setSpecies species density trim) :=
  .of_ite fun _ => .of_ite fun _ => judged_aside [] rfl rfl

theorem flagsStay_setWeather (p : Part) (w : WeatherSettings) : p.FlagsStay (p.setWeather w) := by
  refine .of_events ?_
  show (if w.capKg < p.settings.weather.capKg then p.yard.clampWater w.capKg else p.yard).events = _
  split <;> rfl

theorem judged_setWeatherRequest (p : Part) (a : WeatherArgs) : p.Judged (p.setWeatherRequest a) := by
  unfold setWeatherRequest
  split
  · exact p.judged_refuse _
  · exact .of_ite fun _ => judged_ok [] rfl (p.flagsStay_setWeather _)

theorem flagsStay_setPlanningTo (p : Part) (s : PlanningSettings) : p.FlagsStay (p.setPlanningTo s) := by
  unfold setPlanningTo
  simp only
  split
  · exact .refl p
  · exact FlagsStay.judgeAndServe { p with settings := { p.settings with planning := s } }

theorem judged_setPlanning (p : Part) (a : PlanningArgs) : p.Judged (p.setPlanning a) := by
  unfold setPlanning
  split
  · exact p.judged_refuse _
  · exact .of_ite fun _ => judged_ok [] (by rw [setPlanningTo_host]) (p.flagsStay_setPlanningTo _)

theorem judged_setLoaderLink (p : Part) (timeout retry probe : Nat) :
    p.Judged (p.setLoaderLink timeout retry probe) :=
  .of_ite fun _ => .of_ite fun _ => judged_aside [] rfl rfl

theorem judged_setWeighing (p : Part) (a : WeighingArgs) : p.Judged (p.setWeighing a) := by
  unfold setWeighing
  split
  · exact p.judged_refuse _
  · exact .of_ite fun _ => judged_aside [] rfl rfl

theorem judged_setEventMask (p : Part) (mask : Nat) : p.Judged (p.setEventMask mask) :=
  .of_ite fun _ => .of_ite fun _ => judged_aside [] rfl rfl

theorem judged_storeSettings (p : Part) : p.Judged p.storeSettings :=
  .of_ite fun _ => judged_aside [] rfl rfl

theorem flagsStay_setWeighingTo (p : Part) (w : WeighSettings) : p.FlagsStay (p.setWeighingTo w) :=
  .of_events rfl

theorem flagsStay_recallCopy (p : Part) : p.FlagsStay p.recallCopy := by
  refine FlagsStay.trans (FlagsStay.trans (FlagsStay.trans ?_ (flagsStay_setWeather _ _))
    (flagsStay_setWeighingTo _ _)) (flagsStay_setPlanningTo _ _)
  exact .of_events rfl

theorem judged_recallSettings (p : Part) : p.Judged p.recallSettings :=
  .of_ite fun _ => .of_ite fun _ => .inr
    { answer := fun _ _ h => by cases h
      inbound := by rw [recallCopy, setPlanningTo_host]; rfl
      flags := p.flagsStay_recallCopy }

theorem flagsStay_dryingExpiry (p : Part) : p.FlagsStay p.dryingExpiry := .of_events rfl

theorem flagsStay_weighExpiry (p : Part) : p.FlagsStay p.weighExpiry := FlagsStay.raise _ .weighFail

theorem flagsStay_stockExpiry (p : Part) (n : Nat) : p.FlagsStay (p.stockExpiry n) :=
  .doAct (fun e a => a.endStockWait e n) (Act.settles_endStockWait p.env p.yard.act n).flagsStay

theorem flagsStay_stockExpiries (fuel : Nat) (p : Part) : p.FlagsStay (Part.stockExpiries fuel p) := by
  induction fuel generalizing p with
  | zero => exact .refl p
  | succ fuel ih =>
    unfold Part.stockExpiries
    split
    · exact (p.flagsStay_stockExpiry _).trans (ih _)
    · exact .refl p

theorem flagsStay_expireAll (p : Part) : p.FlagsStay p.expireAll := by
  have drying : p.FlagsStay (if due p.clock p.weather.deadline then p.dryingExpiry else p) := by
    split
    · exact p.flagsStay_dryingExpiry
    · exact .refl p
  have weighing : ∀ p : Part, p.FlagsStay
      (if due p.clock (p.weigh.arming.map Arming.deadline) then p.weighExpiry else p) := fun p => by
    split
    · exact p.flagsStay_weighExpiry
    · exact .refl p
  exact (drying.trans (weighing _)).trans (flagsStay_stockExpiries _ _)

theorem Plain.inbound {p q : Part} (h : p.Plain q) : q.host.inbound = p.host.inbound := by
  obtain ⟨_, _, _, _, rfl⟩ := h
  rfl

theorem judged_setClock (p : Part) (clock : Nat) : p.Judged (p.setClock clock) :=
  .of_ite fun _ => judged_ok _ (plain_expireAll { p with clock := clock }).inbound
    (flagsStay_expireAll { p with clock := clock })

/-! ### Packs -/

theorem judged_registerPack (p : Part) (a : PackArgs) : p.Judged (p.registerPack a) :=
  .of_ite fun _ => .of_ite fun _ => .of_ite fun _ => .of_ite fun _ =>
    judged_act (fun e act => act.registerPack e a) _ (.of_eq rfl)

theorem judged_removePack (p : Part) (tag : Nat) : p.Judged (p.removePack tag) := by
  refine .of_ite fun _ => ?_
  split
  · exact p.judged_refuse _
  · split
    · exact judged_act (fun e a => a.removePack e tag) _ (Act.flagsStay_removePack p.env p.yard.act tag)
    · exact p.judged_refuse _

theorem judged_holdPack (p : Part) (tag : Nat) : p.Judged (p.holdPack tag) := by
  refine .of_ite fun _ => ?_
  split
  · exact p.judged_refuse _
  · split
    · exact judged_ok [] rfl (.of_events rfl)
    · exact p.judged_same _
    · exact judged_act (fun e a => a.holdReserved e tag) _
        (Act.settles_releaseHeld p.env p.yard.act tag).flagsStay
    · exact p.judged_refuse _
    · exact p.judged_refuse _
    · exact p.judged_refuse _

theorem judged_releasePack (p : Part) (tag : Nat) : p.Judged (p.releasePack tag) := by
  refine .of_ite fun _ => ?_
  split
  · exact p.judged_refuse _
  · split
    · exact p.judged_same _
    · exact judged_act (fun _ a => a.releasePack tag) _ (.of_eq rfl)
    · exact p.judged_refuse _
    · exact p.judged_refuse _
    · exact p.judged_refuse _
    · exact p.judged_refuse _

theorem judged_locateDoubt (p : Part) (tag finding bay : Nat) :
    p.Judged (p.locateDoubt tag finding bay) := by
  unfold locateDoubt
  split
  · exact .of_ite fun _ => judged_act (fun _ a => a.locateInBay tag bay) _
      (Act.flagsStay_locateInBay p.yard.act tag bay)
  · split
    · split
      · split
        · next n number target _ _ _ _ _ _ =>
          exact judged_act (fun e a => a.locateLoad e tag n number target) _
            (Act.flagsStay_locateLoad p.env p.yard.act tag n number target)
        · exact p.judged_refuse _
      · split
        · next n number source _ _ _ _ _ _ =>
          exact judged_act (fun _ a => a.locateOffload tag n number source) _
            (Act.flagsStay_locateOffload p.yard.act tag n number source)
        · exact p.judged_refuse _
      · exact p.judged_refuse _
    · exact judged_act (fun e a => a.giveUp e tag) _ (Act.flagsStay_giveUp p.env p.yard.act tag)

theorem judged_locatePack (p : Part) (tag finding bay : Nat) :
    p.Judged (p.locatePack tag finding bay) := by
  refine .of_ite fun _ => ?_
  split
  · exact p.judged_refuse _
  · split
    · exact p.judged_locateDoubt tag finding bay
    · exact p.judged_refuse _

theorem judged_readPack (p : Part) (tag : Nat) : p.Judged (p.readPack tag) := by
  refine .of_ite fun _ => ?_
  split
  · exact p.judged_refuse _
  · exact p.judged_same _

/-! ### Trucks and lanes -/

theorem judged_announceTruck (p : Part) (a : TruckArgs) : p.Judged (p.announceTruck a) := by
  unfold announceTruck
  split
  · exact p.judged_refuse _
  · refine .of_ite fun _ => .of_ite fun _ => ?_
    split
    · exact p.judged_refuse _
    · exact judged_ok _ rfl (.of_events rfl)

theorem judged_cancelTruck (p : Part) (n : Nat) : p.Judged (p.cancelTruck n) := by
  refine .of_ite fun _ => ?_
  split
  · exact p.judged_refuse _
  · next t _ =>
    refine .of_ite fun _ => ?_
    split
    · exact p.judged_refuse _
    · exact judged_act (fun e a => a.cancelEarly e t) _ (Act.flagsStay_cancelEarly p.env p.yard.act t)
    · exact judged_act (fun e a => a.cancelLate e t) _ (Act.flagsStay_cancelLate p.env p.yard.act t)

theorem flagsStay_moveTruckTo (p : Part) (n : Nat) (st : TruckState) : p.FlagsStay (p.moveTruckTo n st) :=
  FlagsStay.trans (.of_events (p.yard.modifyTruck_events n _))
    (FlagsStay.judgeAndServe (p.onYard fun _ y => y.modifyTruck n fun t => { t with state := st }))

theorem judged_pauseTruck (p : Part) (n : Nat) : p.Judged (p.pauseTruck n) := by
  refine .of_ite fun _ => ?_
  split
  · exact p.judged_refuse _
  · exact judged_ok [] rfl (p.flagsStay_moveTruckTo n .paused)
  · exact p.judged_same _
  · exact p.judged_refuse _

theorem judged_resumeTruck (p : Part) (n : Nat) : p.Judged (p.resumeTruck n) := by
  refine .of_ite fun _ => ?_
  split
  · exact p.judged_refuse _
  · exact judged_ok [] rfl (p.flagsStay_moveTruckTo n .loading)
  · exact p.judged_same _
  · exact p.judged_refuse _

theorem judged_departTruck (p : Part) (n : Nat) : p.Judged (p.departTruck n) := by
  refine .of_ite fun _ => ?_
  split
  · exact p.judged_refuse _
  · exact judged_ok _ rfl (.of_events (Yard.dropTruck_events _ n))
  · exact p.judged_refuse _

theorem judged_readTruck (p : Part) (n k : Nat) : p.Judged (p.readTruck n k) := by
  refine .of_ite fun _ => ?_
  split
  · exact p.judged_refuse _
  · exact p.judged_same _

theorem judged_openLane (p : Part) (l : Nat) : p.Judged (p.openLane l) := by
  refine .of_ite fun _ => ?_
  split
  · exact judged_act (fun _ a => a.on fun y => y.modifyLane l Lane.opened) _ (.of_eq rfl)
  · exact judged_ok _ rfl (.of_events rfl)

theorem judged_closeLane (p : Part) (l : Nat) : p.Judged (p.closeLane l) :=
  .of_ite fun _ => judged_ok _ rfl (.of_events rfl)

/-! ### Terminals, weighing and the audit -/

theorem judged_enrollLoader (p : Part) (t credit silence : Nat) :
    p.Judged (p.enrollLoader t credit silence) := by
  unfold enrollLoader
  split
  · exact p.judged_refuse _
  · exact .of_ite fun _ => .of_ite fun _ => .of_ite fun _ => .inr
      { answer := fun _ _ h => by cases h
        inbound := rfl
        flags := .of_events rfl }

theorem judged_retireLoader (p : Part) (t : Nat) : p.Judged (p.retireLoader t) := by
  refine .of_ite fun _ => .of_ite fun _ => ?_
  split
  · exact p.judged_same _
  · exact judged_act (fun e a => a.retire e t) _ (Act.flagsStay_retire p.env p.yard.act t)

theorem judged_arm (p : Part) (n : Nat) (d : Direction) : p.Judged (p.arm n d) := by
  refine .of_ite fun _ => ?_
  split
  · exact p.judged_refuse _
  · exact .of_ite fun _ => .of_ite fun _ => judged_aside _ rfl rfl

theorem judged_abortWeighing (p : Part) : p.Judged p.abortWeighing := by
  unfold abortWeighing
  split
  · exact p.judged_refuse _
  · exact judged_aside _ rfl rfl

theorem judged_runAudit (p : Part) : p.Judged p.runAudit :=
  .of_ite fun _ => p.judged_same _

/-! ### Every request -/

/-- R159: every request but READ EVENTS is refused with the part as it was, or is granted. -/
theorem judged_perform (p : Part) (r : Request) (h : r ≠ .readEvents) : p.Judged (p.perform r) := by
  cases r with
  | setWindow a => exact p.judged_setWindow a
  | setZoning a => exact p.judged_setZoning a
  | setSpecies sp d t => exact p.judged_setSpecies sp d t
  | setWeather a => exact p.judged_setWeatherRequest a
  | setPlanning a => exact p.judged_setPlanning a
  | setLoaderLink t r i => exact p.judged_setLoaderLink t r i
  | setWeighing a => exact p.judged_setWeighing a
  | setEventMask m => exact p.judged_setEventMask m
  | storeSettings => exact p.judged_storeSettings
  | recallSettings => exact p.judged_recallSettings
  | setClock c => exact p.judged_setClock c
  | registerPack a => exact p.judged_registerPack a
  | removePack t => exact p.judged_removePack t
  | holdPack t => exact p.judged_holdPack t
  | releasePack t => exact p.judged_releasePack t
  | locatePack t f b => exact p.judged_locatePack t f b
  | readPack t => exact p.judged_readPack t
  | readBay b => exact .of_ite fun _ => p.judged_same _
  | announceTruck a => exact p.judged_announceTruck a
  | cancelTruck n => exact p.judged_cancelTruck n
  | pauseTruck n => exact p.judged_pauseTruck n
  | resumeTruck n => exact p.judged_resumeTruck n
  | departTruck n => exact p.judged_departTruck n
  | readTruck n k => exact p.judged_readTruck n k
  | openLane l => exact p.judged_openLane l
  | closeLane l => exact p.judged_closeLane l
  | enrollLoader t c s => exact p.judged_enrollLoader t c s
  | retireLoader t => exact p.judged_retireLoader t
  | readLoader t => exact .of_ite fun _ => p.judged_same _
  | readText => exact judged_ok _ rfl (.of_events rfl)
  | weighIn n => exact p.judged_arm n .weighIn
  | weighOut n => exact p.judged_arm n .weighOut
  | abortWeighing => exact p.judged_abortWeighing
  | readWeighbridge => exact judged_aside _ rfl rfl
  | runAudit => exact p.judged_runAudit
  | restart => exact judged_ok [] rfl (.refl p)
  | readEvents => exact absurd rfl h
  | readSettings | readClock | identify | listTrucks | readLanes => exact p.judged_same _

end Part

end Sys2Proof.Machine
end

section
/-! SUPPORT. The host link controller (R155 to R159): frames, their judgement, and their way through the inbound
buffers. -/

namespace Sys2Proof.Machine

/-! ### Frames -/

theorem frameWith_flags_bit (h : Header) (kind : Byte) (body : List Byte) :
    (frameWith h kind body).flags.getLsbD 0 = h.check := by
  show (Header.flags h).getLsbD 0 = h.check
  unfold Header.flags
  split
  · next hc => rw [hc]; rfl
  · next hc => rw [Bool.eq_false_of_not_eq_true hc]; rfl

theorem frameWith_flags_rest (h : Header) (kind : Byte) (body : List Byte) :
    (frameWith h kind body).flags &&& 0xFE#8 = 0#8 := by
  show Header.flags h &&& 0xFE#8 = 0#8
  unfold Header.flags
  split <;> rfl

/-- R157: a frame that is built carries the CHECK of its bytes, or none. -/
theorem checkFails_frameWith (h : Header) (kind : Byte) (body : List Byte) :
    (frameWith h kind body).checkFails = false := by
  unfold Frame.checkFails frameWith
  split
  · next c present =>
    simp only at present
    split at present
    · obtain rfl := Option.some.inj present
      simp [Frame.covered]
    · cases present
  · rfl

theorem Frame.checkFails_eq (f : Frame) : f.checkFails = f.check.any fun c => c != crc f.covered := by
  unfold Frame.checkFails
  cases f.check <;> rfl

/-- R176: whether a KIND names a request does not depend on the body. -/
theorem decodeRequest_unknownKind {kind : Nat} {b : List Byte} (h : decodeRequest kind b = .unknownKind)
    (c : List Byte) : decodeRequest kind c = .unknownKind := by
  unfold decodeRequest
  split
  case h_22 => exact absurd h (Laws.decodeTruck_ne_unknownKind b)
  case h_43 => rfl
  all_goals exact absurd h (Laws.fixed_ne_unknownKind _ b _)

/-! ### The judgement of a frame (R159) -/

namespace Part

variable {p : Part} {f : Frame}

theorem judgeFrame_checkFails (h : f.checkFails = true) : p.judgeFrame f = p.refuse .checkFail := by
  rw [judgeFrame, if_pos h]

theorem judgeFrame_unknownKind (check : f.checkFails = false)
    (h : decodeRequest f.kind.toNat f.body = .unknownKind) : p.judgeFrame f = p.refuse .unknownKind := by
  rw [judgeFrame, if_neg (Bool.not_eq_true _ ▸ check), h]

theorem judgeFrame_badLength (check : f.checkFails = false)
    (h : decodeRequest f.kind.toNat f.body = .badLength) : p.judgeFrame f = p.refuse .badLength := by
  rw [judgeFrame, if_neg (Bool.not_eq_true _ ▸ check), h]

theorem judgeFrame_request (check : f.checkFails = false) {r : Request}
    (h : decodeRequest f.kind.toNat f.body = .request r) : p.judgeFrame f
      = if f.flags &&& 0xFE#8 = 0#8 then p.perform r else p.refuse .badValue := by
  rw [judgeFrame, if_neg (Bool.not_eq_true _ ▸ check), h]

/-! ### Frames in the inbound buffers (R158) -/

theorem takeFrames_none (h : p.host.inbound = []) (fuel : Nat) : Part.takeFrames fuel p = p := by
  cases fuel with
  | zero => rfl
  | succ fuel => rw [Part.takeFrames, h]

theorem takeFrames_blocked (h : p.host.canTake = false) (fuel : Nat) : Part.takeFrames fuel p = p := by
  cases fuel with
  | zero => rfl
  | succ fuel =>
    rw [Part.takeFrames]
    split
    · rfl
    · rw [if_neg (Bool.not_eq_true _ ▸ h)]

theorem frameArrives_waits (free : p.host.inbound.length < 2) (h : p.host.canTake = false) :
    p.frameArrives f = { p with host := { p.host with inbound := p.host.inbound ++ [f] } } := by
  rw [frameArrives, if_pos free]
  exact takeFrames_blocked (p := { p with host := { p.host with inbound := p.host.inbound ++ [f] } }) h 2

theorem frameArrives_full (full : 2 ≤ p.host.inbound.length) (slot : p.host.slotEmpty = true) :
    p.frameArrives f = { p with host := p.host.putReady (fullReply f) } := by
  rw [frameArrives, if_neg (Nat.not_lt.mpr full), if_pos slot]

theorem frameArrives_lost (full : 2 ≤ p.host.inbound.length) (slot : p.host.slotEmpty = false) :
    p.frameArrives f = p.raise .linkError := by
  rw [frameArrives, if_neg (Nat.not_lt.mpr full), if_neg (Bool.not_eq_true _ ▸ slot)]

theorem inbound_answer (o : Part × Response) (kind seq : Byte) (check : Bool) :
    (Part.answer o kind seq check).host.inbound = o.1.host.inbound :=
  HostLink.inbound_respond ..

/-- R158, R159: where no frame waits and one can be taken, an arriving frame is taken at once. -/
theorem frameArrives_taken (can : p.host.canTake = true) (none : p.host.inbound = [])
    (left : (p.judgeFrame f).1.host.inbound = []) : p.frameArrives f = p.takeFrame f := by
  have emptied : ({ p with host := { p.host with inbound := [] } } : Part) = p := by rw [← none]
  have can' : ({ p.host with inbound := p.host.inbound ++ [f] } : HostLink).canTake = true := can
  rw [frameArrives, none, if_pos (by decide), List.nil_append, Part.takeFrames]
  simp only
  rw [if_pos (by rw [← can', none]; rfl), emptied]
  exact takeFrames_none ((inbound_answer ..).trans left) 1

/-- R155: the frame of a header is answered under its KIND, its SEQ and its CHECK flag. -/
theorem takeFrame_frameWith (p : Part) (h : Header) (kind : Byte) (body : List Byte) :
    p.takeFrame (frameWith h kind body)
      = Part.answer (p.judgeFrame (frameWith h kind body)) kind h.seq h.check := by
  rw [takeFrame, frameWith_flags_bit]
  rfl

/-- R159: a frame of an unknown KIND that can be taken is refused UNKNOWN_KIND, and nothing else changes. -/
theorem frameArrives_unknownKind {h : Header} {kind : Byte} {body : List Byte} (can : p.host.canTake = true)
    (none : p.host.inbound = []) (unknown : decodeRequest kind.toNat body = .unknownKind) :
    p.frameArrives (frameWith h kind body)
      = Part.answer (p.refuse .unknownKind) kind h.seq h.check := by
  have judged : p.judgeFrame (frameWith h kind body) = p.refuse .unknownKind :=
    judgeFrame_unknownKind (checkFails_frameWith h kind body) unknown
  rw [frameArrives_taken can none (by rw [judged]; exact none), takeFrame_frameWith, judged]

/-! ### Requests (R155 to R159) -/

theorem request_taken (running : p.running = true) (can : p.host.canTake = true)
    (none : p.host.inbound = []) (h : Header) (r : Request) :
    p.request h r = Part.answer (p.perform r) (byte (requestKind r)) h.seq h.check := by
  rw [request, running, can, none]
  rfl

theorem request_blocked (running : p.running = true) (h : p.host.canTake = false) (hd : Header)
    (r : Request) : p.request hd r = p.frameArrives (frameOf hd r) := by
  rw [request, running, h]
  rfl

/-- R155: a request leaves the frames that wait. -/
theorem inbound_perform (p : Part) (r : Request) : (p.perform r).1.host.inbound = p.host.inbound := by
  by_cases h : r = .readEvents
  · subst h
    show (p.readEvents).1.host.inbound = _
    unfold readEvents
    simp only
    split <;> rfl
  · rcases p.judged_perform r h with ⟨res, refused⟩ | granted
    · rw [refused]; rfl
    · exact granted.inbound

end Part

/-- A host request row is the completing of its frame (log entry 5). -/
theorem exec_commandOf (h : Header) (r : Request) (s : State) :
    exec (commandOf h r) s = s.request h r := by
  cases r <;> rfl

end Sys2Proof.Machine
end

section
/-! SUPPORT. Event flags stay set (O55): every row that may take no READ EVENTS and run no restart leaves each
flag that is set. -/

namespace Sys2Proof.Machine

namespace Part

/-! ### The host link -/

theorem flagsStay_perform (p : Part) {r : Request} (h : r ≠ .readEvents) : p.FlagsStay (p.perform r).1 := by
  rcases p.judged_perform r h with ⟨res, refused⟩ | granted
  · rw [refused]; exact .refl p
  · exact granted.flags

/-- R158: a request that cannot be taken waits, since no other frame does. -/
theorem flagsStay_request {p : Part} (none : p.host.inbound = []) (h : Header) {r : Request}
    (other : r ≠ .readEvents) : p.FlagsStay (p.request h r) := by
  cases running : p.running with
  | false => rw [request, running]; exact .refl p
  | true =>
    cases can : p.host.canTake with
    | true =>
      rw [request_taken running can none]
      exact p.flagsStay_perform other
    | false =>
      rw [request_blocked running can, frameArrives_waits (by rw [none]; decide) can]
      exact .refl p

theorem flagsStay_unknownKind {p : Part} (none : p.host.inbound = []) (h : Header) {kind : Byte}
    {body : List Byte} (unknown : decodeRequest kind.toNat body = .unknownKind) :
    p.FlagsStay (p.anyFrame (frameWith h kind body)) := by
  unfold anyFrame
  split
  · cases can : p.host.canTake with
    | true =>
      rw [frameArrives_unknownKind can none unknown]
      exact .refl p
    | false =>
      rw [frameArrives_waits (by rw [none]; decide) can]
      exact .refl p
  · exact .refl p

theorem flagsStay_cutFrame (p : Part) : p.FlagsStay p.cutFrame :=
  FlagsStay.raise { p with host := { p.host with receiver := .hunting } } .linkError

theorem flagsStay_hostByte_hunting {p : Part} (h : p.host.receiver = .hunting) (b : Byte) (err : Bool) :
    p.FlagsStay (p.hostByte b err) := by
  unfold hostByte
  rw [h]
  simp only
  split <;> exact .refl p

/-- R156: the byte that ends a gap is judged in HUNTING, and completes no frame. -/
theorem flagsStay_hostGap (p : Part) (b : Byte) (err : Bool) : p.FlagsStay (p.hostGap b err) := by
  unfold hostGap
  split
  · next h => exact flagsStay_hostByte_hunting h b err
  · exact p.flagsStay_cutFrame.trans (flagsStay_hostByte_hunting rfl b err)

theorem flagsStay_replySent {p : Part} (none : p.host.inbound = []) : p.FlagsStay p.replySent := by
  unfold replySent
  split
  · next r _ =>
    rw [takeFrames_none (p := { p with host := p.host.sent r }) none]
    exact .refl p
  · exact .refl p

/-! ### Supplies, the store, weather and HALT -/

theorem flagsStay_latchSet (p : Part) : p.FlagsStay p.latchSet := by
  unfold latchSet
  split <;> exact .refl p

theorem flagsStay_storeEnds (p : Part) (agrees : Bool) : p.FlagsStay (p.storeEnds agrees) := by
  unfold storeEnds
  split
  · refine FlagsStay.trans (FlagsStay.trans ?_ (FlagsStay.raise _ _)) (FlagsStay.serve _)
    exact .refl p
  · exact .refl p

theorem flagsStay_recallEnds (p : Part) : p.FlagsStay p.recallEnds := by
  unfold recallEnds
  split
  · refine FlagsStay.trans ?_ (FlagsStay.serve _)
    exact .refl p
  · exact .refl p

theorem flagsStay_stockWaitRow (p : Part) : p.FlagsStay (match p.yard.expiredWait p.clock with
    | some n => p.stockExpiry n
    | none => p) := by
  cases p.yard.expiredWait p.clock with
  | some n => exact p.flagsStay_stockExpiry n
  | none => exact .refl p

theorem flagsStay_rainPulse (p : Part) : p.FlagsStay p.rainPulse := by
  unfold rainPulse
  simp only
  split <;> exact .of_events rfl

theorem flagsStay_haltOn (p : Part) : p.FlagsStay p.haltOn := FlagsStay.raise { p with halt := true } .haltOn

theorem flagsStay_haltOff (p : Part) : p.FlagsStay p.haltOff :=
  (FlagsStay.raise { p with halt := false } .haltOff).trans (FlagsStay.serve _)

/-! ### The weighbridge line (R143, R147) -/

theorem flagsStay_discard (p : Part) : p.FlagsStay p.discard := p.yard.flagsStay_raise .weighLine

theorem flagsStay_learn (p : Part) (n front rear : Nat) : p.FlagsStay (p.learn n front rear) := by
  unfold learn
  split
  · split <;> exact .refl p
  · exact .refl p

theorem flagsStay_weighed (p : Part) (a : Arming) (front rear : Nat) :
    p.FlagsStay (p.weighed a front rear) := by
  unfold weighed
  simp only
  split
  · exact FlagsStay.doAct (p := { p with weigh := { p.weigh with arming := none } })
      (fun _ act => act.weighedIn a.truck front rear)
      (Act.flagsStay_weighedIn p.yard.act a.truck front rear)
  · have learnt := flagsStay_learn { p with weigh := { p.weigh with arming := none } } a.truck front rear
    generalize ({ p with weigh := { p.weigh with arming := none } } : Part).learn a.truck front rear = q
      at learnt
    exact FlagsStay.trans learnt (.doAct (fun _ act => act.weighedOut a.truck front rear)
      (Act.settles_weighedOut q.yard.act a.truck front rear).flagsStay)

theorem flagsStay_handReading (p : Part) (deck value : Nat) : p.FlagsStay (p.handReading deck value) := by
  unfold handReading
  split
  · exact .refl p
  · simp only
    split
    · exact p.flagsStay_weighed _ _ _
    · exact .refl p

theorem flagsStay_recordEnds (p : Part) (chars : List Nat) : p.FlagsStay (p.recordEnds chars) := by
  unfold recordEnds
  split
  · exact p.flagsStay_discard
  · simp only
    split
    · refine FlagsStay.trans ?_ (flagsStay_handReading _ _ _)
      exact .refl p
    · exact .refl p

theorem flagsStay_lineChar (p : Part) (c : LineChar) : p.FlagsStay (p.lineChar c) := by
  unfold lineChar
  simp only
  split
  · split <;> exact .refl p
  · split
    · exact p.flagsStay_discard
    · split
      · exact p.flagsStay_recordEnds _
      · split
        · exact p.flagsStay_discard
        · exact .refl p

theorem flagsStay_lineChars (p : Part) (cs : List LineChar) : p.FlagsStay (p.lineChars cs) := by
  unfold lineChars
  induction cs generalizing p with
  | nil => exact .refl p
  | cons c rest ih => exact (p.flagsStay_lineChar c).trans (ih _)

/-! ### The loader link (R126 to R132) -/

theorem flagsStay_loaderTurn (p : Part) : p.FlagsStay p.loaderTurn := by
  unfold loaderTurn
  split <;> exact .refl p

theorem flagsStay_probeTurn (p : Part) : p.FlagsStay p.probeTurn := by
  unfold probeTurn
  split <;> exact .refl p

theorem flagsStay_clearAllBegins (p : Part) : p.FlagsStay p.clearAllBegins := by
  unfold clearAllBegins
  split <;> exact .refl p

theorem flagsStay_enrollEnds (p : Part) (x : Exchange) : p.FlagsStay (p.enrollEnds x) := by
  unfold enrollEnds
  split <;> exact .refl p

theorem flagsStay_notAnswered (p : Part) : p.FlagsStay p.notAnswered := by
  unfold notAnswered
  split
  · exact .refl p
  · next x _ =>
    split
    · exact .of_events rfl
    · exact (FlagsStay.doAct (fun e a => a.exchangeFailed e x)
        (Act.flagsStay_exchangeFailed p.env p.yard.act x)).trans (flagsStay_enrollEnds _ x)

theorem flagsStay_answerTimeout (p : Part) : p.FlagsStay p.answerTimeout :=
  flagsStay_notAnswered { p with yard := p.yard.onLink LoaderLink.lateExpires }

theorem flagsStay_lateAnswer (p : Part) (t : Nat) (ans : Answer) : p.FlagsStay (p.lateAnswer t ans) := by
  unfold lateAnswer
  simp only
  split
  · exact FlagsStay.raise { p with yard := p.yard.onLink fun l => { l with late := l.lateBut t } } .staleDone
  · exact .refl p

theorem flagsStay_answered (p : Part) (t : Nat) (ans : Answer) : p.FlagsStay (p.answered t ans) := by
  unfold answered
  split
  · next x _ =>
    split
    · exact (FlagsStay.doAct (fun e a => (a.on fun y => y.exchangeDone e.clock x).report e x ans)
        (Act.flagsStay_heard p.env p.yard.act x ans)).trans (flagsStay_enrollEnds _ x)
    · split
      · exact p.flagsStay_lateAnswer t ans
      · exact .refl p
  · split
    · exact p.flagsStay_lateAnswer t ans
    · exact .refl p

theorem flagsStay_charsArrive (p : Part) (chars : List LinkChar) : p.FlagsStay (p.charsArrive chars) := by
  unfold charsArrive
  split
  · exact p.flagsStay_answered _ _
  · exact .refl p

end Part

/-! ### Rows -/

section
variable {s t : State} {f : Part → Part}

theorem State.flagsStay_onPart (h : s.onPart f = .next t) (hf : s.part.FlagsStay (f s.part)) :
    s.part.FlagsStay t.part := by
  obtain rfl := Host.Outcome.next.inj h
  exact hf

theorem State.flagsStay_whileRunning (h : s.whileRunning f = .next t) (hf : s.part.FlagsStay (f s.part)) :
    s.part.FlagsStay t.part := by
  refine State.flagsStay_onPart h ?_
  unfold Part.whileRunning
  split
  · exact hf
  · exact .refl _

theorem State.flagsStay_ifThen {test : Part → Bool} (h : s.ifThen test f = .next t)
    (hf : s.part.FlagsStay (f s.part)) : s.part.FlagsStay t.part := by
  refine State.flagsStay_whileRunning h ?_
  split
  · exact hf
  · exact .refl _

theorem State.flagsStay_answered {line : AnswerLine} {a : Option Answer} (h : s.answered line a = .next t) :
    s.part.FlagsStay t.part := by
  unfold State.answered at h
  split at h
  · exact State.flagsStay_ifThen h (s.part.flagsStay_answered _ _)
  · obtain rfl := Host.Outcome.next.inj h
    exact .refl _
  · exact State.flagsStay_whileRunning h (s.part.flagsStay_charsArrive _)

end

/-- Settles O55, row by row: a request but READ EVENTS is refused or granted (`Part.judged_perform`), and the
arrivals and steps raise flags alone. -/
theorem flagsStay : Obligations.FlagsStay := by
  intro c s t e wf none noRead noBegin noComplete noCut noRestart row
  have request : ∀ (h : Header) (r : Request), r ≠ .readEvents → s.request h r = .next t →
      s.part.FlagsStay t.part := fun h r other row =>
    State.flagsStay_onPart row (Part.flagsStay_request none h other)
  suffices stays : s.part.FlagsStay t.part from stays e
  cases c with
  | readEvents h => exact absurd rfl (noRead h)
  | hostFrameBegin => exact absurd rfl noBegin
  | hostFrameComplete rest => exact absurd rfl (noComplete rest)
  | hostFrameCutShort rest err => exact absurd rfl (noCut rest err)
  | powerOn pins => exact absurd rfl (noRestart pins).1
  | resetRelease pins => exact absurd rfl (noRestart pins).2.1
  | restartSequence pins => exact absurd rfl (noRestart pins).2.2
  | setWindow | setZoning | setSpecies | setWeather | setPlanning | setLoaderLink | setWeighing
  | setEventMask | readSettings | storeSettings | recallSettings | setClock | readClock | identify
  | registerPack | removePack | holdPack | releasePack | locatePack | readPack | readBay
  | announceTruck | cancelTruck | pauseTruck | resumeTruck | departTruck | readTruck | listTrucks
  | openLane | closeLane | readLanes | enrollLoader | retireLoader | readLoader | readText | weighIn
  | weighOut | abortWeighing | readWeighbridge | runAudit | restart =>
    exact request _ _ (by simp) row
  | idle | accept | lifted | done | fault | withdrawn | tooLate | text => exact State.flagsStay_answered row
  | unknownKind h kind body =>
    have unknown := (Bool.and_eq_true_iff.mp wf).1
    exact State.flagsStay_onPart row (Part.flagsStay_unknownKind none h
      (decodeRequest_unknownKind (of_decide_eq_true unknown) body))
  | hostFrameGap b err => exact State.flagsStay_whileRunning row (s.part.flagsStay_hostGap b err)
  | replyStart hrdy => exact State.flagsStay_whileRunning row (.refl _)
  | replySent => exact State.flagsStay_whileRunning row (Part.flagsStay_replySent none)
  | clockTick =>
    exact State.flagsStay_onPart (f := fun p => { p with clock := tick p.clock }) row (.refl s.part)
  | powerFail | resetAssert => exact State.flagsStay_onPart row (.refl _)
  | retentionLatchSet => exact State.flagsStay_onPart row s.part.flagsStay_latchSet
  | storeEnd agrees => exact State.flagsStay_whileRunning row (s.part.flagsStay_storeEnds agrees)
  | recallEnd => exact State.flagsStay_whileRunning row s.part.flagsStay_recallEnds
  | dryingExpiry => exact State.flagsStay_ifThen row s.part.flagsStay_dryingExpiry
  | stockWaitExpiry => exact State.flagsStay_whileRunning row s.part.flagsStay_stockWaitRow
  | weighDeadlineExpiry => exact State.flagsStay_ifThen row s.part.flagsStay_weighExpiry
  | rainPulse | rainStep => exact State.flagsStay_ifThen row s.part.flagsStay_rainPulse
  | rainOtherEdge => exact State.flagsStay_ifThen row (.refl _)
  | haltAssert => exact State.flagsStay_ifThen row s.part.flagsStay_haltOn
  | haltRelease => exact State.flagsStay_ifThen row s.part.flagsStay_haltOff
  | weighRecordBegin digit => exact State.flagsStay_whileRunning row (s.part.flagsStay_lineChar digit)
  | weighRecord chars | weighDiscard chars =>
    exact State.flagsStay_whileRunning row (s.part.flagsStay_lineChars chars)
  | loaderTurn => exact State.flagsStay_whileRunning row s.part.flagsStay_loaderTurn
  | probe => exact State.flagsStay_whileRunning row s.part.flagsStay_probeTurn
  | clearAllExchange => exact State.flagsStay_whileRunning row s.part.flagsStay_clearAllBegins
  | answerTimeout => exact State.flagsStay_whileRunning row s.part.flagsStay_answerTimeout

end Sys2Proof.Machine
end

section
/-! SUPPORT. The front of the queue (O1), requests taken, waiting and refused (O2, O3, O5), the judgement of frames
(O6), and RESTART (O38). -/

namespace Sys2Proof.Machine

/-! ### The queue and the outcome of a command -/

theorem State.answered_next (s : State) (line : AnswerLine) (a : Option Answer) :
    ∃ p, s.answered line a = .next (s.withPart p) := by
  unfold State.answered
  split <;> exact ⟨_, rfl⟩

/-- Settles O1: each meaning is a change of the part (`State.onPart`). -/
theorem stepRunsFront : Obligations.StepRunsFront := by
  refine ⟨fun s c rest front => ?_, step_empty, fun c s => ?_⟩
  · rw [step, front]
  · cases c with
    | idle | accept | lifted | done | fault | withdrawn | tooLate | text => exact s.answered_next _ _
    | _ => exact ⟨_, rfl⟩

/-! ### Requests -/

theorem exec_commandOf_taken {s : State} (taken : s.takesNow) (h : Header) (r : Request) :
    exec (commandOf h r) s = .next (s.withPart
      (Part.answer (s.part.perform r) (byte (requestKind r)) h.seq h.check)) := by
  obtain ⟨running, can, none⟩ := taken
  rw [exec_commandOf, State.request, State.onPart_eq, Part.request_taken running can none]
  rfl

/-- Settles O2. -/
theorem requestTaken : Obligations.RequestTaken := fun h r _ taken => exec_commandOf_taken taken h r

theorem fullReply_frameOf (h : Header) (r : Request) : fullReply (frameOf h r)
    = { reply := { kind := byte (requestKind r) + 0x80#8, seq := h.seq, result := .full, body := [],
                   check := h.check }
        holder := .refusal } := by
  rw [fullReply, frameOf, frameWith_flags_bit]
  rfl

/-- Settles O3: the frame of the request arrives (`Part.request_blocked`), and goes as R158 gives. -/
theorem requestWaits : Obligations.RequestWaits := by
  intro h r s running blocked
  have row : exec (commandOf h r) s = .next (s.withPart (s.part.frameArrives (frameOf h r))) := by
    rw [exec_commandOf, State.request, State.onPart_eq, Part.request_blocked running blocked]
    rfl
  refine ⟨fun free => ?_, fun full slot => ?_, fun full slot => ?_⟩
  · rw [row, Part.frameArrives_waits free blocked]
  · rw [row, Part.frameArrives_full full slot, fullReply_frameOf]
    rfl
  · rw [row, Part.frameArrives_lost full slot]

/-- Settles O5: a request is refused with the part as it was, or granted (`Part.judged_perform`). -/
theorem refusalChangesNothing : Obligations.RefusalChangesNothing := by
  intro p q r res body done notOk
  by_cases reads : r = .readEvents
  · subst reads
    obtain ⟨-, answer⟩ := Prod.mk.inj (show p.readEvents = _ from done)
    cases answer
    exact absurd rfl notOk
  · rcases p.judged_perform r reads with ⟨res', refused⟩ | granted
    · obtain ⟨same, answer⟩ := Prod.mk.inj (refused.symm.trans done)
      cases answer
      exact ⟨same.symm, rfl⟩
    · exact absurd (granted.answer res body (by rw [done])) notOk

/-! ### Frames -/

theorem exec_unknownKind (h : Header) (kind : Byte) (body : List Byte) (s : State) :
    exec (.unknownKind h kind body) s = .next (s.withPart (s.part.anyFrame (frameWith h kind body))) :=
  rfl

/-- Settles O6: the checks of `Part.judgeFrame` one by one. -/
theorem frameChecks : Obligations.FrameChecks := by
  refine ⟨fun p f => ?_, fun h kind body s taken unknown => ?_⟩
  · simp only [← Frame.checkFails_eq]
    refine ⟨Part.judgeFrame_checkFails, fun check => ⟨Part.judgeFrame_unknownKind check,
      Part.judgeFrame_badLength check, fun r decoded => ?_⟩⟩
    rw [Part.judgeFrame_request check decoded]
    exact ⟨fun flags => if_neg flags, fun flags => if_pos flags⟩
  · obtain ⟨running, can, none⟩ := taken
    rw [exec_unknownKind, Part.anyFrame, if_pos running, Part.frameArrives_unknownKind can none unknown]
    rfl

/-! ### RESTART -/

namespace Part

variable {p : Part}

/-- R161, R166: the restart sequence is begun while the part runs, once it is due and no store is in flight. -/
theorem restartReady_eq (running : p.running = true) (due : p.host.restartDue = true)
    (idle : ∀ st tr, p.flight ≠ .store st tr) : p.restartReady = true := by
  rw [restartReady, running, due]
  split
  · next st tr store => exact absurd store (idle st tr)
  · rfl

theorem restartReady_not_due (h : p.host.restartDue = false) : p.restartReady = false := by
  rw [restartReady, h, Bool.and_false, Bool.false_and]

theorem restartReady_store {st : Settings} {tr : Vector Nat 8} (h : p.flight = .store st tr) :
    p.restartReady = false := by
  rw [restartReady, h, Bool.and_false]

end Part

/-- Settles O38. -/
theorem restartTaken : Obligations.RestartTaken := by
  refine ⟨fun h s taken => exec_commandOf_taken taken h .restart, fun h closing => ?_, fun s pins running =>
    ⟨fun due idle => State.ifThen_holds running (Part.restartReady_eq running due idle) _, ?_⟩⟩
  · rw [HostLink.canTake, closing, Bool.not_true, Bool.and_false]
  · rintro (notDue | ⟨st, tr, store⟩)
    · exact State.ifThen_idle running (Part.restartReady_not_due notDue) _
    · exact State.ifThen_idle running (Part.restartReady_store store) _

end Sys2Proof.Machine
end

section
/-! SUPPORT. The receiver of the host link, byte by byte (R156, for O39), and the replies that leave (R160, R161,
for O40). -/

namespace Sys2Proof.Machine

/-! ### The receiver -/

namespace Part

variable {p : Part} {b : Byte} {err : Bool} {bytes : List Byte}

theorem hostByte_lead (h : p.host.receiver = .hunting) :
    p.hostByte 0xC3#8 false = { p with host := { p.host with receiver := .inFrame [] } } := by
  rw [hostByte, h]
  rfl

/-- R156: in HUNTING every byte but a lead byte without a stop-bit error is let go. -/
theorem hostByte_hunting_other (h : p.host.receiver = .hunting) (other : b ≠ 0xC3#8 ∨ err = true) :
    p.hostByte b err = p := by
  rw [hostByte, h]
  refine if_neg fun ⟨lead, noError⟩ => ?_
  rcases other with other | other
  · exact other lead
  · exact noError other

theorem hostByte_cut (h : p.host.receiver = .inFrame bytes)
    (cut : err = true ∨ lenTooLong (bytes ++ [b]) = true) : p.hostByte b err = p.cutFrame := by
  rw [hostByte, h]
  exact if_pos cut

theorem hostByte_collected (h : p.host.receiver = .inFrame bytes) (fits : lenTooLong (bytes ++ [b]) = false)
    (part : frameWhole (bytes ++ [b]) = false) :
    p.hostByte b false = { p with host := { p.host with receiver := .inFrame (bytes ++ [b]) } } := by
  rw [hostByte, h]
  simp only [fits, part, Bool.false_eq_true, or_self, if_false]

theorem hostByte_ends (h : p.host.receiver = .inFrame bytes) (fits : lenTooLong (bytes ++ [b]) = false)
    (whole : frameWhole (bytes ++ [b]) = true) : p.hostByte b false = p.frameEnds (bytes ++ [b]) := by
  rw [hostByte, h]
  simp only [fits, whole, Bool.false_eq_true, or_self, if_false, if_true]

theorem hostGap_hunting (h : p.host.receiver = .hunting) : p.hostGap b err = p.hostByte b err := by
  rw [hostGap, h]

theorem hostGap_inFrame (h : p.host.receiver = .inFrame bytes) :
    p.hostGap b err = p.cutFrame.hostByte b err := by
  rw [hostGap, h]

theorem receiver_cutFrame (p : Part) : p.cutFrame.host.receiver = .hunting := rfl

end Part

/-- Settles O39: the row of each byte, by the state of the receiver. -/
theorem frameReceiver : Obligations.FrameReceiver := by
  intro s running hunting
  have row (f : Part → Part) : s.whileRunning f = .next (s.withPart (f s.part)) :=
    State.whileRunning_eq running f
  refine ⟨fun idle => ⟨?_, fun b err other => ?_⟩, fun bytes inFrame =>
    ⟨fun fits part => ?_, fun b => ?_, fun first len long => ?_, ?_, fun b err other => ?_⟩⟩
  · exact (row _).trans (by rw [Part.hostByte_lead idle])
  · refine (row _).trans ?_
    rw [Part.hostGap_hunting idle, Part.hostByte_hunting_other idle other]
    rfl
  · exact (row _).trans (by rw [Part.hostByte_collected inFrame fits part])
  · refine (row _).trans ?_
    rw [Part.hostBytes, Part.hostByte_cut inFrame (.inl rfl)]
    rfl
  · subst first
    refine (row _).trans ?_
    rw [Part.hostBytes, Part.hostByte_cut inFrame (.inr (decide_eq_true long))]
    rfl
  · refine (row _).trans ?_
    rw [Part.hostGap_inFrame inFrame, Part.hostByte_lead (Part.receiver_cutFrame _)]
    rfl
  · refine (row _).trans ?_
    rw [Part.hostGap_inFrame inFrame, Part.hostByte_hunting_other (Part.receiver_cutFrame _) other]
    rfl

/-! ### Replies leave -/

namespace HostLink

variable {h : HostLink}

theorem start_high {r : ReadyReply} {rest : List ReadyReply} (free : h.leaving = none)
    (notDue : h.restartDue = false) (oldest : h.ready = r :: rest) :
    h.start true = { h with hrdy := true, leaving := some r, ready := rest } := by
  simp [start, free, oldest, notDue]

theorem start_low (h : HostLink) : h.start false = { h with hrdy := false } := by
  simp only [start]
  split
  · exact if_neg fun ⟨high, _⟩ => Bool.false_ne_true high
  · rfl

end HostLink

theorem Part.replySent_eq {p : Part} {r : ReadyReply} (h : p.host.leaving = some r) :
    p.replySent = Part.takeFrames 2 { p with host := p.host.sent r } := by
  rw [replySent, h]

/-- Settles O40. -/
theorem repliesLeave : Obligations.RepliesLeave := by
  intro s running
  refine ⟨fun r rest free notDue oldest => ?_, ?_, fun r leaving => ?_⟩
  · exact (State.whileRunning_eq running _).trans (by rw [HostLink.start_high free notDue oldest])
  · exact (State.whileRunning_eq running _).trans (by rw [HostLink.start_low])
  · have row : exec .replySent s
        = .next (s.withPart (Part.takeFrames 2 { s.part with host := s.part.host.sent r })) :=
      (State.whileRunning_eq running _).trans (by rw [Part.replySent_eq leaving])
    refine ⟨row, fun none => row.trans ?_⟩
    rw [Part.takeFrames_none (p := { s.part with host := s.part.host.sent r }) none]
    rfl

end Sys2Proof.Machine
end

section
/-! SUPPORT. The bytes of a request frame (R155 to R157, R174 to R176): its body is read back field by field, and
the receiver takes the frame whole (O8). -/

namespace Sys2Proof.Machine

/-! ### A field of a body (R174) -/

theorem num_cons_succ (b : Byte) (rest : List Byte) (at_ width : Nat) :
    num (b :: rest) (at_ + 1) width = num rest at_ width := rfl

theorem num_byte {n : Nat} (h : fits 1 n = true) (rest : List Byte) : num (byte n :: rest) 0 1 = n :=
  num_leBytes [] rest 1 (of_decide_eq_true h)

theorem num_leBytes_first {width n : Nat} (h : fits width n = true) (rest : List Byte) :
    num (leBytes width n ++ rest) 0 width = n :=
  num_leBytes [] rest width (of_decide_eq_true h)

theorem num_leBytes_alone {width n : Nat} (h : fits width n = true) : num (leBytes width n) 0 width = n := by
  rw [← List.append_nil (leBytes width n), num_leBytes_first h]

theorem num_after_leBytes {field at_ : Nat} (h : field ≤ at_) (n : Nat) (rest : List Byte) (width : Nat) :
    num (leBytes field n ++ rest) at_ width = num rest (at_ - field) width := by
  rw [num, num, List.drop_append, List.drop_eq_nil_of_le (by rwa [length_leBytes]), length_leBytes,
    List.nil_append]

/-- R174: a deck offset is read back from two bytes of two's complement. -/
theorem intOf16_wraps {i : Int} (h : fitsOffset i = true) : intOf16 (i % 65536).toNat = i := by
  simp only [fitsOffset, Bool.and_eq_true, decide_eq_true_eq] at h
  unfold intOf16
  split <;> omega

theorem fits_wraps (i : Int) : fits 2 (i % 65536).toNat = true :=
  decide_eq_true (by omega)

/-! ### The lists of ANNOUNCE TRUCK -/

theorem length_linesBytes (l : List LineArgs) : (linesBytes l).length = 5 * l.length := by
  induction l with
  | nil => rfl
  | cons line rest ih => simp [linesBytes, lineBytes, ih]; omega

theorem length_truckHead (a : TruckArgs) : (truckHead a).length = 15 := by
  simp [truckHead]

theorem readPairs_pairsBytes {l : List Nat} (h : ∀ n ∈ l, fits 2 n = true) (rest : List Byte) :
    readPairs l.length (pairsBytes l ++ rest) = l := by
  induction l with
  | nil => rfl
  | cons n tail ih =>
    obtain ⟨first, others⟩ := List.forall_mem_cons.mp h
    rw [List.length_cons, readPairs, pairsBytes, List.append_assoc, num_leBytes_first first,
      List.drop_left' (length_leBytes 2 n), ih others]

theorem readLines_linesBytes {l : List LineArgs} (h : ∀ line ∈ l, line.wf = true) :
    readLines l.length (linesBytes l) = l := by
  induction l with
  | nil => rfl
  | cons line tail ih =>
    obtain ⟨first, others⟩ := List.forall_mem_cons.mp h
    simp only [LineArgs.wf, Bool.and_eq_true] at first
    rw [List.length_cons, readLines, linesBytes, List.drop_left' (by rfl), ih others]
    simp [lineBytes, num_cons_succ, num_byte, first]

theorem length_truckBody (a : TruckArgs) : (requestBody (.announceTruck a)).length
    = 17 + 2 * a.slots.length + 5 * a.lines.length := by
  simp only [requestBody, List.length_append, length_truckHead, length_pairsBytes, length_linesBytes,
    List.length_singleton]
  omega

/-- R176: the body of ANNOUNCE TRUCK, its slot count between the head and the slots. -/
theorem truckBody_slots (a : TruckArgs) : requestBody (.announceTruck a) = truckHead a
    ++ (byte a.slots.length :: (pairsBytes a.slots ++ (byte a.lines.length :: linesBytes a.lines))) := by
  simp [requestBody]

/-- R175: the fields of ANNOUNCE TRUCK are read back by its two counts. -/
theorem truckOf_body {a : TruckArgs} (wf : a.wf = true) :
    truckOf (requestBody (.announceTruck a)) a.slots.length a.lines.length = a := by
  simp only [TruckArgs.wf, Bool.and_eq_true, List.all_eq_true] at wf
  obtain ⟨⟨⟨head, slots⟩, lines⟩, -⟩ := wf
  have atSlots : readPairs a.slots.length ((requestBody (.announceTruck a)).drop 16) = a.slots := by
    rw [truckBody_slots, List.append_cons, List.drop_left' (by simp [length_truckHead]),
      readPairs_pairsBytes slots]
  have atLines : readLines a.lines.length ((requestBody (.announceTruck a)).drop (17 + 2 * a.slots.length))
      = a.lines := by
    rw [requestBody, List.drop_left' (by simp [length_truckHead, length_pairsBytes]; omega),
      readLines_linesBytes lines]
  rw [truckOf, atSlots, atLines, truckBody_slots]
  simp [truckHead, num_cons_succ, num_byte, num_leBytes_first, num_after_leBytes, head]

theorem decodeTruck_body {a : TruckArgs} (wf : a.wf = true) :
    decodeTruck (requestBody (.announceTruck a)) = .request (.announceTruck a) := by
  have short : 17 + 2 * a.slots.length + 5 * a.lines.length ≤ 120 := by
    simp only [TruckArgs.wf, Bool.and_eq_true, decide_eq_true_eq] at wf
    exact wf.2
  have slotCount : num (requestBody (.announceTruck a)) 15 1 = a.slots.length := by
    rw [truckBody_slots, ← length_truckHead a]
    exact num_leBytes (truckHead a) _ 1 (by omega)
  have lineCount : num (requestBody (.announceTruck a)) (16 + 2 * a.slots.length) 1 = a.lines.length := by
    have before : (truckHead a ++ [byte a.slots.length] ++ pairsBytes a.slots).length
        = 16 + 2 * a.slots.length := by
      simp [length_truckHead, length_pairsBytes]; omega
    rw [requestBody, List.append_assoc, ← before]
    exact num_leBytes _ (linesBytes a.lines) 1 (by omega)
  rw [decodeTruck, slotCount, length_truckBody, if_neg (by omega)]
  simp only
  rw [if_neg (by omega), lineCount, if_pos rfl, truckOf_body wf]

/-! ### Every request -/

theorem length_requestBody {r : Request} (wf : r.wf = true) : (requestBody r).length ≤ 120 := by
  cases r with
  | announceTruck a =>
    rw [length_truckBody]
    simp only [Request.wf, TruckArgs.wf, Bool.and_eq_true, decide_eq_true_eq] at wf
    exact wf.2
  | _ => simp [requestBody, intBytes]

theorem requestKind_lt (r : Request) : requestKind r < 256 := by
  cases r <;> simp only [requestKind] <;> decide

/-- R174 to R176: the KIND and the body of a well-formed request name it. -/
theorem decodeRequest_requestBody {r : Request} (wf : r.wf = true) :
    decodeRequest (requestKind r) (requestBody r) = .request r := by
  cases r with
  | announceTruck a => exact decodeTruck_body wf
  | readSettings | storeSettings | recallSettings | readClock | identify | listTrucks | readLanes | readText
  | abortWeighing | readWeighbridge | readEvents | runAudit | restart => rfl
  | setEventMask _ | setClock _ | removePack _ | holdPack _ | releasePack _ | readPack _ | cancelTruck _
  | pauseTruck _ | resumeTruck _ | departTruck _ | weighIn _ | weighOut _ =>
    simp only [requestKind, requestBody, decodeRequest, fixed, length_leBytes, num_leBytes_alone wf, if_true]
  | readBay _ | openLane _ | closeLane _ | retireLoader _ | readLoader _ =>
    simp only [requestKind, requestBody, decodeRequest, fixed, List.length_singleton, num_byte wf, if_true]
  | setWindow a | setZoning a | setWeather a | setPlanning a | setLoaderLink | enrollLoader =>
    simp only [Request.wf, WindowArgs.wf, ZoningArgs.wf, WeatherArgs.wf, PlanningArgs.wf, Bool.and_eq_true] at wf
    simp [requestKind, requestBody, decodeRequest, fixed, num_cons_succ, num_byte, wf]
  | setSpecies | locatePack | readTruck =>
    simp only [Request.wf, Bool.and_eq_true] at wf
    simp [requestKind, requestBody, decodeRequest, fixed, num_cons_succ, num_byte, num_leBytes_first,
      num_leBytes_alone, num_after_leBytes, wf]
  | registerPack a =>
    simp only [Request.wf, PackArgs.wf, Bool.and_eq_true] at wf
    simp [requestKind, requestBody, decodeRequest, fixed, num_cons_succ, num_byte, num_leBytes_first,
      num_leBytes_alone, num_after_leBytes, wf]
  | setWeighing a =>
    simp only [Request.wf, WeighingArgs.wf, Bool.and_eq_true] at wf
    simp [requestKind, requestBody, decodeRequest, fixed, intBytes, num_cons_succ, num_byte, num_leBytes_first,
      num_after_leBytes, fits_wraps, intOf16_wraps, wf]

/-! ### The frame of a request, in bytes (R155) -/

theorem toNat_byte_length {body : List Byte} (short : body.length ≤ 120) :
    (byte body.length).toNat = body.length := by
  rw [toNat_byte, Nat.mod_eq_of_lt (by omega)]

theorem Frame.frameWhole_rest (f : Frame) : frameWhole f.rest
    = decide ((f.body ++ f.check.toList).length = f.len.toNat + if f.flags.getLsbD 0 then 1 else 0) := rfl

theorem Frame.frameIn_rest {f : Frame} (size : f.body.length = f.len.toNat) : frameIn f.rest = some f := by
  have check : f.check.toList.head? = f.check := by cases f.check <;> rfl
  show some { f with body := (f.body ++ f.check.toList).take f.len.toNat,
                     check := ((f.body ++ f.check.toList).drop f.len.toNat).head? } = some f
  rw [List.take_left' size, List.drop_left' size, check]

section
variable (h : Header) (kind : Byte) {body : List Byte}

theorem length_check_frameWith (body : List Byte) :
    (frameWith h kind body).check.toList.length = if h.check then 1 else 0 := by
  unfold frameWith
  simp only
  split <;> rfl

theorem frameWhole_frameWith (short : body.length ≤ 120) : frameWhole (frameWith h kind body).rest = true := by
  rw [Frame.frameWhole_rest, List.length_append, length_check_frameWith, frameWith_flags_bit, decide_eq_true_eq]
  show body.length + _ = (byte body.length).toNat + _
  rw [toNat_byte_length short]

/-- R155: a frame is read back from its bytes. -/
theorem frameIn_frameWith (short : body.length ≤ 120) :
    frameIn (frameWith h kind body).rest = some (frameWith h kind body) :=
  Frame.frameIn_rest (toNat_byte_length short).symm

end

/-! ### The receiver collects a frame (R156) -/

/-- R156: no proper part of a whole frame is whole. -/
theorem eq_of_frameWhole {part all : List Byte} (begun : part <+: all) (whole : frameWhole all = true)
    (ended : frameWhole part = true) : part = all := by
  obtain ⟨more, rfl⟩ := begun
  match part with
  | len :: kind :: seq :: flags :: body =>
    have size := of_decide_eq_true ended
    have sizeAll := of_decide_eq_true whole
    simp only [List.append_eq, List.length_append] at sizeAll
    have none : more = [] := List.eq_nil_of_length_eq_zero (by omega)
    rw [none, List.append_nil]

/-- R156: a frame whose LEN is at most 120 is not cut short at its LEN. -/
theorem lenTooLong_begun {part all : List Byte} (begun : part <+: all)
    (short : ∀ len ∈ all.head?, len.toNat ≤ 120) : lenTooLong part = false := by
  obtain ⟨more, rfl⟩ := begun
  match part with
  | [] => rfl
  | [len] => exact decide_eq_false (Nat.not_lt.mpr (short len rfl))
  | _ :: _ :: _ => rfl

/-- R156: the bytes of a whole frame are collected until the last, which ends it. -/
theorem Part.hostBytes_frame {all : List Byte} (whole : frameWhole all = true)
    (short : ∀ len ∈ all.head?, len.toNat ≤ 120) (rest : List Byte) :
    ∀ (p : Part) (bytes : List Byte), rest ≠ [] → bytes ++ rest = all → p.host.receiver = .inFrame bytes →
      p.hostBytes false rest = p.frameEnds all := by
  induction rest with
  | nil => exact fun _ _ some => absurd rfl some
  | cons b rest ih =>
    intro p bytes _ split inFrame
    have begun : bytes ++ [b] <+: all := ⟨rest, by rw [← split, ← List.append_cons]⟩
    have fits := lenTooLong_begun begun short
    cases rest with
    | nil => rw [hostBytes, hostByte_ends inFrame fits (split ▸ whole), split]
    | cons c rest =>
      have part : frameWhole (bytes ++ [b]) = false := by
        refine Bool.eq_false_of_not_eq_true fun ended => ?_
        have := congrArg List.length ((eq_of_frameWhole begun whole ended).trans split.symm)
        simp at this
      rw [hostBytes, hostByte_collected inFrame fits part]
      exact ih { p with host := { p.host with receiver := .inFrame (bytes ++ [b]) } } (bytes ++ [b])
        (List.cons_ne_nil c rest) (by rw [← split, ← List.append_cons]) rfl

/-! ### A request frame, taken whole -/

/-- R157, R159: the frame of a well-formed request passes its checks, and the request is performed. -/
theorem Part.judgeFrame_frameOf (p : Part) (h : Header) {r : Request} (wf : r.wf = true) :
    p.judgeFrame (frameOf h r) = p.perform r := by
  have decoded : decodeRequest (frameOf h r).kind.toNat (frameOf h r).body = .request r := by
    show decodeRequest (byte (requestKind r)).toNat (requestBody r) = _
    rw [toNat_byte, Nat.mod_eq_of_lt (requestKind_lt r), decodeRequest_requestBody wf]
  rw [judgeFrame_request (f := frameOf h r) (checkFails_frameWith ..) decoded]
  exact if_pos (frameWith_flags_rest ..)

theorem Part.frameArrives_frameOf {p : Part} (can : p.host.canTake = true) (none : p.host.inbound = [])
    (h : Header) {r : Request} (wf : r.wf = true) :
    p.frameArrives (frameOf h r) = Part.answer (p.perform r) (byte (requestKind r)) h.seq h.check := by
  have judged := p.judgeFrame_frameOf h wf
  rw [frameArrives_taken can none (by rw [judged, inbound_perform, none]), frameOf, takeFrame_frameWith,
    ← frameOf, judged]

/-- R156, R158: the bytes of a well-formed request, collected whole, arrive as its frame. -/
theorem Part.hostBytes_frameOf {p : Part} (begun : p.host.receiver = .inFrame []) (h : Header) {r : Request}
    (wf : r.wf = true) : p.hostBytes false (frameOf h r).rest
      = ({ p with host := { p.host with receiver := .hunting } } : Part).frameArrives (frameOf h r) := by
  have short := length_requestBody wf
  have collected : p.hostBytes false (frameOf h r).rest = p.frameEnds (frameOf h r).rest := by
    refine hostBytes_frame (frameWhole_frameWith _ _ short) (fun len first => ?_) _ p []
      (List.cons_ne_nil _ _) rfl begun
    obtain rfl := Option.some.inj first
    exact (toNat_byte_length short).trans_le short
  rw [collected, frameEnds, frameOf, frameIn_frameWith _ _ short]

theorem State.exec_hostFrameComplete {s : State} (running : s.part.running = true)
    (begun : s.part.host.receiver = .inFrame []) (h : Header) {r : Request} (wf : r.wf = true) :
    exec (.hostFrameComplete (frameOf h r).rest) s = .next (s.withPart (Part.frameArrives
      { s.part with host := { s.part.host with receiver := .hunting } } (frameOf h r))) :=
  (whileRunning_eq running _).trans (by rw [Part.hostBytes_frameOf begun h wf])

/-- Settles O8: the receiver collects the frame, which is then taken as the row takes its request. -/
theorem frameTaken : Obligations.FrameTaken := by
  intro h r s taken idle wf
  have ⟨running, can, empty⟩ := taken
  refine ⟨s.withPart { s.part with host := { s.part.host with receiver := .inFrame [] } }, _, ?_, ?_,
    exec_commandOf_taken taken h r⟩
  · exact (State.whileRunning_eq running _).trans (by rw [Part.hostByte_lead idle])
  · have same : ({ s.part with host := { s.part.host with receiver := .hunting } } : Part) = s.part := by
      rw [← idle]
    refine (State.exec_hostFrameComplete
      (s := s.withPart { s.part with host := { s.part.host with receiver := .inFrame [] } }) running rfl h
      wf).trans ?_
    show Host.Outcome.next (s.withPart (Part.frameArrives
      { s.part with host := { s.part.host with receiver := .hunting } } (frameOf h r))) = _
    rw [same, Part.frameArrives_frameOf can empty h wf]

end Sys2Proof.Machine
end

section
/-! SUPPORT. STORE SETTINGS and RECALL SETTINGS (R166, R167): their taking and their end (O21, O22). -/

namespace Sys2Proof.Machine

namespace Part

/-! ### The refusal that both share (R166) -/

theorem storeRefused_iff (p : Part) : p.storeRefused = true ↔
    p.yard.loader.moves.size ≠ 0 ∨ p.weigh.arming ≠ none ∨ p.flight ≠ .nothing := by
  simp only [storeRefused, Bool.or_eq_true, decide_eq_true_eq, Option.isSome_iff_ne_none, storeBusy_iff,
    or_assoc, ne_eq]

variable {p : Part}

theorem storeRefused_idle (idle : p.flight = .nothing) (moves : p.yard.loader.moves.size = 0)
    (arming : p.weigh.arming = none) : p.storeRefused = false := by
  rw [← Bool.not_eq_true, storeRefused_iff]
  rintro (h | h | h)
  · exact h moves
  · exact h arming
  · exact h idle

/-- R166: what refuses a store or a recall, in the order in which its rule names it. -/
theorem storeRefused_held
    (held : ¬ p.flight = .nothing ∨ p.yard.loader.moves.size ≠ 0 ∨ p.weigh.arming ≠ none) :
    p.storeRefused = true := by
  rw [storeRefused_iff]
  rcases held with flying | moves | arming
  · exact .inr (.inr flying)
  · exact .inl moves
  · exact .inr (.inl arming)

/-! ### The end of a store (R166) -/

theorem storeEnds_store {st : Settings} {tr : Vector Nat 8} (h : p.flight = .store st tr) (agrees : Bool) :
    p.storeEnds agrees = (({ p with
      flight := .nothing
      store := { settings := st, trims := tr, checkWord := checkWordOf st tr, complete := agrees } }).raise
      (if agrees then .storeDone else .storeFail)).serve := by
  rw [storeEnds, h]

end Part

/-- R166: a store with its own check word is good exactly when its completion mark is set. -/
theorem Store.good_of_checkWord {store : Store} (h : store.checkWord = checkWordOf store.settings store.trims) :
    store.good = store.complete := by
  rw [Store.good, decide_eq_true h, Bool.and_true]

/-- Settles O21. -/
theorem storeSettingsWrites : Obligations.StoreSettingsWrites := by
  refine ⟨fun h s taken => ?_, fun s st tr agrees running flight => ⟨?_, Store.good_of_checkWord rfl⟩⟩
  · have answers : ∀ {p : Part} {res : Result}, s.part.storeSettings = (p, .reply res []) →
        exec (.storeSettings h) s = .next (s.replied h 0x0A#8 res [] p) :=
      fun hp => State.request_replied taken h (r := .storeSettings) hp
    refine ⟨fun idle moves arming => answers ?_, fun held => answers ?_⟩
    · rw [Part.storeSettings, Part.storeRefused_idle idle moves arming]
      rfl
    · rw [Part.storeSettings, if_pos (Part.storeRefused_held held)]
      rfl
  · refine (State.whileRunning_eq running _).trans ?_
    rw [Part.storeEnds_store flight]
    rfl

/-! ### What a recall copies (R167) -/

/-- R114: the judgement of every job leaves stacks, packs, trucks and the loader link. -/
theorem Yard.judgeAll_to (e : Env) (y : Yard) : y.JudgedTo (y.judgeAll e) := by
  unfold Yard.judgeAll
  generalize y.jobs.keys = l
  induction l generalizing y with
  | nil => exact .refl y
  | cons n rest ih => exact (y.judge_to e n).trans (ih _)

theorem Yard.judge_events (e : Env) (y : Yard) (n : Nat) : (y.judge e n).events = y.events := by
  rcases y.judge_cases e n with same | ⟨j, -, -, ⟨st, b, -, made⟩ | ⟨-, back⟩⟩
  · rw [same]
  · rw [made, makeReady]
    split <;> rfl
  · rw [back]
    rfl

theorem Yard.judgeAll_events (e : Env) (y : Yard) : (y.judgeAll e).events = y.events := by
  unfold Yard.judgeAll
  generalize y.jobs.keys = l
  induction l generalizing y with
  | nil => rfl
  | cons n rest ih => exact (ih _).trans (y.judge_events e n)

namespace Part

/-- R120: while dispatch is withheld, the queues are not served. -/
theorem judgeAndServe_withheld {p : Part} (flying : p.flight ≠ .nothing) :
    p.judgeAndServe = p.onYard Yard.judgeAll :=
  congrArg (fun y => { p with yard := y }) (Yard.serveAll_of_withheld _ (env_withheld (.inr flying)))

/-- R75, R120: while dispatch is withheld, new planning settings cause judgements at most. -/
theorem setPlanningTo_withheld {p : Part} (flying : p.flight ≠ .nothing) (q : PlanningSettings) :
    ∃ y, p.setPlanningTo q = { p with settings := { p.settings with planning := q }, yard := y }
      ∧ p.yard.JudgedTo y ∧ y.events = p.yard.events := by
  unfold setPlanningTo
  split
  · exact ⟨p.yard, rfl, .refl _, rfl⟩
  · exact ⟨_, judgeAndServe_withheld (p := { p with settings := _ }) flying, Yard.judgeAll_to ..,
      Yard.judgeAll_events ..⟩

/-- R167: the working settings after a recall. -/
def recalledSettings (p : Part) : Settings :=
  { p.store.settings with
    zoning := if p.keepsZoning then p.settings.zoning else p.store.settings.zoning
    laneZones := if p.keepsZoning then p.settings.laneZones else p.store.settings.laneZones
    planning := p.recalledPlanning }

/-- R167, R54: the yard after the cap of a recall, before any job is judged afresh. -/
def recalledWater (p : Part) : Yard :=
  if p.store.settings.weather.capKg < p.settings.weather.capKg then
    p.yard.clampWater p.store.settings.weather.capKg
  else p.yard

/-- R167: the copy of a recall, written out; the judgements that may follow leave stacks, packs, trucks, the
loader link and the flags. -/
theorem recallCopy_spec (p : Part) :
    ∃ wu w y, p.recallCopy = { p with
        flight := .recall, settings := p.recalledSettings, trims := p.store.trims, weather := wu, weigh := w,
        yard := y }
      ∧ p.recalledWater.JudgedTo y ∧ y.events = p.recalledWater.events := by
  have flying : Flight.recall ≠ .nothing := Flight.noConfusion
  obtain ⟨y, planned, judged, events⟩ := setPlanningTo_withheld
    (p := ((({ p with flight := .recall }).recallPlain).setWeather p.store.settings.weather).setWeighingTo
      p.store.settings.weighing) flying p.recalledPlanning
  exact ⟨_, _, y, planned, judged, events⟩

variable (p : Part)

/-- R167, R54: a lowered cap clamps the surface water of every pack. -/
theorem pack?_recalledWater (tag : Nat) : p.recalledWater.pack? tag = (p.yard.pack? tag).map fun k =>
    if p.store.settings.weather.capKg < p.settings.weather.capKg
      then { k with water := min k.water (p.store.settings.weather.capKg * 1000) }
      else k := by
  unfold recalledWater
  split
  · exact Yard.pack?_clampWater ..
  · exact Option.map_id'.symm

/-- R167: the clamp of a recall writes packs alone. -/
theorem recalledWater_rest : p.recalledWater.stack = p.yard.stack ∧ p.recalledWater.trucks = p.yard.trucks
    ∧ p.recalledWater.loader = p.yard.loader ∧ p.recalledWater.events = p.yard.events := by
  unfold recalledWater
  split <;> exact ⟨rfl, rfl, rfl, rfl⟩

theorem recalledPlanning_eq : p.recalledPlanning = { p.store.settings.planning with
    headroom := if p.yard.someLoading then p.settings.planning.headroom
      else p.store.settings.planning.headroom } := by
  unfold recalledPlanning keepsHeadroom
  split <;> rfl

theorem keptBits_eq : p.keptBits
    = byte ((if p.yard.jobs.size ≠ 0 then 1 else 0) + (if p.yard.someLoading then 2 else 0)) := by
  rw [keptBits, keepsZoning, keepsHeadroom]
  simp only [decide_eq_true_eq]

/-! ### The end of a recall (R167) -/

variable {p}

theorem recallEnds_recall (h : p.flight = .recall) :
    p.recallEnds = ({ p with flight := .nothing, host := p.host.recallOver } : Part).serve := by
  rw [recallEnds, h]

end Part

/-- R167: the reply of a recall that alone waits becomes ready behind those that are. -/
theorem HostLink.recallOver_single {h : HostLink} {seq kept : Byte} {chk : Bool}
    (waits : h.awaiting = [{ kind := 0x0B#8, seq := seq, check := chk, what := .recall kept }]) :
    h.recallOver = { h with
      awaiting := []
      ready := h.ready ++
        [{ reply := { kind := 0x8B#8, seq := seq, result := .ok, body := [kept], check := chk }
           holder := .buffer }] } := by
  simp [HostLink.recallOver, HostLink.waitOver, waits]

/-- Settles O22: the copy is `Part.recallCopy_spec`. -/
theorem recallSettingsCopies : Obligations.RecallSettingsCopies := by
  refine ⟨fun h s taken => ?_, fun s seq kept chk running flight waits => ?_⟩
  · have refuses : ∀ {res : Result}, s.part.recallSettings = s.part.refuse res →
        exec (.recallSettings h) s = .next (s.refused h 0x0B#8 res) :=
      fun hp => State.request_replied taken h (r := .recallSettings) hp
    refine ⟨fun idle moves arming good => ?_, fun idle moves arming bad => refuses ?_, fun held => refuses ?_⟩
    · have performed : s.part.recallSettings = (s.part.recallCopy, .awaitRecall s.part.keptBits) := by
        rw [Part.recallSettings, Part.storeRefused_idle idle moves arming, good]
        rfl
      obtain ⟨wu, w, y, copied, judged, flags⟩ := s.part.recallCopy_spec
      obtain ⟨stack, trucks, loader, events⟩ := s.part.recalledWater_rest
      refine ⟨s.part.recallCopy, ?_⟩
      rw [copied] at performed ⊢
      refine ⟨?_, rfl, rfl, rfl, rfl, rfl, rfl, rfl, judged.stack.trans stack, judged.trucks.trans trucks,
        judged.loader.trans loader, flags.trans events,
        fun tag => (judged.pack? tag).trans (s.part.pack?_recalledWater tag), ?_⟩
      · refine (exec_commandOf_taken taken h .recallSettings).trans ?_
        rw [← s.part.keptBits_eq]
        show Host.Outcome.next (s.withPart (Part.answer s.part.recallSettings _ _ _)) = _
        rw [performed]
        rfl
      · show s.part.recalledSettings = _
        simp only [Part.recalledSettings, Part.recalledPlanning_eq, Part.keepsZoning, decide_eq_true_eq]
    · rw [Part.recallSettings, Part.storeRefused_idle idle moves arming, bad]
      rfl
    · rw [Part.recallSettings, if_pos (Part.storeRefused_held held)]
  · refine (State.whileRunning_eq running _).trans ?_
    rw [Part.recallEnds_recall flight, HostLink.recallOver_single waits]

end Sys2Proof.Machine
end

section
/-! SUPPORT. SET CLOCK and the tick of the clock (R169), for O23. -/

namespace Sys2Proof.Machine

namespace Part

/-- R74: without an expired stock wait none is taken. -/
theorem stockExpiries_none {p : Part} (h : p.yard.expiredWait p.clock = none) (fuel : Nat) :
    Part.stockExpiries fuel p = p := by
  cases fuel with
  | zero => rfl
  | succ fuel => rw [stockExpiries, h]

/-- R169: a clock that has reached no deadline lets none expire. -/
theorem expireAll_none {p : Part} (drying : due p.clock p.weather.deadline = false)
    (weighing : due p.clock (p.weigh.arming.map Arming.deadline) = false)
    (waits : p.yard.expiredWait p.clock = none) : p.expireAll = p := by
  simp only [expireAll, drying, weighing, Bool.false_eq_true, if_false]
  exact stockExpiries_none waits _

theorem setClock_inRange (p : Part) {c : Nat} (h : c ≤ 4294967295) :
    p.setClock c = (({ p with clock := c }).expireAll, .ok (timeBytes p.clock ++ timeBytes c)) :=
  if_neg (Nat.not_lt.mpr h)

end Part

/-- Settles O23. -/
theorem clockCommands : Obligations.ClockCommands := by
  refine ⟨fun h c s taken inRange => ?_, fun s => rfl⟩
  have written := State.request_replied taken h (r := .setClock c) (s.part.setClock_inRange inRange)
  refine ⟨written, fun drying weighing waits => ?_⟩
  rw [Part.expireAll_none (p := { s.part with clock := c }) drying weighing waits] at written
  exact written

end Sys2Proof.Machine
end

section
/-! SUPPORT. A part without VDD or held in RESET (R171), and the rows of the supplies and the RESET pin (R166,
R170, R171), for O4 and O41. -/

namespace Sys2Proof.Machine

/-! ### A stopped part (R171) -/

namespace State

variable {s : State}

theorem whileRunning_stopped (stopped : s.part.running = false) (f : Part → Part) :
    s.whileRunning f = .next s := by
  show Host.Outcome.next (s.withPart (s.part.whileRunning f)) = _
  rw [Part.whileRunning, stopped]
  rfl

theorem request_stopped (stopped : s.part.running = false) (h : Header) (r : Request) :
    s.request h r = .next s := by
  show Host.Outcome.next (s.withPart (s.part.request h r)) = _
  rw [Part.request, stopped]
  rfl

theorem answered_stopped (stopped : s.part.running = false) (line : AnswerLine) (a : Option Answer) :
    s.answered line a = .next s := by
  unfold answered
  split
  · exact whileRunning_stopped stopped _
  · rfl
  · exact whileRunning_stopped stopped _

end State

/-- Settles O4: by the kind of row, a host request, an answer of a terminal, or another arrival. -/
theorem stoppedPartIgnores : Obligations.StoppedPartIgnores := by
  intro c s stopped needs
  cases c with
  | powerOn | powerFail | retentionLatchSet | resetAssert | resetRelease | clockTick => cases needs
  | idle | accept | lifted | done | fault | withdrawn | tooLate | text =>
    exact State.answered_stopped stopped _ _
  | unknownKind => exact State.whileRunning_stopped stopped _
  | hostFrameComplete | hostFrameCutShort | hostFrameGap | hostFrameBegin | replyStart | replySent
  | restartSequence | storeEnd | recallEnd | dryingExpiry | stockWaitExpiry | weighDeadlineExpiry | rainPulse
  | rainStep | rainOtherEdge | haltAssert | haltRelease | weighRecordBegin | weighRecord | weighDiscard
  | loaderTurn | probe | clearAllExchange | answerTimeout => exact State.whileRunning_stopped stopped _
  | _ => exact State.request_stopped stopped _ _

/-! ### The supplies and the RESET pin (R170, R171) -/

namespace Part

variable {p : Part}

theorem powerOn_released (vdd : p.power.vdd = false) (pin : p.power.resetPin = false) (pins : Pins) :
    p.powerOn pins = ({ p with power := { p.power with vdd := true } } : Part).restart pins := by
  rw [powerOn, if_neg (Bool.eq_false_iff.mp vdd)]
  exact if_neg (Bool.eq_false_iff.mp pin)

theorem powerOn_held (vdd : p.power.vdd = false) (pin : p.power.resetPin = true) (pins : Pins) :
    p.powerOn pins = { p with power := { p.power with vdd := true } } := by
  rw [powerOn, if_neg (Bool.eq_false_iff.mp vdd)]
  exact if_pos pin

theorem latchSet_unpowered (vdd : p.power.vdd = false) :
    p.latchSet = { p with power := { p.power with latch := true } } :=
  if_neg (Bool.eq_false_iff.mp vdd)

theorem latchSet_powered (vdd : p.power.vdd = true) : p.latchSet = p := if_pos vdd

theorem resetReleased_powered (pin : p.power.resetPin = true) (vdd : p.power.vdd = true) (pins : Pins) :
    p.resetReleased pins = ({ p with power := { p.power with resetPin := false } } : Part).restart pins := by
  rw [resetReleased, if_pos pin]
  exact if_pos vdd

theorem resetReleased_unpowered (pin : p.power.resetPin = true) (vdd : p.power.vdd = false) (pins : Pins) :
    p.resetReleased pins = { p with power := { p.power with resetPin := false } } := by
  rw [resetReleased, if_pos pin]
  exact if_neg (Bool.eq_false_iff.mp vdd)

end Part

/-- Settles O41. -/
theorem supplyRows : Obligations.SupplyRows := by
  intro s pins
  have row : ∀ {p q : Part}, p = q →
      (.next (s.withPart p) : Host.Outcome State Fault Refusal) = .next (s.withPart q) :=
    congrArg fun p => Host.Outcome.next (s.withPart p)
  exact ⟨fun vdd pin => row (Part.powerOn_released vdd pin pins),
    fun vdd pin => row (Part.powerOn_held vdd pin pins), rfl,
    fun vdd => row (Part.latchSet_unpowered vdd), fun vdd => row (Part.latchSet_powered vdd), rfl,
    fun pin vdd => row (Part.resetReleased_powered pin vdd pins),
    fun pin vdd => row (Part.resetReleased_unpowered pin vdd pins)⟩

end Sys2Proof.Machine
end

section
/-! PROOF. The codec of the request bodies (R174 to R176). -/

namespace Sys2Proof.Machine

/-- Settles O7: `decodeRequest_requestBody` splits on the kinds. Bodies of a fixed length are read back
field by field, and ANNOUNCE TRUCK (`decodeTruck_body`) by induction on its slots and its order lines. -/
theorem requestCodec : Obligations.RequestCodec := fun _ wf => decodeRequest_requestBody wf

end Sys2Proof.Machine
end
